-- ==== Sys2Proof/Word.lean ====
section
/-! DEFINITION. The word types of the part: bytes, tags and the fixed-size byte blocks it carries. -/

namespace Sys2Proof

/-- One byte on either link. -/
abbrev Byte := BitVec 8

/-- The identity of a terminal (Table 3-2 of 00_scope.md): 48 bits. -/
abbrev Tag := BitVec 48

/-- The identity of a request on the control port: 16 bits. -/
abbrev ReqTag := BitVec 16

/-- A setpoint sequence or a crane sequence: 16 bits, carried and never interpreted (R97, R107). -/
abbrev Seq := BitVec 16

/-- The index of one of the 24 radio heads (R25). -/
abbrev HeadIx := Fin 24

/-- A sector of a head's beam. -/
abbrev Sector := Fin 8

/-- One of the 64 stretches of the quay. -/
abbrev Segment := Fin 64

/-- The 16 opaque bytes of a setpoint or of a feedback. -/
abbrev Bytes16 := Vector Byte 16

/-- The 48 bytes of a side block. -/
abbrev Bytes48 := Vector Byte 48

end Sys2Proof
end

