-- ==== Sys2Proof/Machine/Bytes.lean ====
section
/-! DEFINITION. Byte order of both links: most significant byte first, signed fields in two's complement
(00_scope.md 3.6). -/

namespace Sys2Proof.Machine

/-- The number that bytes spell, most significant byte first. -/
def beNat (l : List Byte) : Nat :=
  l.foldl (fun acc b => acc * 256 + b.toNat) 0

/-- `n` in `width` bytes, most significant first. -/
def beBytes : (width : Nat) → (n : Nat) → List Byte
  | 0, _ => []
  | w + 1, n => BitVec.ofNat 8 (n / 256 ^ w) :: beBytes w n

/-- An unsigned field of one, two, four or six bytes. -/
def u8 (n : Nat) : List Byte := beBytes 1 n
def u16 (n : Nat) : List Byte := beBytes 2 n
def u32 (n : Nat) : List Byte := beBytes 4 n
def u48 (n : Nat) : List Byte := beBytes 6 n

/-- A signed field of two bytes. -/
def i16 (v : Int) : List Byte := u16 (BitVec.ofInt 16 v).toNat

/-- The signed number that two bytes spell. -/
def beInt16 (l : List Byte) : Int := (BitVec.ofNat 16 (beNat l)).toInt

/-- A two-valued mark (Table 11-7): 00H no or clear, 01H yes or set. -/
def mark (b : Bool) : List Byte := [if b then 1 else 0]

/-- An optional field (R173): one presence byte, then the field's bytes, which are zero when it is absent. -/
def optField {α : Type} (width : Nat) (enc : α → List Byte) : Option α → List Byte
  | none => 0 :: List.replicate width 0
  | some a => 1 :: enc a

/-- Two bytes as a 16-bit word, and six as a 48-bit word, most significant byte first. -/
def word16 (a b : Byte) : BitVec 16 := a ++ b
def word48 (a b c d e f : Byte) : BitVec 48 := a ++ b ++ c ++ d ++ e ++ f

/-- The bytes of a 16-bit and of a 48-bit word, most significant byte first. -/
def bytes16 (w : BitVec 16) : List Byte := [w.extractLsb' 8 8, w.extractLsb' 0 8]
def bytes48 (w : BitVec 48) : List Byte :=
  [w.extractLsb' 40 8, w.extractLsb' 32 8, w.extractLsb' 24 8, w.extractLsb' 16 8, w.extractLsb' 8 8,
    w.extractLsb' 0 8]

/-- A list of exactly `n` bytes as a block. -/
def block? (n : Nat) (l : List Byte) : Option (Vector Byte n) :=
  if h : l.length = n then some ⟨l.toArray, by simpa using h⟩ else none

end Sys2Proof.Machine
end

