-- ==== Sys2Proof/Syntax.lean ====
section
/-! DEFINITION. The commands of the part: one constructor of `Instr` for each row of spec/opcode_table.json, with
the operands its message carries (Tables 11-1 and 11-5). -/

namespace Sys2Proof

/-- The 26 request kinds (Table 9-1), in the order of their kind codes (Table 11-1). -/
inductive ReqKind where
  | attach | find | read | amend | retire
  | craneStart | setpoint | craneStop | craneResume | craneRelease | sideDown | craneRead
  | reeferRead | reeferParams | page
  | headConfig | headRead | headClear | sweepSet | shadowSet | shadowRead
  | classParams | pollWindowSet | partConfig | partStatus | restart
  deriving DecidableEq, Repr

/-- A request of the control port less its kind code (Table 11-1): the request tag, the target form code, the 48-bit
target value and the bytes of the option list, END included, as they arrived. -/
structure Request where
  reqTag : ReqTag
  form : Byte
  target : BitVec 48
  opts : List Byte
  deriving DecidableEq, Repr

/-- One entry of a measurement report as it arrives (Table 11-5). -/
structure MeasEntry where
  head : Byte
  sector : Byte
  level : Byte
  deriving DecidableEq, Repr

/-- Two bytes of a side block, in the order in which they stand in it (R108). -/
structure Fragment where
  fst : Byte
  snd : Byte
  deriving DecidableEq, Repr

/-- The fields of a crane uplink after its tag (Table 11-5). -/
structure UplinkFields where
  head : Byte
  start : Bool
  seq : Seq
  feedback : Bytes16
  frag : Fragment
  deriving DecidableEq, Repr

/-- The fields of a reefer report after its tag (Table 11-5); a field whose presence bit is clear is `none`. -/
structure ReportFields where
  head : Byte
  supply : Option (BitVec 16)
  ret : Option (BitVec 16)
  setpoint : Option (BitVec 16)
  flags : BitVec 16
  power : Byte
  deriving DecidableEq, Repr

/-- The commands. Requests carry a `Request`; quay-link events carry the fields of Table 11-5; expiries name the record
whose timer has run out; the three sends mark the moment at which a line is free for its next message. -/
inductive Instr where
  -- requests of the control port (Table 9-1)
  | attach (r : Request)
  | find (r : Request)
  | read (r : Request)
  | amend (r : Request)
  | retire (r : Request)
  | craneStart (r : Request)
  | setpoint (r : Request)
  | craneStop (r : Request)
  | craneResume (r : Request)
  | craneRelease (r : Request)
  | sideDown (r : Request)
  | craneRead (r : Request)
  | reeferRead (r : Request)
  | reeferParams (r : Request)
  | page (r : Request)
  | headConfig (r : Request)
  | headRead (r : Request)
  | headClear (r : Request)
  | sweepSet (r : Request)
  | shadowSet (r : Request)
  | shadowRead (r : Request)
  | classParams (r : Request)
  | pollWindowSet (r : Request)
  | partConfig (r : Request)
  | partStatus (r : Request)
  | restart (r : Request)
  /-- A request whose kind code is none of the 26 (R157). -/
  | unknownRequestKind (kind : Byte) (r : Request)
  /-- A control-port message too short for a request header (R157), with its bytes. -/
  | incompleteRequestHeader (msg : List Byte)
  -- events of the quay link (Table 10-1)
  | measurementReport (tag : Tag) (entries : List MeasEntry)
  | craneUplink (tag : Tag) (u : UplinkFields)
  | reeferReport (tag : Tag) (f : ReportFields)
  | dozeAck (tag : Tag) (head : Byte) (state : Byte)
  | pageAnswer (tag : Tag) (head : Byte)
  | headUp (head : Byte)
  | syncLock (head : Byte)
  | syncLost (head : Byte)
  | lineFault (head : Byte) (short : Bool)
  /-- A quay-link message of unknown kind or too short for its kind (R169), with its bytes. -/
  | unknownEventKind (msg : List Byte)
  -- the strobe and the reset input
  | frameStrobe
  | coldReset
  -- expiries of the part's own timers (R171)
  | startTimerExpiry (head : HeadIx)
  | lockWaitExpiry (head : HeadIx)
  | holdoverExpiry (head : HeadIx)
  | dwellExpiry (head : HeadIx)
  | cycleExpiry (link : Fin 32)
  | ackLimitExpiry (record : Fin 4096)
  | pageAnswerExpiry (record : Fin 4096)
  | pollAnswerExpiry (record : Fin 4096)
  | secondExpiry
  | overdueExpiry (record : Fin 4096)
  -- the outgoing sides of the two ports
  | replySend
  | noticeSend
  | orderSend
  deriving DecidableEq, Repr

end Sys2Proof
end

