-- ==== Sys2Proof/Decode.lean ====
section
/-! DEFINITION. Reading and writing the messages of both links (Chapter 11): the readers are total on any bytes, a
control-port message giving one request command (R157, R173) and a quay-link message one event command (R169, R174);
the writers give the bytes of a command. No row of spec/opcode_table.json has bits, so `decodeTableWord` answers none. -/

namespace Sys2Proof

/-- The kind code of a request kind (Table 11-1). -/
def ReqKind.code : ReqKind → Byte
  | .attach => 0x01 | .find => 0x02 | .read => 0x03 | .amend => 0x04 | .retire => 0x05
  | .craneStart => 0x06 | .setpoint => 0x07 | .craneStop => 0x08 | .craneResume => 0x09 | .craneRelease => 0x0A
  | .sideDown => 0x0B | .craneRead => 0x0C | .reeferRead => 0x0D | .reeferParams => 0x0E | .page => 0x0F
  | .headConfig => 0x10 | .headRead => 0x11 | .headClear => 0x12 | .sweepSet => 0x13 | .shadowSet => 0x14
  | .shadowRead => 0x15 | .classParams => 0x16 | .pollWindowSet => 0x17 | .partConfig => 0x18
  | .partStatus => 0x19 | .restart => 0x1A

/-- The request kinds in the order of Table 9-1. -/
def ReqKind.all : List ReqKind :=
  [.attach, .find, .read, .amend, .retire, .craneStart, .setpoint, .craneStop, .craneResume, .craneRelease,
    .sideDown, .craneRead, .reeferRead, .reeferParams, .page, .headConfig, .headRead, .headClear, .sweepSet,
    .shadowSet, .shadowRead, .classParams, .pollWindowSet, .partConfig, .partStatus, .restart]

/-- The request kind a kind code names, 01H..1AH (Table 11-1). -/
def ReqKind.ofCode (b : Byte) : Option ReqKind := ReqKind.all.find? fun k => k.code == b

/-- The command of a request of a kind. -/
def ReqKind.command (k : ReqKind) (r : Request) : Instr :=
  match k with
  | .attach => .attach r | .find => .find r | .read => .read r | .amend => .amend r | .retire => .retire r
  | .craneStart => .craneStart r | .setpoint => .setpoint r | .craneStop => .craneStop r
  | .craneResume => .craneResume r | .craneRelease => .craneRelease r | .sideDown => .sideDown r
  | .craneRead => .craneRead r | .reeferRead => .reeferRead r | .reeferParams => .reeferParams r
  | .page => .page r | .headConfig => .headConfig r | .headRead => .headRead r | .headClear => .headClear r
  | .sweepSet => .sweepSet r | .shadowSet => .shadowSet r | .shadowRead => .shadowRead r
  | .classParams => .classParams r | .pollWindowSet => .pollWindowSet r | .partConfig => .partConfig r
  | .partStatus => .partStatus r | .restart => .restart r

/-- The kind and the fields of a request command. -/
def Instr.asRequest : Instr → Option (ReqKind × Request)
  | .attach r => some (.attach, r) | .find r => some (.find, r) | .read r => some (.read, r)
  | .amend r => some (.amend, r) | .retire r => some (.retire, r) | .craneStart r => some (.craneStart, r)
  | .setpoint r => some (.setpoint, r) | .craneStop r => some (.craneStop, r)
  | .craneResume r => some (.craneResume, r) | .craneRelease r => some (.craneRelease, r)
  | .sideDown r => some (.sideDown, r) | .craneRead r => some (.craneRead, r)
  | .reeferRead r => some (.reeferRead, r) | .reeferParams r => some (.reeferParams, r) | .page r => some (.page, r)
  | .headConfig r => some (.headConfig, r) | .headRead r => some (.headRead, r)
  | .headClear r => some (.headClear, r) | .sweepSet r => some (.sweepSet, r) | .shadowSet r => some (.shadowSet, r)
  | .shadowRead r => some (.shadowRead, r) | .classParams r => some (.classParams, r)
  | .pollWindowSet r => some (.pollWindowSet, r) | .partConfig r => some (.partConfig, r)
  | .partStatus r => some (.partStatus, r) | .restart r => some (.restart, r)
  | _ => none

/-! ### Requests -/

/-- Read a control-port message (R157, R173): one shorter than the 10 bytes of a header is an incomplete header; a kind
code that is none of the 26 is an unknown kind. -/
def readRequest (msg : List Byte) : Instr :=
  match msg with
  | k :: t1 :: t0 :: form :: a :: b :: c :: d :: e :: f :: opts =>
    let r : Request :=
      { reqTag := Machine.word16 t1 t0, form := form, target := Machine.word48 a b c d e f, opts := opts }
    match ReqKind.ofCode k with
    | some kind => kind.command r
    | none => .unknownRequestKind k r
  | short => .incompleteRequestHeader short

/-- The header and option list of a request under a kind code (Table 11-1). -/
def Request.bytes (kind : Byte) (r : Request) : List Byte :=
  kind :: (Machine.bytes16 r.reqTag ++ r.form :: (Machine.bytes48 r.target ++ r.opts))

/-- The bytes of a control-port command. -/
def requestBytes (i : Instr) : Option (List Byte) :=
  match i.asRequest with
  | some (k, r) => some (r.bytes k.code)
  | none =>
    match i with
    | .unknownRequestKind k r => some (r.bytes k)
    | .incompleteRequestHeader msg => some msg
    | _ => none

/-! ### Events -/

/-- The first `n` entries of a measurement report, three bytes each; `none` when the bytes run out. -/
def readEntries : (n : Nat) → List Byte → Option (List MeasEntry)
  | 0, _ => some []
  | n + 1, h :: x :: l :: rest => (readEntries n rest).map fun es => { head := h, sector := x, level := l } :: es
  | _ + 1, _ => none

/-- A field of a reefer report under its presence bit (R174). -/
def presentField (bit : Bool) (a b : Byte) : Option (BitVec 16) := if bit then some (Machine.word16 a b) else none

/-- The event of a kind code and the bytes after it (Table 11-5); `none` for an unknown kind code and for a message
shorter than its kind's layout. Bytes beyond the layout are not read (R174). -/
def readFields (kind : Byte) (body : List Byte) : Option Instr :=
  if kind = 0x10 then
    match body with
    | a :: b :: c :: d :: e :: f :: n :: rest =>
      (readEntries n.toNat rest).map fun es => .measurementReport (Machine.word48 a b c d e f) es
    | _ => none
  else if kind = 0x11 then
    match body with
    | a :: b :: c :: d :: e :: f :: h :: flags :: s1 :: s0 :: rest =>
      match Machine.block? 16 (rest.take 16), rest.drop 16 with
      | some fb, x :: y :: _ =>
        some (.craneUplink (Machine.word48 a b c d e f)
          { head := h, start := flags.getLsbD 0, seq := Machine.word16 s1 s0, feedback := fb,
            frag := { fst := x, snd := y } })
      | _, _ => none
    | _ => none
  else if kind = 0x12 then
    match body with
    | a :: b :: c :: d :: e :: f :: h :: p :: s1 :: s0 :: r1 :: r0 :: t1 :: t0 :: g1 :: g0 :: w :: _ =>
      some (.reeferReport (Machine.word48 a b c d e f)
        { head := h, supply := presentField (p.getLsbD 0) s1 s0, ret := presentField (p.getLsbD 1) r1 r0,
          setpoint := presentField (p.getLsbD 2) t1 t0, flags := Machine.word16 g1 g0, power := w })
    | _ => none
  else if kind = 0x13 then
    match body with
    | a :: b :: c :: d :: e :: f :: h :: st :: _ => some (.dozeAck (Machine.word48 a b c d e f) h st)
    | _ => none
  else if kind = 0x14 then
    match body with
    | a :: b :: c :: d :: e :: f :: h :: _ => some (.pageAnswer (Machine.word48 a b c d e f) h)
    | _ => none
  else if kind = 0x20 then
    match body with
    | h :: _ => some (.headUp h)
    | _ => none
  else if kind = 0x21 then
    match body with
    | h :: _ => some (.syncLock h)
    | _ => none
  else if kind = 0x22 then
    match body with
    | h :: _ => some (.syncLost h)
    | _ => none
  else if kind = 0x23 then
    match body with
    | h :: x :: _ => some (.lineFault h (x.getLsbD 0))
    | _ => none
  else none

/-- Read a quay-link message that is one of the kinds of Table 10-1 in full. -/
def readKnownEvent : List Byte → Option Instr
  | k :: body => readFields k body
  | [] => none

/-- Read a quay-link message (R169, R174). -/
def readEvent (msg : List Byte) : Instr := (readKnownEvent msg).getD (.unknownEventKind msg)

/-- The two bytes of an optional field: zero when it is absent. -/
def fieldBytes : Option (BitVec 16) → List Byte
  | some w => Machine.bytes16 w
  | none => [0, 0]

/-- The bytes of a quay-link command (Table 11-5). -/
def eventBytes : Instr → Option (List Byte)
  | .measurementReport tag es =>
    some (0x10 :: (Machine.bytes48 tag ++ BitVec.ofNat 8 es.length ::
      es.flatMap fun e => [e.head, e.sector, e.level]))
  | .craneUplink tag u =>
    some (0x11 :: (Machine.bytes48 tag ++ u.head :: (if u.start then 1 else 0) ::
      (Machine.bytes16 u.seq ++ (u.feedback.toList ++ [u.frag.fst, u.frag.snd]))))
  | .reeferReport tag f =>
    some (0x12 :: (Machine.bytes48 tag ++ f.head ::
      (((if f.supply.isSome then 1 else 0) + (if f.ret.isSome then 2 else 0) + (if f.setpoint.isSome then 4 else 0)) ::
        (fieldBytes f.supply ++ (fieldBytes f.ret ++ (fieldBytes f.setpoint ++
          (Machine.bytes16 f.flags ++ [f.power])))))))
  | .dozeAck tag h st => some (0x13 :: (Machine.bytes48 tag ++ [h, st]))
  | .pageAnswer tag h => some (0x14 :: (Machine.bytes48 tag ++ [h]))
  | .headUp h => some [0x20, h]
  | .syncLock h => some [0x21, h]
  | .syncLost h => some [0x22, h]
  | .lineFault h short => some [0x23, h, if short then 1 else 0]
  | .unknownEventKind msg => some msg
  | _ => none

/-! ### The table's bits -/

/-- The command that a word of a table row spells: no row of spec/opcode_table.json has bits (log 23). -/
def decodeTableWord (_nbits _w : Nat) : Option Instr := none

end Sys2Proof
end

