-- ==== Sys2Proof/Config.lean ====
section
/-! DEFINITION. The numbers of the part: capacities, default settings and limits that the manual fixes
(Table 4-1 of 00_scope.md and the chapters' own tables). The manual calls nothing implementation-defined or
undefined, so no constant here is a free value. -/

namespace Sys2Proof.Config

/-- Slots of the terminal context table (R1). -/
def contextSlots : Nat := 6144
/-- Crane link records (R92). -/
def craneLinks : Nat := 32
/-- Reefer status records (R126). -/
def reeferRecords : Nat := 4096
/-- Entries of a candidate list (R9). -/
def candidateEntries : Nat := 4
/-- Entries of the in-flight list (R161). -/
def inflightEntries : Nat := 64
/-- Entries of the notice queue (R162). -/
def noticeEntries : Nat := 512
/-- Entries of a head's page queue (R148). -/
def pageEntries : Nat := 32
/-- Entries of a measurement report that are read (R174). -/
def reportEntries : Nat := 4
/-- The upper limit of the unmatched-uplink count (R169). -/
def unmatchedMax : Nat := 65535
/-- The upper limit of a report age (R144). -/
def ageMax : Nat := 4294967295
/-- Frames of one second (R171). -/
def framesPerSecond : Nat := 1000

/-- Cold values of a head record (R47). -/
def capacity : Nat := 200
def startFrames : Nat := 1024
def lockLimit : Nat := 8192
def holdoverLimit : Nat := 4000
/-- Cold value of a requested poll window (R67). -/
def pollWindow : Nat := 16
/-- Cold value of the load weight W (R91). -/
def loadWeight : Nat := 64

/-- Settings of a crane link at allocation (R15). -/
def period : Nat := 8
def standingUnits : Nat := 12
def holdLimit : Nat := 3
def missLimit : Nat := 4

/-- Settings of a reefer record at allocation (R15). -/
def interval : Nat := 900
def grace : Nat := 60

/-- The position of the last two bytes of a side block (R111). -/
def lastSidePosition : Nat := 23
/-- Fragments of a whole side block (R108). -/
def sideFragments : Nat := 24

end Sys2Proof.Config
end

