-- ==== Sys2Proof/Machine/State.lean ====
section
/-! DEFINITION. The state of the part as plain data: every record and figure of Table 1-1 (00_scope.md), the queue of
waiting commands, and the value of each after a cold reset. -/

namespace Sys2Proof.Machine

/-- A table of records keyed by slot number; the canonical form (`Table.wf`) has the keys strictly rising. -/
abbrev Table (α : Type) := List (Nat × α)

/-! ### Terminal contexts (Chapter 1) -/

/-- The four classes of a context (R3). -/
inductive Class where
  | crane | reefer | vehicle | handheld
  deriving DecidableEq, Repr

/-- A candidate entry (Table 1-3 of 01_terminal_contexts.md). -/
structure Candidate where
  head : HeadIx
  sector : Sector
  level : Nat
  ttt : Nat
  missing : Nat
  score : Nat
  deriving DecidableEq, Repr

/-- A terminal context (Table 1-2 of 01_terminal_contexts.md). -/
structure Context where
  tag : Tag
  cls : Class
  serving : Option HeadIx
  sector : Sector
  segment : Option Segment
  pinned : Bool
  cands : List Candidate
  ext : Option Nat
  lastReport : Option (BitVec 32)
  deriving DecidableEq, Repr

/-! ### Heads (Chapter 2) -/

/-- The five states of a head (2.2). -/
inductive HeadState where
  | offline | starting | active | holdover | faulted
  deriving DecidableEq, Repr

/-- Why a head last entered FAULTED (Table 2-1). -/
inductive FaultCause where
  | none | lineOpen | lineShort | noLock | holdoverExpired
  deriving DecidableEq, Repr

/-- A sweep schedule (R39): 16 slots, each a sector or SILENT (`none`), the enabled count N and the dwell D. -/
structure Schedule where
  slots : Vector (Option Sector) 16
  count : Nat
  dwell : Nat
  deriving DecidableEq, Repr

/-- Where a sweep stands (R40): the current slot and the frames of dwell remaining. -/
structure SweepPos where
  slot : Nat
  remaining : Nat
  deriving DecidableEq, Repr

/-- A head record (Table 2-1 of 02_quay_radio_heads.md). The effective capacity E is computed from `state` and
`capacity` (R26). A timer is `some n` while it runs with n frames remaining; `startTimer = none` is the expired mark. -/
structure Head where
  state : HeadState
  capacity : Nat
  locked : Bool
  startFrames : Nat
  lockLimit : Nat
  holdoverLimit : Nat
  startTimer : Option Nat
  lockTimer : Option Nat
  holdoverTimer : Option Nat
  cause : FaultCause
  spanFirst : Segment
  spanLast : Segment
  active : Schedule
  sweep : Option SweepPos
  staged : Option Schedule
  deriving DecidableEq, Repr

/-- A class parameter set (Table 4-3 of 04_candidate_evaluation_and_handover.md). -/
structure ClassParams where
  shift : Nat
  hysteresis : Nat
  ttt : Nat
  offset : Int
  deriving DecidableEq, Repr

/-- The four class parameter sets (R81). -/
structure ParamSets where
  crane : ClassParams
  reefer : ClassParams
  vehicle : ClassParams
  handheld : ClassParams
  deriving DecidableEq, Repr

/-! ### Airtime (Chapter 3) -/

/-- The kinds of reservation owned by a crane link (Table 3-2); the poll entry is computed from Wg. -/
inductive ResKind where
  | standing | prepared
  deriving DecidableEq, Repr

/-- A standing or prepared reservation (Table 3-1). -/
structure Reservation where
  kind : ResKind
  units : Nat
  owner : Nat
  deriving DecidableEq, Repr

/-- The account of one head (Table 3-3): its reservations, oldest first, Wreq, Wg and the outstanding poll count. S, P
and U are computed from them (R50). -/
structure Account where
  list : List Reservation
  wreq : Nat
  wg : Nat
  polls : Nat
  deriving DecidableEq, Repr

/-! ### Crane links (Chapters 5 and 6) -/

/-- The four states of a crane link (R93). -/
inductive LinkState where
  | idle | running | holding | safeStop
  deriving DecidableEq, Repr

/-- Why a link entered SAFE_STOP (Table 5-1). -/
inductive SafeCause where
  | holdLimit | uplinkLimit | pathLost | ordered | restart
  deriving DecidableEq, Repr

/-- A setpoint: its sequence and its 16 bytes. -/
structure Setpoint where
  seq : Seq
  bytes : Bytes16
  deriving DecidableEq, Repr

/-- The current setpoint with its mark: `fresh` is FRESH, else REPEATED (R99). -/
structure Current where
  sp : Setpoint
  fresh : Bool
  deriving DecidableEq, Repr

/-- The feedback of the last uplink taken (R107). -/
structure Feedback where
  bytes : Bytes16
  seq : Seq
  age : Nat
  deriving DecidableEq, Repr

/-- A downlink side block in flight (R111), with the request tag of its SIDE_DOWN. -/
structure DownBlock where
  bytes : Bytes48
  pos : Nat
  req : ReqTag
  deriving DecidableEq, Repr

/-- A downlink side block waiting to go in flight (R110), with the request tag of its SIDE_DOWN. -/
structure WaitBlock where
  bytes : Bytes48
  req : ReqTag
  deriving DecidableEq, Repr

/-- The handover phase (6.1), with the target head and the switch count. -/
inductive Phase where
  | none
  | prepared (target : HeadIx)
  | switching (target : HeadIx) (count : Nat)
  deriving DecidableEq, Repr

/-- A crane link record (Table 5-1 of 05_crane_links.md). `assembly` is the side assembly: the fragments stored so far,
or `none` when it is inactive; its position is their number (R108). -/
structure CraneLink where
  owner : Nat
  state : LinkState
  cause : Option SafeCause
  period : Nat
  units : Nat
  holdLimit : Nat
  missLimit : Nat
  cycle : Option Nat
  current : Option Current
  next : Option Setpoint
  repeats : Nat
  misses : Nat
  heard : Bool
  heardLast : Bool
  feedback : Option Feedback
  assembly : Option (List Fragment)
  sideBlock : Option Bytes48
  sideErrors : Nat
  down : Option DownBlock
  waiting : Option WaitBlock
  releasePending : Bool
  phase : Phase
  deriving DecidableEq, Repr

/-! ### Reefers (Chapters 7 and 8) -/

/-- A stored temperature in tenths of a degree, with its clamped mark (R128). -/
structure Temp where
  value : Int
  clamped : Bool
  deriving DecidableEq, Repr

/-- The power sources (R129). -/
inductive Power where
  | mains | genset | battery
  deriving DecidableEq, Repr

/-- The alarm classes (R133). -/
inductive AlarmClass where
  | none | advisory | deviation | critical
  deriving DecidableEq, Repr

/-- The doze states (R140). -/
inductive Doze where
  | awake | ordered | light | deep
  deriving DecidableEq, Repr

/-- The doze preferences (R141). -/
inductive DozePref where
  | none | light | deep
  deriving DecidableEq, Repr

/-- Whether the part has lately reached the modem (R154). -/
inductive Contact where
  | reachable | unreachable
  deriving DecidableEq, Repr

/-- The phase of a pending page (8.4); in SENT its page-answer timer runs with the frames given. -/
inductive PagePhase where
  | ackWait | slotWait
  | sent (timer : Nat)
  deriving DecidableEq, Repr

/-- A pending page: its owner (`none` is INTERNAL, `some t` CONTROLLER with request tag t), its attempts and phase. -/
structure Page where
  owner : Option ReqTag
  attempts : Nat
  phase : PagePhase
  deriving DecidableEq, Repr

/-- The poll state of a record (R146); an outstanding poll has its sending head and its poll-answer timer. -/
inductive Poll where
  | none | waiting
  | outstanding (head : HeadIx) (timer : Nat)
  deriving DecidableEq, Repr

/-- A reefer status record (Tables 7-1 and 8-1). `overdueDue` is the model's own mark: an overdue expiry of the record
has been made by a second expiry and is not yet taken (log 21). -/
structure Reefer where
  owner : Nat
  supply : Option Temp
  ret : Option Temp
  setpoint : Option Temp
  booked : Option Int
  flags : BitVec 16
  power : Power
  alarm : AlarmClass
  persist : Nat
  lastDev : Option Nat
  interval : Nat
  grace : Nat
  age : Nat
  missed : Nat
  doze : Doze
  pref : DozePref
  contact : Contact
  ackTimer : Option Nat
  page : Option Page
  poll : Poll
  overdueDue : Bool
  deriving DecidableEq, Repr

/-- The part-wide settings of PART_CONFIG (Table 9-4). -/
structure Settings where
  devThreshold : Nat
  devHysteresis : Nat
  critThreshold : Nat
  persistence : Nat
  criticalMask : BitVec 16
  ackLimit : Nat
  pageLimit : Nat
  pollLimit : Nat
  deriving DecidableEq, Repr

/-! ### Control port (Chapter 9) -/

/-- The long requests (R161). -/
inductive LongKind where
  | craneRelease | sideDown | sweepSet | page
  deriving DecidableEq, Repr

/-- The result codes, in the order of Table 9-2. -/
inductive Result where
  | done | replaced | busy | unknownTarget | duplicateTag | tableFull | wrongClass | wrongState
  | badOption | missingOption | noAirtime | notServed | notHeard | inProgress | queueFull
  | alreadyAwake | notCovered | noPath | failed | retired
  deriving DecidableEq, Repr

/-- What a request, a notice or an in-flight entry is about: a context by its handle, or a head. -/
inductive Subject where
  | context (handle : Nat)
  | head (h : HeadIx)
  deriving DecidableEq, Repr

/-- An entry of the in-flight list (R161); `subject` is the resolved target. -/
structure InFlight where
  reqTag : ReqTag
  kind : LongKind
  subject : Subject
  clamped : Bool
  deriving DecidableEq, Repr

/-- The identity a reply carries in its header (R173). -/
inductive Identity where
  | context (handle : Nat) (tag : Tag)
  | head (h : HeadIx)
  | part
  | asGiven (value : BitVec 48)
  deriving DecidableEq, Repr

/-- A reply (R160): request tag, kind code as given, result code, CLAMPED flag, identity, and the bytes of its body. -/
structure Reply where
  reqTag : ReqTag
  kind : Byte
  result : Result
  clamped : Bool
  identity : Identity
  body : List Byte
  deriving DecidableEq, Repr

/-- The causes carried by HANDOVER_DONE and HANDOVER_FAILED (Table 11-7). -/
inductive HandoverCause where
  | entry | trigger | rescue | noAnswer | ordered | released | targetLost | capacity | restart
  deriving DecidableEq, Repr

/-- The notice kinds, in the order of Table 9-3. -/
inductive NoticeKind where
  | handoverDone | handoverFailed | handoverBlocked | serveLost | craneState | sideBlock
  | reeferClass | reeferContact | headState
  deriving DecidableEq, Repr

/-- The content of a notice, by its kind. -/
inductive NoticeContent where
  /-- R83, R87, R120, R124: old head or none, new head, cause. -/
  | handoverDone (old : Option HeadIx) (new : HeadIx) (cause : HandoverCause)
  /-- R121: serving head, target head, cause. -/
  | handoverFailed (serving : Option HeadIx) (target : HeadIx) (cause : HandoverCause)
  /-- R86: the candidate head. -/
  | handoverBlocked (candidate : HeadIx)
  /-- R4. -/
  | serveLost
  /-- R93: the link's new state and its safe cause. -/
  | craneState (state : LinkState) (cause : Option SafeCause)
  /-- R109: the completed block. -/
  | sideBlock (bytes : Bytes48)
  /-- R134: new and old class, supply, setpoint used, last deviation, persistence count, alarm flags. -/
  | reeferClass (new old : AlarmClass) (supply : Option Temp) (used : Option Int) (dev : Option Nat) (persist : Nat)
      (flags : BitVec 16)
  /-- R154: the new contact value and the doze state. -/
  | reeferContact (contact : Contact) (doze : Doze)
  /-- R34: the new state, the fault cause and the new E. -/
  | headState (state : HeadState) (cause : FaultCause) (capacity : Nat)
  deriving DecidableEq, Repr

/-- A notice (9.5): its subject and its content; its kind is that of its content. -/
structure Notice where
  subject : Subject
  content : NoticeContent
  deriving DecidableEq, Repr

/-- RESTART or power-on: how the part last began (R165). -/
inductive RestartCause where
  | cold | warm
  deriving DecidableEq, Repr

/-! ### Quay link (Chapter 10) -/

/-- The body of a crane downlink (R100): the setpoint with its mark, or the stop order with the safe cause. -/
inductive DownBody where
  | setpoint
  | stop (cause : Option SafeCause)
  deriving DecidableEq, Repr

/-- The side bytes of a downlink: the position and the two bytes there (R111). -/
structure SideBytes where
  pos : Nat
  frag : Fragment
  deriving DecidableEq, Repr

/-- The orders of Table 10-2. -/
inductive Order where
  | craneDownlink (head : HeadIx) (tag : Tag) (current : Option Current) (body : DownBody) (switchTo : Option HeadIx)
      (side : Option SideBytes)
  | serveOrder (tag : Tag) (old : Option HeadIx) (new : HeadIx)
  | drop (head : HeadIx) (tag : Tag)
  | beam (head : HeadIx) (sector : Option Sector)
  | page (head : HeadIx) (tag : Tag)
  | poll (head : HeadIx) (tag : Tag)
  | dozeOrder (head : HeadIx) (tag : Tag) (deep : Bool)
  deriving DecidableEq, Repr

/-! ### The machine -/

/-- The state of the part, grouped by the block that owns each record (Table 1-1 of 00_scope.md). -/
structure State where
  -- Control Port
  inflight : List InFlight
  notices : List Notice
  replies : List Reply
  portLine : Option (List Byte)
  overflow : Bool
  restartCause : RestartCause
  -- Quay Link Port
  unmatched : Nat
  lastUnknown : Option Tag
  orders : List Order
  linkLine : Option (List Byte)
  -- Frame Timebase
  frame : BitVec 32
  divider : Nat
  secondDue : Bool
  -- Terminal Context Table
  contexts : Table Context
  -- Coverage Unit
  heads : Vector Head 24
  shadow : Vector (Vector Nat 64) 24
  params : ParamSets
  loadWeight : Nat
  -- Airtime Table
  airtime : Vector Account 24
  -- Crane Link Unit
  links : Table CraneLink
  -- Reefer Status Unit
  reefers : Table Reefer
  pageQueues : Vector (List Nat) 24
  pollWaits : Vector (List Nat) 24
  -- part-wide settings
  settings : Settings
  -- the commands that wait, first in first out
  pending : List Instr
  deriving DecidableEq, Repr

/-- No command of this part stops it with a fault: the manual gives every request, event and expiry an effect, so the
type has no constructor (INVENTORY.md, Faults). -/
inductive Fault where
  deriving DecidableEq, Repr

/-- Why a step is refused. -/
inductive Refusal where
  /-- Raised by an arm of `exec` whose command has no meaning yet. Safe: the machine stops. No arm raises it. -/
  | notModelled (mnemonic : String)
  deriving DecidableEq, Repr

/-- The outcome of one command. -/
abbrev Out := Host.Outcome State Fault Refusal

/-! ### Cold values -/

/-- The default schedule (R39): N = 8, slot i on sector i for i in 0..7, slots 8..15 SILENT, D = 5. -/
def Schedule.default : Schedule :=
  { slots := #v[some 0, some 1, some 2, some 3, some 4, some 5, some 6, some 7,
      none, none, none, none, none, none, none, none],
    count := 8, dwell := 5 }

/-- A head record after a cold reset (R47). -/
def Head.cold : Head :=
  { state := .offline, capacity := Config.capacity, locked := false, startFrames := Config.startFrames,
    lockLimit := Config.lockLimit, holdoverLimit := Config.holdoverLimit, startTimer := none, lockTimer := none,
    holdoverTimer := none, cause := .none, spanFirst := 0, spanLast := 63, active := Schedule.default, sweep := none,
    staged := none }

/-- A head's account after a cold reset (R67). -/
def Account.cold : Account := { list := [], wreq := Config.pollWindow, wg := 0, polls := 0 }

/-- The defaults of Table 4-3 (R91). -/
def ParamSets.cold : ParamSets :=
  { crane := { shift := 1, hysteresis := 6, ttt := 3, offset := 0 },
    reefer := { shift := 3, hysteresis := 8, ttt := 4, offset := 0 },
    vehicle := { shift := 2, hysteresis := 4, ttt := 2, offset := 0 },
    handheld := { shift := 2, hysteresis := 4, ttt := 2, offset := 0 } }

/-- The defaults of Table 9-4 (R138, R155, R167). -/
def Settings.cold : Settings :=
  { devThreshold := 20, devHysteresis := 5, critThreshold := 50, persistence := 3, criticalMask := 0x000F#16,
    ackLimit := 50, pageLimit := 64, pollLimit := 200 }

/-- The machine right after a cold reset (R23, R47, R67, R91, R115, R138, R156, R167, R169, R170, R171). -/
def State.reset : State :=
  { inflight := [], notices := [], replies := [], portLine := none, overflow := false, restartCause := .cold,
    unmatched := 0, lastUnknown := none, orders := [], linkLine := none,
    frame := 0, divider := 0, secondDue := false,
    contexts := [],
    heads := Vector.replicate 24 Head.cold, shadow := Vector.replicate 24 (Vector.replicate 64 0),
    params := ParamSets.cold, loadWeight := Config.loadWeight,
    airtime := Vector.replicate 24 Account.cold,
    links := [], reefers := [], pageQueues := Vector.replicate 24 [], pollWaits := Vector.replicate 24 [],
    settings := Settings.cold, pending := [] }

end Sys2Proof.Machine
end

