-- ==== Sys2Proof/Machine/Ops.lean ====
section
/-! DEFINITION. The named operations over the records and queues of the part: tables, head records and accounts, the
orders, replies, notices and the in-flight list. Every meaning reads and writes State through them. -/

namespace Sys2Proof.Machine

/-! ### Tables of records -/

/-- The record in slot `k`. -/
def Table.get? {α : Type} : Table α → Nat → Option α
  | [], _ => none
  | (k', v) :: t, k => if k = k' then some v else Table.get? t k

/-- Put a record into slot `k`, keeping the keys in rising order. -/
def Table.set {α : Type} : Table α → Nat → α → Table α
  | [], k, v => [(k, v)]
  | (k', v') :: t, k, v =>
    if k < k' then (k, v) :: (k', v') :: t
    else if k = k' then (k, v) :: t
    else (k', v') :: Table.set t k v

/-- Free slot `k`. -/
def Table.erase {α : Type} (t : Table α) (k : Nat) : Table α :=
  t.filter fun e => e.1 != k

/-- Change the record in slot `k`, if there is one. -/
def Table.modify {α : Type} (t : Table α) (k : Nat) (f : α → α) : Table α :=
  t.map fun e => if e.1 = k then (e.1, f e.2) else e

/-- Change every record. -/
def Table.mapAll {α : Type} (t : Table α) (f : α → α) : Table α :=
  t.map fun e => (e.1, f e.2)

/-- The numbers of the occupied slots, in rising order. -/
def Table.keys {α : Type} (t : Table α) : List Nat := t.map (·.1)

/-- The lowest number from `n` on that is not a key of a table in canonical form. -/
def Table.freeFrom {α : Type} : Table α → Nat → Nat
  | [], n => n
  | (k, _) :: t, n => if k = n then Table.freeFrom t (n + 1) else n

/-- The lowest free slot (R1, R3). -/
def Table.lowestFree {α : Type} (t : Table α) : Nat := Table.freeFrom t 0

/-- The canonical form of a table with `slots` slots: keys strictly rising and below `slots`. -/
abbrev Table.wf {α : Type} (t : Table α) (slots : Nat) : Prop :=
  t.Pairwise (fun a b => a.1 < b.1) ∧ ∀ e ∈ t, e.1 < slots

/-! ### The 24 heads -/

/-- The head indices in order. -/
def allHeads : List HeadIx :=
  [0, 1, 2, 3, 4, 5, 6, 7, 8, 9, 10, 11, 12, 13, 14, 15, 16, 17, 18, 19, 20, 21, 22, 23]

/-- Change every item of a bank of `n`. -/
def mapEach {α β : Type} {n : Nat} (f : α → β) (v : Vector α n) : Vector β n :=
  ⟨(v.toList.map f).toArray, by simp⟩

/-- The record of head `h`. -/
def State.head (s : State) (h : HeadIx) : Head := s.heads.get h

/-- Replace the record of head `h`. -/
def State.setHead (s : State) (h : HeadIx) (x : Head) : State := { s with heads := s.heads.set h.val x h.isLt }

/-- Change the record of head `h`. -/
def State.modHead (s : State) (h : HeadIx) (f : Head → Head) : State := s.setHead h (f (s.head h))

/-- The airtime account of head `h`. -/
def State.account (s : State) (h : HeadIx) : Account := s.airtime.get h

/-- Replace the account of head `h`. -/
def State.setAccount (s : State) (h : HeadIx) (a : Account) : State :=
  { s with airtime := s.airtime.set h.val a h.isLt }

/-- Change the account of head `h`. -/
def State.modAccount (s : State) (h : HeadIx) (f : Account → Account) : State := s.setAccount h (f (s.account h))

/-- The page queue of head `h`: reefer records in the order in which their pages joined it (R148). -/
def State.pageQueue (s : State) (h : HeadIx) : List Nat := s.pageQueues.get h

/-- Replace the page queue of head `h`. -/
def State.setPageQueue (s : State) (h : HeadIx) (q : List Nat) : State :=
  { s with pageQueues := s.pageQueues.set h.val q h.isLt }

/-- The poll wait list of head `h`, oldest first (R146). -/
def State.pollWait (s : State) (h : HeadIx) : List Nat := s.pollWaits.get h

/-- Replace the poll wait list of head `h`. -/
def State.setPollWait (s : State) (h : HeadIx) (q : List Nat) : State :=
  { s with pollWaits := s.pollWaits.set h.val q h.isLt }

/-! ### Contexts, links and reefer records -/

/-- Change the context in slot `k`. -/
def State.modContext (s : State) (k : Nat) (f : Context → Context) : State :=
  { s with contexts := s.contexts.modify k f }

/-- Change the crane link record `l`. -/
def State.modLink (s : State) (l : Nat) (f : CraneLink → CraneLink) : State := { s with links := s.links.modify l f }

/-- Change the reefer record `i`. -/
def State.modReefer (s : State) (i : Nat) (f : Reefer → Reefer) : State :=
  { s with reefers := s.reefers.modify i f }

/-- The context that holds a tag, with its handle (R2). -/
def State.findTag (s : State) (tag : Tag) : Option (Nat × Context) := s.contexts.find? fun e => e.2.tag == tag

/-- The owner context of a crane link record. -/
def State.linkContext (s : State) (l : Nat) : Option Context :=
  (s.links.get? l).bind fun k => s.contexts.get? k.owner

/-- The owner context of a reefer record. -/
def State.reeferContext (s : State) (i : Nat) : Option Context :=
  (s.reefers.get? i).bind fun r => s.contexts.get? r.owner

/-- The serving head of a reefer record's context. -/
def State.reeferServing (s : State) (i : Nat) : Option HeadIx := (s.reeferContext i).bind (·.serving)

/-- The candidate entry of a head in a context's list. -/
def Context.entry? (c : Context) (h : HeadIx) : Option Candidate := c.cands.find? fun e => e.head == h

/-- Serve a context through the head of one of its entries: the serving sector becomes that entry's sector heard (R5),
its absent count 0, and the TTT count of every entry 0 (R83, R87, R120, R124). -/
def Context.serveOn (c : Context) (h : HeadIx) : Context :=
  { c with
    serving := some h
    sector := match c.entry? h with | some e => e.sector | none => c.sector
    cands := c.cands.map fun e => { e with ttt := 0, missing := if e.head = h then 0 else e.missing } }

/-! ### Head figures -/

/-- STARTING, ACTIVE or HOLDOVER: the states in which a head may serve terminals (R4, R59, R69). -/
def HeadState.inService : HeadState → Bool
  | .starting | .active | .holdover => true
  | .offline | .faulted => false

/-- The effective capacity E (R26). -/
def Head.effective (x : Head) : Nat :=
  match x.state with
  | .active => x.capacity
  | .starting => x.capacity / 4
  | .holdover => x.capacity / 2
  | .offline | .faulted => 0

/-- A schedule covers a sector when one of its enabled slots names it (R39). -/
def Schedule.covers (d : Schedule) (sec : Sector) : Bool := (d.slots.toList.take d.count).any (· == some sec)

/-- The active or the staged schedule of a head covers the sector (R142, R149, R150). -/
def Head.covers (x : Head) (sec : Sector) : Bool :=
  x.active.covers sec || (match x.staged with | some d => d.covers sec | none => false)

/-- The parameter set of a class (R81). -/
def ParamSets.get (p : ParamSets) : Class → ClassParams
  | .crane => p.crane
  | .reefer => p.reefer
  | .vehicle => p.vehicle
  | .handheld => p.handheld

/-- Replace the parameter set of a class. -/
def ParamSets.set (p : ParamSets) (c : Class) (x : ClassParams) : ParamSets :=
  match c with
  | .crane => { p with crane := x }
  | .reefer => { p with reefer := x }
  | .vehicle => { p with vehicle := x }
  | .handheld => { p with handheld := x }

/-- The shadow value of a head at a segment (R77). -/
def State.shadowAt (s : State) (h : HeadIx) (g : Segment) : Nat := (s.shadow.get h).get g

/-! ### Orders, replies and notices -/

/-- Make an order due: it goes out behind those already due (R170). -/
def State.order (s : State) (o : Order) : State := { s with orders := s.orders ++ [o] }

/-- Make a reply due: it goes out behind those already due (R160). -/
def State.reply (s : State) (r : Reply) : State := { s with replies := s.replies ++ [r] }

/-- The kind of a notice. -/
def NoticeContent.kind : NoticeContent → NoticeKind
  | .handoverDone .. => .handoverDone
  | .handoverFailed .. => .handoverFailed
  | .handoverBlocked .. => .handoverBlocked
  | .serveLost => .serveLost
  | .craneState .. => .craneState
  | .sideBlock .. => .sideBlock
  | .reeferClass .. => .reeferClass
  | .reeferContact .. => .reeferContact
  | .headState .. => .headState

/-- Two notices of the same kind and the same subject (R162). -/
def Notice.matches (a b : Notice) : Bool := a.subject == b.subject && a.content.kind == b.content.kind

/-- Post a notice (R162): replace a queued one of the same kind and subject in place, else join the tail, else, when
the queue holds 512, drop it and set the notice-overflow flag. -/
def State.post (s : State) (subject : Subject) (content : NoticeContent) : State :=
  let n : Notice := { subject, content }
  if s.notices.any (·.matches n) then
    { s with notices := s.notices.map fun m => if m.matches n then n else m }
  else if s.notices.length < Config.noticeEntries then
    { s with notices := s.notices ++ [n] }
  else
    { s with overflow := true }

/-! ### The in-flight list -/

/-- The request kind of a long request. -/
def LongKind.kind : LongKind → ReqKind
  | .craneRelease => .craneRelease
  | .sideDown => .sideDown
  | .sweepSet => .sweepSet
  | .page => .page

/-- The in-flight list is full (R161). -/
def State.inflightFull (s : State) : Bool := Config.inflightEntries ≤ s.inflight.length

/-- A taken long request joins the in-flight list at its tail (R161). -/
def State.joinInflight (s : State) (e : InFlight) : State := { s with inflight := s.inflight ++ [e] }

/-- The identity of a subject in a reply's header: a context by handle and tag, a head by its index (R160). -/
def State.identity (s : State) : Subject → Identity
  | .context k =>
    match s.contexts.get? k with
    | some c => .context k c.tag
    | none => .context k 0
  | .head h => .head h

/-- The reply that ends a long request: it carries the entry's request tag and CLAMPED flag (R159, R161). -/
def State.endReply (s : State) (e : InFlight) (res : Result) : Reply :=
  { reqTag := e.reqTag, kind := e.kind.kind.code, result := res, clamped := e.clamped,
    identity := s.identity e.subject, body := [] }

/-- End the oldest in-flight request that satisfies `p`: its reply is made due and its entry leaves the list, the
entries behind it keeping their order (R161). -/
def State.endOldest (s : State) (p : InFlight → Bool) (res : Result) : State :=
  match s.inflight.find? p with
  | none => s
  | some e => { s with inflight := s.inflight.eraseP p, replies := s.replies ++ [s.endReply e res] }

/-- End the newest in-flight request that satisfies `p`. -/
def State.endNewest (s : State) (p : InFlight → Bool) (res : Result) : State :=
  match s.inflight.reverse.find? p with
  | none => s
  | some e =>
    { s with inflight := (s.inflight.reverse.eraseP p).reverse, replies := s.replies ++ [s.endReply e res] }

/-- End every in-flight request that satisfies `p`, in the order in which they were taken. -/
def State.endAll (s : State) (p : InFlight → Bool) (res : Result) : State :=
  { s with
    inflight := s.inflight.filter fun e => !p e
    replies := s.replies ++ (s.inflight.filter p).map fun e => s.endReply e res }

/-- The in-flight entry of a long request of a kind, subject and request tag. -/
def InFlight.is (k : LongKind) (sub : Subject) (t : ReqTag) (e : InFlight) : Bool :=
  e.kind == k && e.subject == sub && e.reqTag == t

/-- The in-flight entries of a kind and subject. -/
def InFlight.isFor (k : LongKind) (sub : Subject) (e : InFlight) : Bool := e.kind == k && e.subject == sub

/-! ### Routing of quay-link events -/

/-- An event that no owner can be found for (R169): the unmatched-uplink count rises, saturating at 65535, and a tag
that no context holds becomes the last unknown tag. -/
def State.unmatchedEvent (s : State) (unknownTag : Option Tag) : State :=
  { s with
    unmatched := if s.unmatched < Config.unmatchedMax then s.unmatched + 1 else s.unmatched
    lastUnknown := match unknownTag with | some t => some t | none => s.lastUnknown }

/-- The head a head event names, when its index is 0..23 (R25, R168). -/
def headOf (b : Byte) : Option HeadIx := if h : b.toNat < 24 then some ⟨b.toNat, h⟩ else none

end Sys2Proof.Machine
end

