-- ==== Sys2Proof/Machine/Flags.lean ====
section
/-! DEFINITION. The flag computations of the part: clamping with its CLAMPED flag (R159), saturation with its clamped
mark (R128), and the alarm conditions and alarm class of a reefer (R130 to R133). -/

namespace Sys2Proof.Machine

/-- A value after clamping, and whether it was outside its range. -/
structure Clamped (α : Type) where
  value : α
  clamped : Bool
  deriving DecidableEq, Repr

/-- Clamp an amount to `lo..hi` (R159). -/
def clampNat (lo hi v : Nat) : Clamped Nat := { value := max lo (min hi v), clamped := v < lo || hi < v }

/-- Clamp a signed amount to `lo..hi` (R159). -/
def clampInt (lo hi v : Int) : Clamped Int := { value := max lo (min hi v), clamped := v < lo || hi < v }

/-- The resulting value of a setting: the option's, clamped, when the option is present, else the value now held. -/
def clampOpt (lo hi : Nat) (held : Nat) : Option Nat → Clamped Nat
  | some v => clampNat lo hi v
  | none => { value := held, clamped := false }

/-- The same for a signed setting. -/
def clampOptInt (lo hi : Int) (held : Int) : Option Int → Clamped Int
  | some v => clampInt lo hi v
  | none => { value := held, clamped := false }

/-- A counter that stays at its upper limit (00_scope.md 3.3). -/
def satInc (limit n : Nat) : Nat := if n < limit then n + 1 else n

/-- A temperature as a report carries it becomes the record's (R128): saturated to -400..+400, with its clamped mark. -/
def saturate (w : BitVec 16) : Temp :=
  let c := clampInt (-400) 400 w.toInt
  { value := c.value, clamped := c.clamped }

/-! ### Classification (7.3) -/

/-- The setpoint p used by classification: the reported setpoint, else the booked one (R130). -/
def Reefer.usedSetpoint (r : Reefer) : Option Int :=
  match r.setpoint with
  | some t => some t.value
  | none => r.booked

/-- The magnitude a of the deviation, when one is computed (R130). -/
def Reefer.deviation (r : Reefer) : Option Nat :=
  match r.supply, r.usedSetpoint with
  | some t, some p => some (t.value - p).natAbs
  | _, _ => none

/-- The persistence count after a report with deviation `dev` (R131). -/
def nextPersist (g : Settings) (dev : Option Nat) (count : Nat) : Nat :=
  match dev with
  | some a =>
    if g.devThreshold < a then satInc 15 count
    else if a ≤ g.devThreshold - g.devHysteresis then 0
    else count
  | none => count

/-- The critical condition (R132): a flag that is set belongs to the critical mask. -/
def criticalCondition (g : Settings) (r : Reefer) : Bool := (r.flags &&& g.criticalMask) != 0

/-- Both setpoints are present and differ by more than 5 tenths of a degree (R132). -/
def Reefer.setpointsDiffer (r : Reefer) : Bool :=
  match r.setpoint, r.booked with
  | some t, some b => 5 < (t.value - b).natAbs
  | _, _ => false

/-- The advisory condition (R132): a flag that is set lies outside the critical mask, the power source is BATTERY, or
the two setpoints differ. -/
def advisoryCondition (g : Settings) (r : Reefer) : Bool :=
  (r.flags &&& ~~~g.criticalMask) != 0 || r.power == .battery || r.setpointsDiffer

/-- The new alarm class: the first row of R133 that holds, with the old class, the deviation and the count of R131. -/
def nextAlarm (g : Settings) (r : Reefer) (dev : Option Nat) (count : Nat) : AlarmClass :=
  let byDev (p : Nat → Bool) : Bool := match dev with | some a => p a | none => false
  if criticalCondition g r || byDev (fun a => g.critThreshold ≤ a) ||
      (r.alarm == .critical && byDev (fun a => g.critThreshold - g.devHysteresis ≤ a)) then .critical
  else if byDev (fun _ => g.persistence ≤ count) ||
      (r.alarm == .deviation && byDev (fun a => g.devThreshold - g.devHysteresis < a)) then .deviation
  else if advisoryCondition g r then .advisory
  else .none

end Sys2Proof.Machine
end

