-- ==== Sys2Proof/Machine/Operands.lean ====
section
/-! DEFINITION. The operands of requests: the option codes and lengths of Table 11-4, the option-list checks of R158,
the target forms of R12, R25 and R158, and the replies by which a request is answered or refused. -/

namespace Sys2Proof.Machine

/-! ### Options -/

/-- The options, in the order of the rows of Table 11-4, each name of a row in the order written. -/
inductive Opt where
  | tag | cls | segment | spanFirst | spanLast | firstSegment | lastSegment | pinned | setpoint | block | slots | values
  | period | units | holdLimit | missLimit | count | dwell | capacity | window | shift | hysteresis | ttt | loadWeight
  | persistence
  | startFrames | lockLimit | holdoverLimit | interval | grace | devThreshold | devHysteresis | critThreshold | ackLimit
  | pageLimit | pollLimit
  | offset | booked | dozePref | criticalMask
  deriving DecidableEq, Repr

/-- The options in code order: option codes are 01H upward (Table 11-4). -/
def Opt.all : List Opt :=
  [.tag, .cls, .segment, .spanFirst, .spanLast, .firstSegment, .lastSegment, .pinned, .setpoint, .block, .slots, .values,
    .period, .units, .holdLimit, .missLimit, .count, .dwell, .capacity, .window, .shift, .hysteresis, .ttt, .loadWeight,
    .persistence, .startFrames, .lockLimit, .holdoverLimit, .interval, .grace, .devThreshold, .devHysteresis,
    .critThreshold, .ackLimit, .pageLimit, .pollLimit, .offset, .booked, .dozePref, .criticalMask]

/-- The option a code names, when the part knows it. -/
def Opt.ofCode (b : Byte) : Option Opt :=
  if b = 0 then none else Opt.all[b.toNat - 1]?

/-- The lengths an option may have (Table 11-4). -/
def Opt.lengthOk : Opt → Nat → Bool
  | .tag, n => n == 6
  | .setpoint, n => n == 18
  | .block, n => n == 48
  | .slots, n => 1 ≤ n && n ≤ 16
  | .values, n => 1 ≤ n && n ≤ 64
  | .booked, n => n == 0 || n == 2
  | .startFrames, n | .lockLimit, n | .holdoverLimit, n | .interval, n | .grace, n | .devThreshold, n
  | .devHysteresis, n | .critThreshold, n | .ackLimit, n | .pageLimit, n | .pollLimit, n | .offset, n
  | .criticalMask, n => n == 2
  | _, n => n == 1

/-- The options a request kind takes (the option tables of Chapters 1 to 9). -/
def optionsTaken : ReqKind → List Opt
  | .attach => [.tag, .cls, .segment, .pinned]
  | .amend => [.segment, .pinned]
  | .craneStart => [.setpoint, .period, .units, .holdLimit, .missLimit]
  | .setpoint | .craneResume => [.setpoint]
  | .sideDown => [.block]
  | .reeferParams => [.interval, .grace, .dozePref, .booked]
  | .headConfig => [.capacity, .startFrames, .lockLimit, .holdoverLimit, .spanFirst, .spanLast]
  | .sweepSet => [.slots, .count, .dwell]
  | .shadowSet => [.firstSegment, .lastSegment, .values]
  | .classParams => [.cls, .shift, .hysteresis, .ttt, .offset, .loadWeight]
  | .pollWindowSet => [.window]
  | .partConfig =>
    [.devThreshold, .devHysteresis, .critThreshold, .persistence, .criticalMask, .ackLimit, .pageLimit, .pollLimit]
  | .find | .read | .retire | .craneStop | .craneRelease | .craneRead | .reeferRead | .page | .headRead | .headClear
  | .shadowRead | .partStatus | .restart => []

/-- The options a request kind requires. -/
def optionsRequired : ReqKind → List Opt
  | .attach => [.tag, .cls]
  | .craneStart | .setpoint | .craneResume => [.setpoint]
  | .sideDown => [.block]
  | .sweepSet => [.slots]
  | .shadowSet => [.values]
  | .pollWindowSet => [.window]
  | _ => []

/-- An option list that has been read: each option with its value bytes. -/
abbrev Options := List (Opt × List Byte)

/-- Read an option list (Table 11-2): each entry is a code, a length and that many bytes; END (00H) must be the last
byte (R158 check 1). `fuel` bounds the number of entries. -/
def readOptions : (fuel : Nat) → List Byte → Option (List (Byte × List Byte))
  | 0, _ => none
  | _ + 1, [] => none
  | fuel + 1, code :: rest =>
    if code = 0 then (if rest.isEmpty then some [] else none)
    else match rest with
      | [] => none
      | len :: body =>
        if body.length < len.toNat then none
        else (readOptions fuel (body.drop len.toNat)).map fun es => (code, body.take len.toNat) :: es

/-- The code of an option (Table 11-4). -/
def Opt.code (o : Opt) : Byte := BitVec.ofNat 8 (Opt.all.idxOf o + 1)

/-- The bytes of an option list, END included (Table 11-2). -/
def Options.write : Options → List Byte
  | [] => [0]
  | (o, v) :: os => o.code :: BitVec.ofNat 8 v.length :: (v ++ Options.write os)

/-- Name the options; `none` when a code is not one the part knows (R158 check 2). -/
def nameOptions : List (Byte × List Byte) → Option Options
  | [] => some []
  | (code, v) :: es =>
    match Opt.ofCode code, nameOptions es with
    | some o, some os => some ((o, v) :: os)
    | _, _ => none

/-- The six checks of R158 in order; the first that fails gives the result code. -/
def checkOptions (k : ReqKind) (bytes : List Byte) : Except Result Options :=
  match readOptions (bytes.length + 1) bytes with
  | none => .error .badOption
  | some raw =>
    match nameOptions raw with
    | none => .error .badOption
    | some os =>
      if ¬ (os.map (·.1)).Nodup then .error .badOption
      else if os.any (fun e => !(optionsTaken k).contains e.1) then .error .badOption
      else if os.any (fun e => !e.1.lengthOk e.2.length) then .error .badOption
      else if (optionsRequired k).any (fun o => !(os.map (·.1)).contains o) then .error .missingOption
      else .ok os

/-- The value bytes of an option, when it is present. -/
def Options.bytes (os : Options) (o : Opt) : Option (List Byte) := (os.find? fun e => e.1 == o).map (·.2)

/-- The option is present. -/
def Options.has (os : Options) (o : Opt) : Bool := (os.bytes o).isSome

/-- The unsigned number of an option. -/
def Options.nat (os : Options) (o : Opt) : Option Nat := (os.bytes o).map beNat

/-- The signed number of a two-byte option. -/
def Options.int (os : Options) (o : Opt) : Option Int := (os.bytes o).map beInt16

/-! ### Enumerated values and identifiers; `none` is a value that names nothing (R159) -/

/-- A class code (Table 11-4). -/
def classOf : Nat → Option Class
  | 0 => some .crane | 1 => some .reefer | 2 => some .vehicle | 3 => some .handheld | _ => none

/-- A quay segment 0..63. -/
def segmentOf (n : Nat) : Option Segment := if h : n < 64 then some ⟨n, h⟩ else none

/-- A segment option that may be none: 0..63, or FFH (Table 11-4, R173). -/
def segmentOrNone (n : Nat) : Option (Option Segment) :=
  if n = 0xFF then some none else (segmentOf n).map some

/-- A pinned option (Table 11-4; log 13). -/
def pinnedOf : Nat → Option Bool
  | 0 => some false | 1 => some true | _ => none

/-- A doze preference (Table 11-4). -/
def dozePrefOf : Nat → Option DozePref
  | 0 => some .none | 1 => some .light | 2 => some .deep | _ => none

/-- A slot value: a sector 0..7 or FFH SILENT (Table 11-4, R173). -/
def slotOf (b : Byte) : Option (Option Sector) :=
  if b = 0xFF then some none
  else if h : b.toNat < 8 then some (some ⟨b.toNat, h⟩)
  else none

/-- Every slot value of a slots option; `none` when one is neither a sector nor SILENT (R42). -/
def slotsOf : List Byte → Option (List (Option Sector))
  | [] => some []
  | b :: bs =>
    match slotOf b, slotsOf bs with
    | some x, some xs => some (x :: xs)
    | _, _ => none

/-- A setpoint option: sequence, then 16 bytes (Table 11-4). -/
def setpointOf : List Byte → Option Setpoint
  | a :: b :: bytes => (block? 16 bytes).map fun v => { seq := word16 a b, bytes := v }
  | _ => none

/-- An option read through `f`: absent gives `dflt`, a value that names nothing gives no result. -/
def Options.readAs {α : Type} (os : Options) (o : Opt) (dflt : α) (f : Nat → Option α) : Option α :=
  match os.nat o with
  | none => some dflt
  | some n => f n

/-! ### Targets -/

/-- Why a request is refused, and the identity its reply carries. -/
structure Refused where
  result : Result
  identity : Identity
  deriving DecidableEq, Repr

/-- The identity of a target that was refused, or not reached because an earlier check refused the request: the target
value as given, in every target form (R12, R160, R173; the part form with it, log 10). -/
def unresolvedIdentity (r : Request) : Identity := .asGiven r.target

/-- A target in the handle or tag form names a context (R12). -/
def resolveContext (r : Request) (s : State) : Except Result (Nat × Context) :=
  if r.form = 0x00 then
    if Config.contextSlots ≤ r.target.toNat then .error .badOption
    else match s.contexts.get? r.target.toNat with
      | some c => .ok (r.target.toNat, c)
      | none => .error .unknownTarget
  else if r.form = 0x01 then
    match s.findTag r.target with
    | some e => .ok e
    | none => .error .unknownTarget
  else .error .badOption

/-- A request that has passed its option list, target and class checks: options, handle and context. -/
structure ContextTarget where
  opts : Options
  handle : Nat
  ctx : Context
  deriving DecidableEq, Repr

/-- The identity of a resolved context. -/
def ContextTarget.identity (t : ContextTarget) : Identity := .context t.handle t.ctx.tag

/-- The checks of a request that targets a context (R158, R12): option list, target, class (`cls = none` serves every
class). -/
def contextTarget (k : ReqKind) (cls : Option Class) (r : Request) (s : State) : Except Refused ContextTarget :=
  match checkOptions k r.opts with
  | .error e => .error { result := e, identity := unresolvedIdentity r }
  | .ok os =>
    match resolveContext r s with
    | .error e => .error { result := e, identity := unresolvedIdentity r }
    | .ok (h, c) =>
      if cls.all (· == c.cls) then .ok { opts := os, handle := h, ctx := c }
      else .error { result := .wrongClass, identity := .context h c.tag }

/-- The checks of a request that targets a head (R158, R25). -/
def headTarget (k : ReqKind) (r : Request) : Except Refused (Options × HeadIx) :=
  match checkOptions k r.opts with
  | .error e => .error { result := e, identity := unresolvedIdentity r }
  | .ok os =>
    if h : r.form = 0x02 ∧ r.target.toNat < 24 then .ok (os, ⟨r.target.toNat, h.2⟩)
    else .error { result := .badOption, identity := unresolvedIdentity r }

/-- The checks of a request that targets the part (R158). -/
def partTarget (k : ReqKind) (r : Request) : Except Refused Options :=
  match checkOptions k r.opts with
  | .error e => .error { result := e, identity := unresolvedIdentity r }
  | .ok os =>
    if r.form = 0x03 then .ok os else .error { result := .badOption, identity := unresolvedIdentity r }

/-! ### Answers -/

/-- Answer a request: its reply is made due (R157, R160). -/
def answer (k : ReqKind) (r : Request) (res : Result) (clamped : Bool) (identity : Identity) (body : List Byte)
    (s : State) : State :=
  s.reply { reqTag := r.reqTag, kind := k.code, result := res, clamped := clamped, identity := identity, body := body }

/-- Refuse a request: its reply carries the result code, the CLAMPED flag clear and no body, and nothing else changes
(R159, R160). -/
def refuse (k : ReqKind) (r : Request) (e : Refused) (s : State) : State :=
  answer k r e.result false e.identity [] s

end Sys2Proof.Machine
end

