-- ==== Sys2Proof/Machine/Wire.lean ====
section
/-! DEFINITION. The bytes the part writes: field codings (Tables 11-4 and 11-7), reply bodies, reply and notice headers
(Table 11-3) and orders (Table 11-6), by R173 and R174. Bodies hold every field the owning rule lists, in its order
(logs 7 to 9). -/

namespace Sys2Proof.Machine

/-! ### Codings -/

def Class.code : Class → Byte
  | .crane => 0 | .reefer => 1 | .vehicle => 2 | .handheld => 3

def Result.code : Result → Byte
  | .done => 0x00 | .replaced => 0x01 | .busy => 0x02 | .unknownTarget => 0x03 | .duplicateTag => 0x04
  | .tableFull => 0x05 | .wrongClass => 0x06 | .wrongState => 0x07 | .badOption => 0x08 | .missingOption => 0x09
  | .noAirtime => 0x0A | .notServed => 0x0B | .notHeard => 0x0C | .inProgress => 0x0D | .queueFull => 0x0E
  | .alreadyAwake => 0x0F | .notCovered => 0x10 | .noPath => 0x11 | .failed => 0x12 | .retired => 0x13

def HeadState.code : HeadState → Byte
  | .offline => 0 | .starting => 1 | .active => 2 | .holdover => 3 | .faulted => 4

def FaultCause.code : FaultCause → Byte
  | .none => 0 | .lineOpen => 1 | .lineShort => 2 | .noLock => 3 | .holdoverExpired => 4

def LinkState.code : LinkState → Byte
  | .idle => 0 | .running => 1 | .holding => 2 | .safeStop => 3

def SafeCause.code : SafeCause → Byte
  | .holdLimit => 1 | .uplinkLimit => 2 | .pathLost => 3 | .ordered => 4 | .restart => 5

/-- A safe cause or none (Table 11-7). -/
def safeCauseByte : Option SafeCause → Byte
  | some c => c.code
  | none => 0

def Phase.code : Phase → Byte
  | .none => 0 | .prepared _ => 1 | .switching _ _ => 2

def HandoverCause.code : HandoverCause → Byte
  | .entry => 0 | .trigger => 1 | .rescue => 2 | .noAnswer => 3 | .ordered => 4 | .released => 5
  | .targetLost => 6 | .capacity => 7 | .restart => 8

def AlarmClass.code : AlarmClass → Byte
  | .none => 0 | .advisory => 1 | .deviation => 2 | .critical => 3

def Doze.code : Doze → Byte
  | .awake => 0 | .light => 1 | .deep => 2 | .ordered => 3

def DozePref.code : DozePref → Byte
  | .none => 0 | .light => 1 | .deep => 2

def Contact.code : Contact → Byte
  | .reachable => 0 | .unreachable => 1

def Power.code : Power → Byte
  | .mains => 0 | .genset => 1 | .battery => 2

def RestartCause.code : RestartCause → Byte
  | .cold => 0 | .warm => 1

def NoticeKind.code : NoticeKind → Byte
  | .handoverDone => 1 | .handoverFailed => 2 | .handoverBlocked => 3 | .serveLost => 4 | .craneState => 5
  | .sideBlock => 6 | .reeferClass => 7 | .reeferContact => 8 | .headState => 9

/-- A quay segment or none: coded as the segment option, FFH none (Table 11-4). -/
def segmentByte : Option Segment → Byte
  | some g => BitVec.ofNat 8 g.val
  | none => 0xFF

/-- A sweep slot: a sector, or FFH SILENT (Table 11-4). -/
def slotByte : Option Sector → Byte
  | some x => BitVec.ofNat 8 x.val
  | none => 0xFF

/-- A head index that may be none, in the orders (Table 11-6): FFH none. -/
def headByte : Option HeadIx → Byte
  | some h => BitVec.ofNat 8 h.val
  | none => 0xFF

/-- A head index in one byte. -/
def headField (h : HeadIx) : List Byte := u8 h.val

/-- A timer (Table 11-7): running with its frames, or the mark that stands when it does not run (00H stopped, 02H
expired). -/
def timerField (idle : Byte) : Option Nat → List Byte
  | some n => 1 :: u16 n
  | none => [idle, 0, 0]

/-- A stored temperature: two bytes, then the clamped mark (R173). -/
def tempField (t : Temp) : List Byte := i16 t.value ++ mark t.clamped

/-- The page state (Table 11-7), six bytes. -/
def pageField : Option Page → List Byte
  | none => [0, 0, 0, 0, 0, 0]
  | some p =>
    [1] ++ mark p.owner.isSome ++ (match p.owner with | some t => bytes16 t | none => [0, 0]) ++ u8 p.attempts ++
      [match p.phase with | .ackWait => 0 | .slotWait => 1 | .sent _ => 2]

/-- The poll state (Table 11-7), two bytes. -/
def pollField : Poll → List Byte
  | .none => [0, 0xFF]
  | .waiting => [1, 0xFF]
  | .outstanding h _ => 2 :: headField h

/-- The 16 slots of a schedule after their count byte, then N and D (R46, R173). -/
def scheduleField (d : Schedule) : List Byte := u8 16 ++ d.slots.toList.map slotByte ++ u8 d.count ++ u8 d.dwell

/-! ### Reply bodies -/

/-- R14: handle, tag, extension index when one was allocated. -/
def attachBody (k : Nat) (tag : Tag) (ext : Option Nat) : List Byte := u16 k ++ bytes48 tag ++ optField 2 u16 ext

/-- R16: handle, tag, class, extension index. -/
def findBody (k : Nat) (c : Context) : List Byte := u16 k ++ bytes48 c.tag ++ [c.cls.code] ++ optField 2 u16 c.ext

/-- A candidate entry as READ carries it (R17). -/
def candidateField (e : Candidate) : List Byte :=
  headField e.head ++ u8 e.sector.val ++ u16 e.level ++ u8 e.ttt ++ u8 e.missing ++ u16 e.score

/-- The serving sector as READ reports it: absent while there is no serving head (R5). -/
def Context.reportedSector (c : Context) : Option Sector :=
  match c.serving with
  | some _ => some c.sector
  | none => none

/-- R17. -/
def readBody (k : Nat) (c : Context) : List Byte :=
  findBody k c ++ optField 1 headField c.serving ++ optField 1 (fun x : Sector => u8 x.val) c.reportedSector ++
    [segmentByte c.segment] ++ mark c.pinned ++ optField 4 (fun f : BitVec 32 => u32 f.toNat) c.lastReport ++
    u8 c.cands.length ++ c.cands.flatMap candidateField

/-- R19: handle, tag, resulting quay segment and pinned flag. -/
def amendBody (k : Nat) (c : Context) : List Byte :=
  u16 k ++ bytes48 c.tag ++ [segmentByte c.segment] ++ mark c.pinned

/-- R22: handle and tag of the retired context. -/
def retireBody (k : Nat) (c : Context) : List Byte := u16 k ++ bytes48 c.tag

/-- R96: link index and the settings now stored. -/
def craneStartBody (l : Nat) (k : CraneLink) : List Byte :=
  u16 l ++ u8 k.period ++ u8 k.units ++ u8 k.holdLimit ++ u8 k.missLimit

/-- A setpoint as its option codes it: sequence, then 16 bytes (Table 11-4). -/
def setpointField (p : Setpoint) : List Byte := bytes16 p.seq ++ p.bytes.toList

/-- The target head and the switch count of a handover in progress. -/
def Phase.target? : Phase → Option HeadIx
  | .none => Option.none
  | .prepared t => some t
  | .switching t _ => some t

def Phase.count? : Phase → Option Nat
  | .none => Option.none
  | .prepared _ => some 0
  | .switching _ n => some n

/-- R114, with the link's standing and prepared reservations as head and units. -/
def craneReadBody (l : Nat) (k : CraneLink) (standing prepared : Option (HeadIx × Nat)) : List Byte :=
  u16 l ++ [k.state.code] ++ [safeCauseByte k.cause] ++ mark k.releasePending ++
    u8 k.period ++ u8 k.units ++ u8 k.holdLimit ++ u8 k.missLimit ++
    timerField 0 k.cycle ++
    optField 18 (fun c : Current => setpointField c.sp) k.current ++
    optField 1 (fun c : Current => mark (!c.fresh)) k.current ++
    optField 2 (fun p : Setpoint => bytes16 p.seq) k.next ++
    u8 k.repeats ++ u8 k.misses ++ mark k.heard ++ mark k.heardLast ++
    optField 16 (fun f : Feedback => f.bytes.toList) k.feedback ++
    optField 2 (fun f : Feedback => bytes16 f.seq) k.feedback ++
    optField 1 (fun f : Feedback => u8 f.age) k.feedback ++
    optField 1 (fun a : List Fragment => u8 a.length) k.assembly ++
    optField 48 (fun b : Bytes48 => b.toList) k.sideBlock ++ u8 k.sideErrors ++
    optField 1 (fun b : DownBlock => u8 b.pos) k.down ++ optField 2 (fun b : DownBlock => bytes16 b.req) k.down ++
    optField 2 (fun b : WaitBlock => bytes16 b.req) k.waiting ++
    [k.phase.code] ++ optField 1 headField k.phase.target? ++ optField 1 u8 k.phase.count? ++
    optField 1 (fun r : HeadIx × Nat => headField r.1) standing ++ optField 1 (fun r : HeadIx × Nat => u8 r.2) standing ++
    optField 1 (fun r : HeadIx × Nat => headField r.1) prepared ++ optField 1 (fun r : HeadIx × Nat => u8 r.2) prepared

/-- R137. -/
def reeferReadBody (i : Nat) (tag : Tag) (r : Reefer) : List Byte :=
  u16 i ++ u16 r.owner ++ bytes48 tag ++
    optField 3 tempField r.supply ++ optField 3 tempField r.ret ++ optField 3 tempField r.setpoint ++
    optField 2 i16 r.booked ++ bytes16 r.flags ++ [r.power.code] ++
    [r.alarm.code] ++ u8 r.persist ++ optField 2 u16 r.lastDev ++
    u16 r.interval ++ u16 r.grace ++ u32 r.age ++ u8 r.missed ++
    [r.doze.code] ++ [r.pref.code] ++ [r.contact.code] ++ pageField r.page ++ pollField r.poll

/-- R136: the resulting I, G, doze preference and booked setpoint. -/
def reeferParamsBody (r : Reefer) : List Byte :=
  u16 r.interval ++ u16 r.grace ++ [r.pref.code] ++ optField 2 i16 r.booked

/-- R45: the resulting C and E. -/
def headConfigBody (x : Head) : List Byte := u8 x.capacity ++ u8 x.effective

/-- R33: the head index and the fault cause. -/
def headClearBody (h : HeadIx) (x : Head) : List Byte := headField h ++ [x.cause.code]

/-- R46, with the figures S, P, Wreq, Wg, U and the outstanding poll count. With no staged schedule the 19 bytes of its count
byte, slots, N and D follow the presence byte as zeros, the 16 slot bytes among them though the count byte is zero (log 9). -/
def headReadBody (h : HeadIx) (x : Head) (figures : List Nat) : List Byte :=
  headField h ++ [x.state.code] ++ u8 x.capacity ++ u8 x.effective ++ mark x.locked ++ [x.cause.code] ++
    u16 x.startFrames ++ u16 x.lockLimit ++ u16 x.holdoverLimit ++
    timerField 2 x.startTimer ++ timerField 0 x.lockTimer ++ timerField 0 x.holdoverTimer ++
    u8 x.spanFirst.val ++ u8 x.spanLast.val ++
    scheduleField x.active ++ optField 1 (fun p : SweepPos => u8 p.slot) x.sweep ++
    u16 (match x.sweep with | some p => p.remaining | none => 0) ++
    optField 19 scheduleField x.staged ++ figures.flatMap u8

/-- R78: the head, the first and the last segment of the run. -/
def shadowSetBody (h : HeadIx) (first last : Nat) : List Byte := headField h ++ u8 first ++ u8 last

/-- R79: the head index and the 64 values of the row, segment 0 first. -/
def shadowReadBody (h : HeadIx) (row : Vector Nat 64) : List Byte := headField h ++ row.toList.flatMap u8

/-- The four parameters of a class (R82). -/
def paramsField (p : ClassParams) : List Byte := u8 p.shift ++ u8 p.hysteresis ++ u8 p.ttt ++ i16 p.offset

/-- R82: the parameters of the named class, or of all four classes in order, and W. -/
def classParamsBody (named : Option Class) (p : ParamSets) (w : Nat) : List Byte :=
  (match named with
    | some c => paramsField (p.get c)
    | none => paramsField p.crane ++ paramsField p.reefer ++ paramsField p.vehicle ++ paramsField p.handheld) ++ u8 w

/-- R64: the head index, Wreq, Wg and the outstanding poll count. -/
def pollWindowBody (h : HeadIx) (a : Account) : List Byte := headField h ++ u8 a.wreq ++ u8 a.wg ++ u8 a.polls

/-- R164: the eight settings, in the order of Table 9-4. -/
def partConfigBody (g : Settings) : List Byte :=
  u16 g.devThreshold ++ u16 g.devHysteresis ++ u16 g.critThreshold ++ u8 g.persistence ++ bytes16 g.criticalMask ++
    u16 g.ackLimit ++ u16 g.pageLimit ++ u16 g.pollLimit

/-- R165. -/
def partStatusBody (s : State) : List Byte :=
  u32 s.frame.toNat ++ [s.restartCause.code] ++ mark s.overflow ++ u16 s.unmatched ++
    optField 6 bytes48 s.lastUnknown ++ u8 s.inflight.length ++ u16 s.notices.length

/-! ### Messages -/

/-- Bytes 6..13 of a reply and whether the identity is resolved (R173). -/
def Identity.bytes : Identity → List Byte
  | .context k tag => u16 k ++ bytes48 tag
  | .head h => u16 h.val ++ bytes48 0
  | .part => u16 0xFFFF ++ bytes48 0
  | .asGiven v => u16 0xFFFF ++ bytes48 v

def Identity.resolved : Identity → Bool
  | .context _ _ | .head _ => true
  | .part | .asGiven _ => false

/-- The bytes of a reply (Table 11-3). -/
def Reply.bytes (r : Reply) : List Byte :=
  [0x01, r.kind] ++ bytes16 r.reqTag ++ [r.result.code] ++
    [(if r.clamped then 1 else 0) + (if r.identity.resolved then 2 else 0)] ++ r.identity.bytes ++ r.body

/-- The content of a notice, its fields in the order the owning rule lists them (R173). -/
def NoticeContent.bytes : NoticeContent → List Byte
  | .handoverDone old new cause => optField 1 headField old ++ headField new ++ [cause.code]
  | .handoverFailed serving target cause => [headByte serving] ++ headField target ++ [cause.code]
  | .handoverBlocked h => headField h
  | .serveLost => []
  | .craneState st cause => [st.code, safeCauseByte cause]
  | .sideBlock b => b.toList
  | .reeferClass new old supply used dev persist flags =>
    [new.code, old.code] ++ optField 3 tempField supply ++ optField 2 i16 used ++ optField 2 u16 dev ++
      u8 persist ++ bytes16 flags
  | .reeferContact c d => [c.code, d.code]
  | .headState st cause e => [st.code, cause.code] ++ u8 e

/-- The bytes of a notice (Table 11-3); bytes 8..13 are the subject context's tag, zero for a head. -/
def Notice.bytes (s : State) (n : Notice) : List Byte :=
  match n.subject with
  | .context k =>
    ([0x02, n.content.kind.code] : List Byte) ++ u16 k ++ ([0, 0, 0, 0] : List Byte) ++
      bytes48 (match s.contexts.get? k with | some c => c.tag | none => 0) ++ n.content.bytes
  | .head h => ([0x02, n.content.kind.code] : List Byte) ++ u16 h.val ++ ([2, 0, 0, 0] : List Byte) ++ bytes48 0 ++ n.content.bytes

/-- The bytes of an order (Table 11-6, R174). -/
def Order.bytes : Order → List Byte
  | .craneDownlink h tag current body switchTo side =>
    [0x40] ++ headField h ++ bytes48 tag ++
      [(match body with
          | .stop _ => 1
          | .setpoint => match current with | some c => if c.fresh then 0 else 8 | none => 0) +
        (if switchTo.isSome then 2 else 0) + (if side.isSome then 4 else 0)] ++
      (match current with | some c => setpointField c.sp | none => List.replicate 18 0) ++
      [match body with | .stop c => safeCauseByte c | .setpoint => 0] ++
      [headByte switchTo] ++
      (match side with | some b => u8 b.pos ++ [b.frag.fst, b.frag.snd] | none => [0, 0, 0])
  | .serveOrder tag old new => [0x41] ++ bytes48 tag ++ [headByte old] ++ headField new
  | .drop h tag => [0x42] ++ headField h ++ bytes48 tag
  | .beam h x => [0x43] ++ headField h ++ [slotByte x]
  | .page h tag => [0x44] ++ headField h ++ bytes48 tag
  | .poll h tag => [0x45] ++ headField h ++ bytes48 tag
  | .dozeOrder h tag deep => [0x46] ++ headField h ++ bytes48 tag ++ [if deep then 2 else 1]

end Sys2Proof.Machine
end

