-- ==== Sys2Proof/Machine/Airtime.lean ====
section
/-! DEFINITION. The Airtime Table (Chapter 3): figures, the poll-window fit, poll credits and the wait lists they feed
(R146, R147), admission, conversion and release; and POLL_WINDOW_SET. -/

namespace Sys2Proof.Machine

/-! ### Figures -/

/-- The sum of the units of the reservations of a kind. -/
def Account.sum (a : Account) (k : ResKind) : Nat := ((a.list.filter fun r => r.kind == k).map (·.units)).sum

/-- S: the standing units (Table 3-3). -/
def Account.standing (a : Account) : Nat := a.sum .standing

/-- P: the prepared units (Table 3-3). -/
def Account.prepared (a : Account) : Nat := a.sum .prepared

/-- U: the committed airtime, S + P + Wg (R50). -/
def Account.committed (a : Account) : Nat := a.standing + a.prepared + a.wg

/-- An entry of a reservation list as the manual lists it (Table 3-1). -/
inductive ListEntry where
  | standing (units owner : Nat)
  | prepared (units owner : Nat)
  | poll (units : Nat)
  deriving DecidableEq, Repr

/-- The reservation list with the poll entry, present while Wg is above zero, at its tail (R49). -/
def Account.entries (a : Account) : List ListEntry :=
  (a.list.map fun r => match r.kind with
    | .standing => ListEntry.standing r.units r.owner
    | .prepared => ListEntry.prepared r.units r.owner) ++ (if 0 < a.wg then [.poll a.wg] else [])

/-- The figures of a head in the order HEAD_READ reports them (R46). -/
def Account.figures (a : Account) : List Nat :=
  [a.standing, a.prepared, a.wreq, a.wg, a.committed, a.polls]

/-- The reservation of a kind that a link holds: its head and units (R116). -/
def State.reservation (s : State) (k : ResKind) (l : Nat) : Option (HeadIx × Nat) :=
  allHeads.findSome? fun h =>
    ((s.account h).list.find? fun r => r.kind == k && r.owner == l).map fun r => (h, r.units)

/-- The units that a link holds on a head, standing or prepared (R66). -/
def State.ownUnits (s : State) (h : HeadIx) : Option Nat → Nat
  | some l => (((s.account h).list.filter fun r => r.owner == l).map (·.units)).sum
  | none => 0

/-! ### Polls (R59, R146, R147) -/

/-- A credit is given on a head in service whose outstanding poll count is below its Wg (R59). -/
def State.creditGiven (s : State) (h : HeadIx) : Bool :=
  (s.head h).state.inService && (s.account h).polls < (s.account h).wg

/-- Send a poll for record `i` through head `h` on a credit given: the count rises by one, POLL is sent, the poll is
OUTSTANDING with the head as sending head, and its timer starts at the poll-answer limit (R59, R146). -/
def State.sendPoll (s : State) (h : HeadIx) (i : Nat) : State :=
  match s.reeferContext i with
  | some c =>
    ((s.modAccount h fun a => { a with polls := a.polls + 1 }).modReefer i fun r =>
      { r with poll := .outstanding h s.settings.pollLimit }).order (.poll h c.tag)
  | none => s

/-- Poll the oldest reefers of a head's wait list while credits are given; the first refusal ends the pass and the
refused reefer keeps its place at the front (R147). `waiting` is the list as it stands. -/
def waitPassFrom (h : HeadIx) : (waiting : List Nat) → State → State
  | [], s => s
  | i :: rest, s => if s.creditGiven h then waitPassFrom h rest ((s.setPollWait h rest).sendPoll h i) else s

/-- The wait-list pass of a head (R147). -/
def State.waitPass (s : State) (h : HeadIx) : State := waitPassFrom h (s.pollWait h) s

/-- Make a poll for record `i` (R146): with no serving head none is made; on a credit it is sent; on a refusal the reefer
joins the tail of the serving head's wait list. A reefer polled or waiting already is left as it is (R145). -/
def State.makePoll (s : State) (i : Nat) : State :=
  match s.reefers.get? i, s.reeferServing i with
  | some r, some h =>
    if r.poll = .none then
      if s.creditGiven h then s.sendPoll h i
      else (s.setPollWait h (s.pollWait h ++ [i])).modReefer i fun r => { r with poll := .waiting }
    else s
  | _, _ => s

/-- A credit returns to the head that sent the poll, and that head's wait list is passed over (R60, R147). -/
def State.returnCredit (s : State) (h : HeadIx) : State :=
  (s.modAccount h fun a => { a with polls := a.polls - 1 }).waitPass h

/-- Take record `i` out of every poll wait list. -/
def State.leaveWaitLists (s : State) (i : Nat) : State :=
  { s with pollWaits := mapEach (fun q => q.filter (· != i)) s.pollWaits }

/-- End the poll of record `i`, if there is one: an outstanding poll returns its credit to its sending head, a waiting
reefer leaves its wait list (R147). -/
def State.endPoll (s : State) (i : Nat) : State :=
  match s.reefers.get? i with
  | none => s
  | some r =>
    match r.poll with
    | .none => s
    | .outstanding h _ => (s.modReefer i fun r => { r with poll := .none }).returnCredit h
    | .waiting => (s.leaveWaitLists i).modReefer i fun r => { r with poll := .none }

/-! ### The fit (R57) -/

/-- The poll window the fit grants: min(Wreq, max(0, E - S - P)) (R57). -/
def grantedWindow (x : Head) (a : Account) : Nat := min a.wreq (x.effective - a.standing - a.prepared)

/-- The poll-window fit of a head (R57): Wg is set, and when it grew the head's wait list is passed over. -/
def State.fit (s : State) (h : HeadIx) : State :=
  let wg := grantedWindow (s.head h) (s.account h)
  let s' := s.modAccount h fun a => { a with wg := wg }
  if (s.account h).wg < wg then s'.waitPass h else s'

/-! ### Admission, conversion, release -/

/-- The answer to an admission asked (R52). -/
inductive Admission where
  | admitted | notActive | doesNotFit
  deriving DecidableEq, Repr

/-- The test of R52: the head is ACTIVE and S + P + u is at most E. -/
def admissionTest (x : Head) (a : Account) (u : Nat) : Admission :=
  if x.state ≠ .active then .notActive
  else if a.standing + a.prepared + u ≤ x.effective then .admitted
  else .doesNotFit

/-- The answer to a standing reservation asked for link `l` (R53): a link that holds one on this head is admitted with
no change, a link that holds one elsewhere is refused as not fitting. -/
def State.askStanding (s : State) (h : HeadIx) (l u : Nat) : Admission :=
  match s.reservation .standing l with
  | some (h', _) => if h' = h then .admitted else .doesNotFit
  | none => admissionTest (s.head h) (s.account h) u

/-- The answer to a prepared reservation asked for link `l` (R54): refused as not fitting on the head of the link's
standing reservation and when the link holds a prepared one anywhere. -/
def State.askPrepared (s : State) (h : HeadIx) (l u : Nat) : Admission :=
  if (s.reservation .standing l).any (fun r => r.1 == h) || (s.reservation .prepared l).isSome then .doesNotFit
  else admissionTest (s.head h) (s.account h) u

/-- An admitted reservation joins the list of its head at the tail, and the fit runs (R49, R52). -/
def State.join (s : State) (h : HeadIx) (k : ResKind) (l u : Nat) : State :=
  (s.modAccount h fun a => { a with list := a.list ++ [{ kind := k, units := u, owner := l }] }).fit h

/-- Take up an admitted standing reservation: a link that holds one already keeps it unchanged (R53). -/
def State.joinStanding (s : State) (h : HeadIx) (l u : Nat) : State :=
  match s.reservation .standing l with
  | some _ => s
  | none => s.join h .standing l u

/-- Release a link's reservation of a kind on a head, with the fit; a reservation the list no longer holds changes
nothing (R56). -/
def State.releaseOn (s : State) (h : HeadIx) (k : ResKind) (l : Nat) : State :=
  if (s.account h).list.any (fun r => r.kind == k && r.owner == l) then
    (s.modAccount h fun a => { a with list := a.list.filter fun r => !(r.kind == k && r.owner == l) }).fit h
  else s

/-- Release the standing reservation of a link, wherever it stands (R56). -/
def State.releaseStanding (s : State) (l : Nat) : State :=
  match s.reservation .standing l with
  | some (h, _) => s.releaseOn h .standing l
  | none => s

/-- A link's prepared reservation on a head becomes standing in place, and the fit runs (R55). -/
def State.convert (s : State) (h : HeadIx) (l : Nat) : State :=
  (s.modAccount h fun a =>
    { a with list := a.list.map fun r =>
        if r.kind == .prepared && r.owner == l then { r with kind := .standing } else r }).fit h

/-! ### POLL_WINDOW_SET -/

/-- A taken POLL_WINDOW_SET: Wreq is set and the fit runs (R64). -/
def setWindow (h : HeadIx) (w : Nat) (s : State) : State := (s.modAccount h fun a => { a with wreq := w }).fit h

/-- POLL_WINDOW_SET (R64). -/
def execPollWindowSet (r : Request) (s : State) : Out :=
  match headTarget .pollWindowSet r with
  | .error e => .next (refuse .pollWindowSet r e s)
  | .ok (os, h) =>
    let w := clampOpt 0 240 (s.account h).wreq (os.nat .window)
    let s' := setWindow h w.value s
    .next (answer .pollWindowSet r .done w.clamped (.head h) (pollWindowBody h (s'.account h)) s')

end Sys2Proof.Machine
end

