-- ==== Sys2Proof/Machine/Handover.lean ====
section
/-! DEFINITION. The crane handover (Chapter 6) and the steps it shares with heads and links: ending without completion,
completion, rescue, the entry to SAFE_STOP and the loss of the serving head (R102, R112). -/

namespace Sys2Proof.Machine

/-- The endings that keep the target's TTT count (Table 6-3). -/
def HandoverCause.keepsCount : HandoverCause → Bool
  | .noAnswer | .ordered | .released => false
  | _ => true

/-- Set the TTT count of one head's entry to 0 (R121). -/
def Context.clearCount (c : Context) (h : HeadIx) : Context :=
  { c with cands := c.cands.map fun e => if e.head = h then { e with ttt := 0 } else e }

/-- End a handover without completion (R121 steps 2 to 4), its prepared reservation being released already: the phase
becomes NONE, the target's count is set to 0 or kept by Table 6-3, and HANDOVER_FAILED is posted. -/
def State.endHandover (s : State) (l : Nat) (cause : HandoverCause) : State :=
  match s.links.get? l with
  | none => s
  | some k =>
    match k.phase.target? with
    | none => s
    | some t =>
      let s1 := s.modLink l fun k => { k with phase := .none }
      let s2 := if cause.keepsCount then s1 else s1.modContext k.owner fun c => c.clearCount t
      s2.post (.context k.owner) (.handoverFailed ((s.linkContext l).bind (·.serving)) t cause)

/-- Cancel a handover in progress: the CLU releases the prepared reservation on the target, with its fit, and ends the
handover (R121, R122). A link with phase NONE is left as it is. -/
def State.cancelHandover (s : State) (l : Nat) (cause : HandoverCause) : State :=
  match (s.links.get? l).bind (·.phase.target?) with
  | some t => (s.releaseOn t .prepared l).endHandover l cause
  | none => s

/-- Take a link's prepared reservation out of a head's list, the fit being left to the caller (R35, R61, R68). -/
def State.dropPrepared (s : State) (h : HeadIx) (l : Nat) : State :=
  s.modAccount h fun a => { a with list := a.list.filter fun r => !(r.kind == .prepared && r.owner == l) }

/-- The owners of the prepared reservations of a head, oldest first. -/
def Account.preparedOwners (a : Account) : List Nat := (a.list.filter fun r => r.kind == .prepared).map (·.owner)

/-- The owners of the standing reservations of a head, oldest first. -/
def Account.standingOwners (a : Account) : List Nat := (a.list.filter fun r => r.kind == .standing).map (·.owner)

/-- Cancel the prepared reservations of the links given, in that order, each ending its handover (R35). -/
def cancelEach (h : HeadIx) (cause : HandoverCause) : List Nat → State → State
  | [], s => s
  | l :: rest, s => cancelEach h cause rest ((s.dropPrepared h l).endHandover l cause)

/-- Cancel every prepared reservation of a head that leaves ACTIVE, oldest first (R35, R123). -/
def State.cancelPrepared (s : State) (h : HeadIx) : State :=
  cancelEach h .targetLost (s.account h).preparedOwners s

/-- Cancel prepared reservations of a head, in the order given, until S + P is within E (R61). -/
def cancelUntilFits (h : HeadIx) : (newestFirst : List Nat) → State → State
  | [], s => s
  | l :: rest, s =>
    if (s.account h).standing + (s.account h).prepared ≤ (s.head h).effective then s
    else cancelUntilFits h rest ((s.dropPrepared h l).endHandover l .capacity)

/-- Enter SAFE_STOP (R102): the state and the cause are set, a next setpoint is discarded, CRANE_STATE is posted. -/
def State.enterSafeStop (s : State) (l : Nat) (cause : SafeCause) : State :=
  match s.links.get? l with
  | none => s
  | some k =>
    (s.modLink l fun k => { k with state := .safeStop, cause := some cause, next := none }).post
      (.context k.owner) (.craneState .safeStop (some cause))

/-- Completion of a handover (R120), the uplink having been taken. -/
def State.completeHandover (s : State) (l : Nat) : State :=
  match s.links.get? l, s.linkContext l with
  | some k, some c =>
    match k.phase.target? with
    | none => s
    | some t =>
      let s1 := s.modContext k.owner fun c => c.serveOn t
      let s2 := s1.convert t l
      let s3 := match c.serving with | some old => s2.releaseOn old .standing l | none => s2
      let s4 := s3.modLink l fun k => { k with phase := .none }
      let s5 := s4.order (.serveOrder c.tag c.serving t)
      s5.post (.context k.owner) (.handoverDone c.serving t .trigger)
  | _, _ => s

/-- Rescue of a link in a handover whose serving head `h` has faulted (R124), after SERVE_LOST and the release of its
standing reservation. -/
def State.rescue (s : State) (l : Nat) (h t : HeadIx) : State :=
  match s.links.get? l, s.linkContext l with
  | some k, some c =>
    let s1 := s.modContext k.owner fun c => c.serveOn t
    let s2 := s1.convert t l
    let s3 := s2.modLink l fun k => { k with phase := .none }
    let s4 := s3.order (.serveOrder c.tag (some h) t)
    s4.post (.context k.owner) (.handoverDone (some h) t .rescue)
  | _, _ => s

/-- A link with phase NONE loses its serving head (R112); `held` says that it held a standing reservation there. The
heard-last-cycle mark and the side assembly are left to the next expiry, as R112 states, and the heard flag of the present
cycle is kept until then (log 24). -/
def State.losePath (s : State) (l : Nat) (held : Bool) : State :=
  match s.links.get? l with
  | none => s
  | some k =>
    match k.state with
    | .running | .holding => s.enterSafeStop l .pathLost
    | .safeStop => if held then s.enterSafeStop l .pathLost else s
    | .idle => s

/-- The Crane Link Unit receives a link whose serving head `h` has faulted (R36): it is rescued when a handover is in
progress, else it loses its path. -/
def State.loseHead (s : State) (l : Nat) (h : HeadIx) (held : Bool) : State :=
  match (s.links.get? l).bind (·.phase.target?) with
  | some t => s.rescue l h t
  | none => s.losePath l held

end Sys2Proof.Machine
end

