-- ==== Sys2Proof/Machine/Paging.lean ====
section
/-! DEFINITION. Pages and contact (8.4, 8.5): the steps on page queues that heads, reports, timers and requests share. -/

namespace Sys2Proof.Machine

/-- Set the contact of a record; a change posts REEFER_CONTACT with the new value and the doze state (R154). -/
def State.setContact (s : State) (i : Nat) (c : Contact) : State :=
  match s.reefers.get? i with
  | none => s
  | some r =>
    if r.contact = c then s
    else (s.modReefer i fun r => { r with contact := c }).post (.context r.owner) (.reeferContact c r.doze)

/-- Take record `i` out of every page queue; the pages behind it keep their order (R148). -/
def State.leavePageQueues (s : State) (i : Nat) : State :=
  { s with pageQueues := mapEach (fun q => q.filter (· != i)) s.pageQueues }

/-- End the pending page of a record: it leaves its queue, a running page-answer timer stops, the page state becomes
none, and a controller page is answered and leaves the in-flight list (R143, R151 to R153). -/
def State.endPage (s : State) (i : Nat) (res : Result) : State :=
  match s.reefers.get? i with
  | none => s
  | some r =>
    match r.page with
    | none => s
    | some p =>
      let s1 := (s.leavePageQueues i).modReefer i fun r => { r with page := none }
      match p.owner with
      | some t => s1.endOldest (InFlight.is .page (.context r.owner) t) res
      | none => s1

/-- A page fails: it ends FAILED and contact becomes UNREACHABLE (R153). -/
def State.failPage (s : State) (i : Nat) : State := (s.endPage i .failed).setContact i .unreachable

/-- Change the pending page of a record. -/
def State.modPage (s : State) (i : Nat) (f : Page → Page) : State :=
  s.modReefer i fun r => { r with page := r.page.map f }

/-- The active or the staged schedule of a head covers the serving sector of a record's context. -/
def State.covered (s : State) (h : HeadIx) (i : Nat) : Bool :=
  match s.reeferContext i with
  | some c => (s.head h).covers c.sector
  | none => false

/-- The phase in which a page is queued for a record (R149): ACK_WAIT in DOZE_ORDERED, else SLOT_WAIT. -/
def Doze.pagePhase : Doze → PagePhase
  | .ordered => .ackWait
  | _ => .slotWait

/-- Queue a page for a record at the tail of a head's page queue, with attempts 0 (R148). -/
def State.queuePage (s : State) (h : HeadIx) (i : Nat) (owner : Option ReqTag) : State :=
  (s.setPageQueue h (s.pageQueue h ++ [i])).modReefer i fun r =>
    { r with page := some { owner := owner, attempts := 0, phase := r.doze.pagePhase } }

/-- Queue an internal page (R149): a deep-doze page that neither schedule covers ends at once, and a full queue takes
no page; neither leaves a trace. -/
def State.internalPage (s : State) (h : HeadIx) (i : Nat) : State :=
  match s.reefers.get? i with
  | none => s
  | some r =>
    if r.doze = .deep ∧ ¬ s.covered h i then s
    else if (s.pageQueue h).length < Config.pageEntries then s.queuePage h i none
    else s

/-- A page leaving ACK_WAIT at a doze acknowledgement meets the tests of a page newly queued in the doze state now held
(R142): LIGHT_DOZE goes to SLOT_WAIT, DEEP_DOZE too when a schedule of the serving head covers the serving sector, else
the page ends NOT_COVERED. -/
def State.releaseAckPage (s : State) (i : Nat) : State :=
  match s.reefers.get? i with
  | none => s
  | some r =>
    match r.page with
    | none => s
    | some p =>
      if p.phase = .ackWait then
        let covered : Bool := match s.reeferServing i with | some h => s.covered h i | none => false
        if r.doze = .deep ∧ ¬ covered then s.endPage i .notCovered
        else s.modPage i fun p => { p with phase := .slotWait }
      else s

/-- A page in SLOT_WAIT suits a slot naming `sec` when its reefer is in LIGHT_DOZE, or in DEEP_DOZE with that serving
sector (R151). -/
def State.suits (s : State) (i : Nat) (sec : Sector) : Bool :=
  match s.reefers.get? i, s.reeferContext i with
  | some r, some c =>
    (match r.page with | some p => p.phase == .slotWait | none => false) &&
      (r.doze == .light || (r.doze == .deep && c.sector == sec))
  | _, _ => false

/-- Send the page of a record through a head: the PAGE order, phase SENT, the page-answer timer at its limit (R151). -/
def State.sendPage (s : State) (h : HeadIx) (i : Nat) : State :=
  match s.reeferContext i with
  | none => s
  | some c => (s.order (.page h c.tag)).modPage i fun p => { p with phase := .sent s.settings.pageLimit }

/-- Walk a page queue and send every page that the slot suits (R151). -/
def releaseFrom (h : HeadIx) (sec : Sector) : List Nat → State → State
  | [], s => s
  | i :: rest, s => releaseFrom h sec rest (if s.suits i sec then s.sendPage h i else s)

/-- The pages released at the entry of a slot naming a sector (R151). -/
def State.releasePages (s : State) (h : HeadIx) (sec : Sector) : State := releaseFrom h sec (s.pageQueue h) s

/-- At a wrap, a page of a reefer in DEEP_DOZE, in SLOT_WAIT or SENT, is uncovered when the active schedule does not
cover the serving sector (R151). -/
def State.uncoveredAtWrap (s : State) (h : HeadIx) (i : Nat) : Bool :=
  match s.reefers.get? i, s.reeferContext i with
  | some r, some c =>
    r.doze == .deep && (match r.page with | some p => p.phase != .ackWait | none => false) &&
      !(s.head h).active.covers c.sector
  | _, _ => false

/-- End the uncovered pages of a queue, in queue order (R41 step 2, R151). -/
def wrapFrom (h : HeadIx) : List Nat → State → State
  | [], s => s
  | i :: rest, s => wrapFrom h rest (if s.uncoveredAtWrap h i then s.endPage i .notCovered else s)

/-- The test of a head's page queue at a wrap (R151). -/
def State.wrapPages (s : State) (h : HeadIx) : State := wrapFrom h (s.pageQueue h) s

/-- End the pages of the records given, in that order. -/
def endPages (res : Result) : List Nat → State → State
  | [], s => s
  | i :: rest, s => endPages res rest (s.endPage i res)

/-- The fault of a head on the reefer services (R37): its page queue is emptied, controller pages answered NO_PATH; its
poll wait list is emptied; every poll sent through it ends without returning its credit. -/
def State.faultReefers (s : State) (h : HeadIx) : State :=
  let s1 := (endPages .noPath (s.pageQueue h) s).setPageQueue h []
  let waiting := s1.pollWait h
  let s2 := s1.setPollWait h []
  { s2 with
    reefers := s2.reefers.map fun e =>
      (e.1, if waiting.contains e.1 then { e.2 with poll := .none }
        else match e.2.poll with
          | .outstanding h' _ => if h' = h then { e.2 with poll := .none } else e.2
          | _ => e.2) }

end Sys2Proof.Machine
end

