-- ==== Sys2Proof/Machine/Heads.lean ====
section
/-! DEFINITION. The head records of the Coverage Unit (Chapter 2): the state machine, the fault of a head, the beam
sweep, and the requests on heads. -/

namespace Sys2Proof.Machine

/-! ### The sweep (2.4) -/

/-- The sector of a slot of a schedule, or SILENT. -/
def Schedule.slot (d : Schedule) (k : Nat) : Option Sector := (d.slots.toList[k]?).getD none

/-- A slot entry (R40): the current slot and the dwell are set, BEAM is sent, and the pages the slot suits follow. -/
def State.enterSlot (s : State) (h : HeadIx) (k : Nat) : State :=
  let d := (s.head h).active
  let s1 := (s.modHead h fun x => { x with sweep := some { slot := k, remaining := 2 * d.dwell } }).order
    (.beam h (d.slot k))
  match d.slot k with
  | some sec => s1.releasePages h sec
  | none => s1

/-- Step 1 of a wrap (R41): a staged schedule becomes the active one and its SWEEP_SET is answered DONE. -/
def State.applyStaged (s : State) (h : HeadIx) : State :=
  match (s.head h).staged with
  | some d =>
    (s.modHead h fun x => { x with active := d, staged := none }).endOldest (InFlight.isFor .sweepSet (.head h)) .done
  | none => s

/-- The wrap of a sweep (R41). -/
def State.wrap (s : State) (h : HeadIx) : State := ((s.applyStaged h).wrapPages h).enterSlot h 0

/-- The dwell expiry of a head, when its dwell has run out (R41). -/
def State.dwellExpiry (s : State) (h : HeadIx) : State :=
  match (s.head h).sweep with
  | some p =>
    if p.remaining = 0 then
      if p.slot + 1 < (s.head h).active.count then s.enterSlot h (p.slot + 1) else s.wrap h
    else s
  | none => s

/-! ### Changes of state (2.2) -/

/-- Post HEAD_STATE for a head as its record stands (R34). -/
def State.postHeadState (s : State) (h : HeadIx) : State :=
  s.post (.head h) (.headState (s.head h).state (s.head h).cause (s.head h).effective)

/-- A change of a head's state other than to FAULTED: `f` writes the record, HEAD_STATE is posted, the prepared
reservations of a head that leaves ACTIVE are cancelled, and the new E is fitted (R34, R35, R63). -/
def State.changeHead (s : State) (h : HeadIx) (f : Head → Head) : State :=
  let s1 := (s.modHead h f).postHeadState h
  let s2 := if (s.head h).state = .active ∧ (s1.head h).state ≠ .active then s1.cancelPrepared h else s1
  s2.fit h

/-- A head in STARTING with both conditions met, or in HOLDOVER with lock, enters ACTIVE (R28, R30). -/
def State.enterActive (s : State) (h : HeadIx) : State :=
  s.changeHead h fun x =>
    { x with state := .active, locked := true, startTimer := none, lockTimer := none, holdoverTimer := none }

/-! ### The fault of a head (2.3) -/

/-- What the fault of head `h` does to the context in slot `k` (R4, R11, R36): the head's candidate entry is removed;
when the head served the context its serving head is cleared and SERVE_LOST posted, and its crane link is handed on.
`held` lists the links that held a standing reservation on the head. -/
def faultContext (h : HeadIx) (held : List Nat) (k : Nat) (s : State) : State :=
  match s.contexts.get? k with
  | none => s
  | some c =>
    let s1 := s.modContext k fun c =>
      { c with
        cands := c.cands.filter fun e => e.head != h
        serving := if c.serving = some h then none else c.serving }
    if c.serving = some h then
      let s2 := s1.post (.context k) .serveLost
      match c.cls, c.ext with
      | .crane, some l => s2.loseHead l h (held.contains l)
      | _, _ => s2
    else s1

/-- The fault taken to every context, in handle order (R38 item 3, which orders the notices). The SERVE_ORDERs of several
rescues of one fault go out in handle order too: R65 hands the links over in list order, R124 sends one order each, and no
rule orders them among themselves (log 12). -/
def faultContexts (h : HeadIx) (held : List Nat) : List Nat → State → State
  | [], s => s
  | k :: rest, s => faultContexts h held rest (faultContext h held k s)

/-- Entry of a head to FAULTED, whole (R31, R35 to R38, R65). -/
def State.enterFault (s : State) (h : HeadIx) (cause : FaultCause) : State :=
  let x := s.head h
  let held := (s.account h).standingOwners
  let s1 := (s.modHead h fun x =>
    { x with
      state := .faulted, cause := cause, startTimer := none, lockTimer := none, holdoverTimer := none, sweep := none,
      active := x.staged.getD x.active, staged := none }).postHeadState h
  let s2 := if x.state = .active then s1.cancelPrepared h else s1
  let s3 := s2.order (.beam h none)
  let s4 := (s3.modAccount h fun a => { a with list := [], polls := 0 }).fit h
  let s5 := faultContexts h held s4.contexts.keys s4
  let s6 := s5.faultReefers h
  if x.staged.isSome then s6.endOldest (InFlight.isFor .sweepSet (.head h)) .done else s6

/-! ### Head events -/

/-- A head event is routed by its index; an index above 23 is unmatched (R168, R169). -/
def onHead (b : Byte) (s : State) (f : HeadIx → State → State) : State :=
  match headOf b with
  | some h => f h s
  | none => s.unmatchedEvent none

/-- A HEAD_UP taken for a head (R27, R32). -/
def headUp (h : HeadIx) (s : State) : State :=
  if (s.head h).state = .offline then
    let s1 := s.modHead h fun x =>
      { x with
        state := .starting, cause := .none, locked := false, startTimer := some x.startFrames,
        lockTimer := some x.lockLimit, holdoverTimer := none }
    ((s1.enterSlot h 0).postHeadState h).fit h
  else s

/-- HEAD_UP (R27). -/
def execHeadUp (b : Byte) (s : State) : Out := .next (onHead b s headUp)

/-- A SYNC_LOCK taken for a head (R28, R30, R32). -/
def syncLock (h : HeadIx) (s : State) : State :=
  match (s.head h).state with
  | .starting =>
    if (s.head h).locked then s
    else if (s.head h).startTimer = none then s.enterActive h
    else s.modHead h fun x => { x with locked := true, lockTimer := none }
  | .holdover => s.enterActive h
  | .offline | .active | .faulted => s

/-- SYNC_LOCK (R28). -/
def execSyncLock (b : Byte) (s : State) : Out := .next (onHead b s syncLock)

/-- A SYNC_LOST taken for a head (R29, R30, R32). -/
def syncLost (h : HeadIx) (s : State) : State :=
  match (s.head h).state with
  | .starting => s.modHead h fun x => { x with locked := false, lockTimer := some x.lockLimit }
  | .active =>
    s.changeHead h fun x => { x with state := .holdover, locked := false, holdoverTimer := some x.holdoverLimit }
  | .offline | .holdover | .faulted => s

/-- SYNC_LOST (R30). -/
def execSyncLost (b : Byte) (s : State) : Out := .next (onHead b s syncLost)

/-- A LINE_FAULT taken for a head (R31, R32). -/
def lineFault (short : Bool) (h : HeadIx) (s : State) : State :=
  if (s.head h).state.inService then s.enterFault h (if short then .lineShort else .lineOpen) else s

/-- LINE_FAULT (R31). -/
def execLineFault (b : Byte) (short : Bool) (s : State) : Out := .next (onHead b s (lineFault short))

/-! ### Expiries of head timers. An expiry is taken when its timer runs with no frame remaining (log 2); otherwise there
is none to take, and nothing changes (log 3). -/

/-- The start timer expiry (R28). -/
def State.startTimerExpiry (s : State) (h : HeadIx) : State :=
  if (s.head h).state = .starting ∧ (s.head h).startTimer = some 0 then
    if (s.head h).locked then s.enterActive h else s.modHead h fun x => { x with startTimer := none }
  else s

/-- START_TIMER_EXPIRY (R28). -/
def execStartTimerExpiry (h : HeadIx) (s : State) : Out := .next (s.startTimerExpiry h)

/-- The lock-wait expiry (R29). -/
def State.lockWaitExpiry (s : State) (h : HeadIx) : State :=
  if (s.head h).state = .starting ∧ (s.head h).lockTimer = some 0 then s.enterFault h .noLock else s

/-- LOCK_WAIT_EXPIRY (R29). -/
def execLockWaitExpiry (h : HeadIx) (s : State) : Out := .next (s.lockWaitExpiry h)

/-- The holdover expiry (R30). -/
def State.holdoverExpiry (s : State) (h : HeadIx) : State :=
  if (s.head h).state = .holdover ∧ (s.head h).holdoverTimer = some 0 then s.enterFault h .holdoverExpired else s

/-- HOLDOVER_EXPIRY (R30). -/
def execHoldoverExpiry (h : HeadIx) (s : State) : Out := .next (s.holdoverExpiry h)

/-- DWELL_EXPIRY (R41). -/
def execDwellExpiry (h : HeadIx) (s : State) : Out := .next (s.dwellExpiry h)

/-! ### HEAD_CONFIG, HEAD_READ, HEAD_CLEAR (2.5, R33) -/

/-- The settings a HEAD_CONFIG writes, each with its clamping. -/
structure HeadPlan where
  capacity : Clamped Nat
  startFrames : Clamped Nat
  lockLimit : Clamped Nat
  holdoverLimit : Clamped Nat
  spanFirst : Segment
  spanLast : Segment
  deriving DecidableEq, Repr

/-- The owner's checks of HEAD_CONFIG in the order of R44: span values, at least one option, span order, and the
capacity against S (R62). -/
def headConfigChecks (os : Options) (x : Head) (a : Account) : Except Result HeadPlan :=
  match os.readAs .spanFirst x.spanFirst segmentOf, os.readAs .spanLast x.spanLast segmentOf with
  | some first, some last =>
    if os.isEmpty then .error .missingOption
    else if last < first then .error .badOption
    else
      let c := clampOpt 16 240 x.capacity (os.nat .capacity)
      if os.has .capacity ∧ c.value < a.standing then .error .badOption
      else .ok
        { capacity := c,
          startFrames := clampOpt 1 65535 x.startFrames (os.nat .startFrames),
          lockLimit := clampOpt 1 65535 x.lockLimit (os.nat .lockLimit),
          holdoverLimit := clampOpt 1 65535 x.holdoverLimit (os.nat .holdoverLimit),
          spanFirst := first, spanLast := last }
  | _, _ => .error .badOption

/-- Some value of the plan was clamped. -/
def HeadPlan.clamped (p : HeadPlan) : Bool :=
  p.capacity.clamped || p.startFrames.clamped || p.lockLimit.clamped || p.holdoverLimit.clamped

/-- The settings of a HEAD_CONFIG written into a head record; running timers keep their counts (R45). -/
def HeadPlan.write (p : HeadPlan) (x : Head) : Head :=
  { x with
    capacity := p.capacity.value, startFrames := p.startFrames.value, lockLimit := p.lockLimit.value,
    holdoverLimit := p.holdoverLimit.value, spanFirst := p.spanFirst, spanLast := p.spanLast }

/-- A new E by HEAD_CONFIG is handed to the Airtime Table, which cancels prepared reservations from the newest back and
runs one fit (R45, R61). -/
def State.newCapacity (s : State) (h : HeadIx) : State :=
  (cancelUntilFits h (s.account h).preparedOwners.reverse s).fit h

/-- A taken HEAD_CONFIG (R45). -/
def takeHeadConfig (h : HeadIx) (withCapacity : Bool) (p : HeadPlan) (s : State) : State :=
  let s1 := s.modHead h p.write
  if withCapacity then s1.newCapacity h else s1

/-- HEAD_CONFIG (R44, R45). -/
def execHeadConfig (r : Request) (s : State) : Out :=
  match headTarget .headConfig r with
  | .error e => .next (refuse .headConfig r e s)
  | .ok (os, h) =>
    match headConfigChecks os (s.head h) (s.account h) with
    | .error res => .next (refuse .headConfig r { result := res, identity := .head h } s)
    | .ok p =>
      let s' := takeHeadConfig h (os.has .capacity) p s
      .next (answer .headConfig r .done p.clamped (.head h) (headConfigBody (s'.head h)) s')

/-- HEAD_READ (R46). -/
def execHeadRead (r : Request) (s : State) : Out :=
  match headTarget .headRead r with
  | .error e => .next (refuse .headRead r e s)
  | .ok (_, h) =>
    .next (answer .headRead r .done false (.head h) (headReadBody h (s.head h) (s.account h).figures) s)

/-- HEAD_CLEAR (R33). -/
def execHeadClear (r : Request) (s : State) : Out :=
  match headTarget .headClear r with
  | .error e => .next (refuse .headClear r e s)
  | .ok (_, h) =>
    if (s.head h).state = .faulted then
      let s' := s.changeHead h fun x => { x with state := .offline }
      .next (answer .headClear r .done false (.head h) (headClearBody h (s.head h)) s')
    else .next (refuse .headClear r { result := .wrongState, identity := .head h } s)

/-! ### SWEEP_SET (R42, R43) -/

/-- Sixteen slots: the values given, then SILENT. -/
def padSlots (xs : List (Option Sector)) : Vector (Option Sector) 16 :=
  ⟨((xs ++ List.replicate 16 none).take 16).toArray, by simp⟩

/-- The schedule a SWEEP_SET gives, with its CLAMPED flag (R42): an absent count is the number of slot values, an absent
dwell that of the active schedule. -/
def sweepPlan (os : Options) (xs : List (Option Sector)) (active : Schedule) : Clamped Schedule :=
  let n := clampOpt 1 16 xs.length (os.nat .count)
  let d := clampOpt 1 255 active.dwell (os.nat .dwell)
  { value := { slots := padSlots xs, count := n.value, dwell := d.value }, clamped := n.clamped || d.clamped }

/-- A taken SWEEP_SET on a sweeping head (R42): a schedule staged before is replaced and its request answered REPLACED,
and the new request joins the in-flight list. -/
def State.stage (s : State) (h : HeadIx) (t : ReqTag) (p : Clamped Schedule) : State :=
  let s1 := if (s.head h).staged.isSome then s.endOldest (InFlight.isFor .sweepSet (.head h)) .replaced else s
  (s1.modHead h fun x => { x with staged := some p.value }).joinInflight
    { reqTag := t, kind := .sweepSet, subject := .head h, clamped := p.clamped }

/-- SWEEP_SET (R42, R43): slot values, then the in-flight list, then staged on a sweeping head or active at once. -/
def execSweepSet (r : Request) (s : State) : Out :=
  match headTarget .sweepSet r with
  | .error e => .next (refuse .sweepSet r e s)
  | .ok (os, h) =>
    match slotsOf ((os.bytes .slots).getD []) with
    | none => .next (refuse .sweepSet r { result := .badOption, identity := .head h } s)
    | some xs =>
      if s.inflightFull then .next (refuse .sweepSet r { result := .busy, identity := .head h } s)
      else
        let p := sweepPlan os xs (s.head h).active
        if (s.head h).state.inService then .next (s.stage h r.reqTag p)
        else
          .next (answer .sweepSet r .done p.clamped (.head h) []
            (s.modHead h fun x => { x with active := p.value }))

end Sys2Proof.Machine
end

