-- ==== Sys2Proof/Machine/Contexts.lean ====
section
/-! DEFINITION. The requests of the terminal context table (Chapter 1): ATTACH, FIND, READ, AMEND, RETIRE. -/

namespace Sys2Proof.Machine

/-! ### ATTACH (1.6) -/

/-- A crane link record at allocation (R15, R92). -/
def CraneLink.fresh (owner : Nat) : CraneLink :=
  { owner := owner, state := .idle, cause := none, period := Config.period, units := Config.standingUnits,
    holdLimit := Config.holdLimit, missLimit := Config.missLimit, cycle := none, current := none, next := none,
    repeats := 0, misses := 0, heard := false, heardLast := false, feedback := none, assembly := none,
    sideBlock := none, sideErrors := 0, down := none, waiting := none, releasePending := false, phase := .none }

/-- A reefer status record at allocation (R15, R126, Table 8-1). -/
def Reefer.fresh (owner : Nat) : Reefer :=
  { owner := owner, supply := none, ret := none, setpoint := none, booked := none, flags := 0, power := .mains,
    alarm := .none, persist := 0, lastDev := none, interval := Config.interval, grace := Config.grace, age := 0,
    missed := 0, doze := .awake, pref := .deep, contact := .reachable, ackTimer := none, page := none, poll := .none,
    overdueDue := false }

/-- What a taken ATTACH creates: the slot, the context, and the extension record it allocates. -/
structure AttachPlan where
  handle : Nat
  ctx : Context
  deriving DecidableEq, Repr

/-- The tag of an ATTACH. -/
def attachTag (os : Options) : Tag := BitVec.ofNat 48 ((os.nat .tag).getD 0)

/-- The extension record ATTACH allocates for a class (R3): `none` is a pool with no free record. -/
def freeExtension (cls : Class) (s : State) : Option (Option Nat) :=
  match cls with
  | .crane => if s.links.lowestFree < Config.craneLinks then some (some s.links.lowestFree) else none
  | .reefer => if s.reefers.lowestFree < Config.reeferRecords then some (some s.reefers.lowestFree) else none
  | .vehicle | .handheld => some none

/-- The owner's checks of ATTACH, 3 to 7 of R13 in order, and the context it creates (R14, Table 1-2). R13 gives a pinned
value that names nothing no place in its order: the model refuses it at check 3, with the class and segment values
(log 13). -/
def attachChecks (os : Options) (s : State) : Except Result AttachPlan :=
  match (os.nat .cls).bind classOf, os.readAs .segment none segmentOrNone, os.readAs .pinned false pinnedOf with
  | some cls, some segment, some pinned =>
    if cls = .crane ∧ os.has .segment then .error .wrongClass
    else if (s.findTag (attachTag os)).isSome then .error .duplicateTag
    else if Config.contextSlots ≤ s.contexts.lowestFree then .error .tableFull
    else match freeExtension cls s with
      | none => .error .tableFull
      | some ext =>
        .ok
          { handle := s.contexts.lowestFree,
            ctx :=
              { tag := attachTag os, cls := cls, serving := none, sector := 0, segment := segment, pinned := pinned,
                cands := [], ext := ext, lastReport := none } }
  | _, _, _ => .error .badOption

/-- A taken ATTACH (R14): the context and its extension record are created in one step. -/
def takeAttach (p : AttachPlan) (s : State) : State :=
  let s1 := { s with contexts := s.contexts.set p.handle p.ctx }
  match p.ctx.cls, p.ctx.ext with
  | .crane, some l => { s1 with links := s1.links.set l (CraneLink.fresh p.handle) }
  | .reefer, some i => { s1 with reefers := s1.reefers.set i (Reefer.fresh p.handle) }
  | _, _ => s1

/-- ATTACH (R13, R14). -/
def execAttach (r : Request) (s : State) : Out :=
  match partTarget .attach r with
  | .error e => .next (refuse .attach r e s)
  | .ok os =>
    match attachChecks os s with
    | .error res => .next (refuse .attach r { result := res, identity := .part } s)
    | .ok p =>
      .next (answer .attach r .done false .part (attachBody p.handle p.ctx.tag p.ctx.ext) (takeAttach p s))

/-! ### FIND and READ (1.7) -/

/-- FIND (R16). -/
def execFind (r : Request) (s : State) : Out :=
  match contextTarget .find none r s with
  | .error e => .next (refuse .find r e s)
  | .ok t => .next (answer .find r .done false t.identity (findBody t.handle t.ctx) s)

/-- READ (R17). -/
def execRead (r : Request) (s : State) : Out :=
  match contextTarget .read none r s with
  | .error e => .next (refuse .read r e s)
  | .ok t => .next (answer .read r .done false t.identity (readBody t.handle t.ctx) s)

/-! ### AMEND (1.8) -/

/-- The owner's checks of AMEND, third to fifth of R18, and the resulting quay segment and pinned flag. R18 gives a pinned
value that names nothing no place in its order: the model refuses it at the third check, with the segment value
(log 13). -/
def amendChecks (t : ContextTarget) : Except Result (Option Segment × Bool) :=
  match t.opts.readAs .segment t.ctx.segment segmentOrNone, t.opts.readAs .pinned t.ctx.pinned pinnedOf with
  | some segment, some pinned =>
    if t.opts.isEmpty then .error .missingOption
    else if t.ctx.cls = .crane ∧ t.opts.has .segment then .error .wrongClass
    else .ok (segment, pinned)
  | _, _ => .error .badOption

/-- AMEND (R18, R19). -/
def execAmend (r : Request) (s : State) : Out :=
  match contextTarget .amend none r s with
  | .error e => .next (refuse .amend r e s)
  | .ok t =>
    match amendChecks t with
    | .error res => .next (refuse .amend r { result := res, identity := t.identity } s)
    | .ok (segment, pinned) =>
      .next (answer .amend r .done false t.identity
        (amendBody t.handle { t.ctx with segment := segment, pinned := pinned })
        (s.modContext t.handle fun c => { c with segment := segment, pinned := pinned }))

/-! ### RETIRE (1.9) -/

/-- The work in flight of a retiring reefer ends (R21): its page RETIRED, its wait entry, then its outstanding poll,
whose credit returns and may poll other reefers. -/
def State.endReeferWork (s : State) (i : Nat) : State := ((s.endPage i .retired).leaveWaitLists i).endPoll i

/-- The extension of a retiring context: a crane's waiting SIDE_DOWNs are answered RETIRED (R20), a reefer's work ends
(R21). -/
def State.endExtensionWork (s : State) (k : Nat) (c : Context) : State :=
  match c.cls, c.ext with
  | .crane, some _ => s.endAll (InFlight.isFor .sideDown (.context k)) .retired
  | .reefer, some i => s.endReeferWork i
  | _, _ => s

/-- Free the extension record and the slot of a context (R3, R22). -/
def State.freeContext (s : State) (k : Nat) (c : Context) : State :=
  let s1 := match c.cls, c.ext with
    | .crane, some l => { s with links := s.links.erase l }
    | .reefer, some i => { s with reefers := s.reefers.erase i }
    | _, _ => s
  { s1 with contexts := s1.contexts.erase k }

/-- A taken RETIRE (R20 to R22): work in flight ends, DROP goes to the serving head, the context's queued notices are
withdrawn, and the extension and the slot are freed. -/
def takeRetire (k : Nat) (c : Context) (s : State) : State :=
  let s1 := s.endExtensionWork k c
  let s2 := match c.serving with | some h => s1.order (.drop h c.tag) | none => s1
  let s3 := { s2 with notices := s2.notices.filter fun n => n.subject != Subject.context k }
  s3.freeContext k c

/-- A crane link that is not IDLE keeps its context from being retired (R20). -/
def State.retireBlocked (s : State) (c : Context) : Bool :=
  match c.cls, c.ext.bind s.links.get? with
  | .crane, some k => k.state != .idle
  | _, _ => false

/-- RETIRE (R20 to R22). -/
def execRetire (r : Request) (s : State) : Out :=
  match contextTarget .retire none r s with
  | .error e => .next (refuse .retire r e s)
  | .ok t =>
    if s.retireBlocked t.ctx then .next (refuse .retire r { result := .wrongState, identity := t.identity } s)
    else .next (answer .retire r .done false t.identity (retireBody t.handle t.ctx) (takeRetire t.handle t.ctx s))

end Sys2Proof.Machine
end

