-- ==== Sys2Proof/Machine/Measurement.lean ====
section
/-! DEFINITION. Candidate evaluation and handover (Chapter 4): the five stages of a measurement report, the immediate
handover, and the requests on the shadow map and the class parameter sets. -/

namespace Sys2Proof.Machine

/-! ### Accepted entries (R69) -/

/-- An entry accepted into processing: its head, its sector and its target value T = 16 m. -/
structure Accepted where
  head : HeadIx
  sector : Sector
  target : Nat
  deriving DecidableEq, Repr

/-- The target value of a level code: codes above 220 are taken as 220 (R69). -/
def targetValue (code : Byte) : Nat := 16 * min 220 code.toNat

/-- Take one entry of a report: it is accepted when it names a head in service, a sector 0..7, and no head of an earlier
accepted entry (R69). -/
def acceptEntry (s : State) (acc : List Accepted) (e : MeasEntry) : List Accepted :=
  match headOf e.head with
  | none => acc
  | some h =>
    if hs : e.sector.toNat < 8 then
      if (s.head h).state.inService && !acc.any (fun a => a.head == h) then
        acc ++ [{ head := h, sector := ⟨e.sector.toNat, hs⟩, target := targetValue e.level }]
      else acc
    else acc

/-- The accepted entries of a report, in report order; only the first four entries are read (R69, R174). -/
def acceptedEntries (s : State) (es : List MeasEntry) : List Accepted :=
  (es.take Config.reportEntries).foldl (acceptEntry s) []

/-! ### Stage 1: the filter (R71 to R75) -/

/-- One filter step of F toward T with shift k: the difference over 2^k, truncated toward zero (R71). -/
def filterStep (k f t : Nat) : Nat := ((f : Int) + ((t : Int) - f).tdiv ((2 ^ k : Nat) : Int)).toNat

/-- Filter or age one entry of the list (R72, R73). `kept` is the target of a crane handover in progress, which ageing
does not remove (R117); `none` is an entry removed. -/
def filterEntry (k : Nat) (acc : List Accepted) (serving kept : Option HeadIx) (e : Candidate) : Option Candidate :=
  match acc.find? fun a => a.head == e.head with
  | some a => some { e with level := filterStep k e.level a.target, sector := a.sector, missing := 0 }
  | none =>
    if serving = some e.head then some { e with level := filterStep k e.level 0 }
    else if e.missing + 1 < 3 then some { e with missing := e.missing + 1 }
    else if kept = some e.head then some { e with missing := 2 }
    else none

/-- The load penalty of a head for a context (R76): U' is U less the context's own units. -/
def loadPenalty (s : State) (h : HeadIx) (link : Option Nat) : Nat :=
  let e := (s.head h).effective
  let u := (s.account h).committed - s.ownUnits h link
  if e = 0 ∨ e ≤ u then s.loadWeight else s.loadWeight * u / e

/-- The shadow penalty of a head for a quay segment (R77). -/
def shadowPenalty (s : State) (h : HeadIx) : Option Segment → Nat
  | some g => 64 * s.shadowAt h g
  | none => 0

/-- The crane link of a context, when it has one. -/
def Context.link? (c : Context) : Option Nat :=
  match c.cls with
  | .crane => c.ext
  | _ => none

/-- The score of a head with filtered level `f` for a context: F - LP - SP + O, not below 0 (R80). -/
def scoreOf (s : State) (c : Context) (h : HeadIx) (f : Nat) : Nat :=
  ((f : Int) - loadPenalty s h c.link? - shadowPenalty s h c.segment + (s.params.get c.cls).offset).toNat

/-- The weaker of two entries at this report: the lower score, and the higher head index among equal scores (R75). -/
def weaker (s : State) (c : Context) (a b : Candidate) : Candidate :=
  let sa := scoreOf s c a.head a.level
  let sb := scoreOf s c b.head b.level
  if sa < sb ∨ (sa = sb ∧ b.head < a.head) then a else b

/-- The lowest entry of those open to replacement (R75). -/
def weakest (s : State) (c : Context) : List Candidate → Option Candidate
  | [] => none
  | e :: es => some (es.foldl (weaker s c) e)

/-- Take one new head (R74, R75): added while the list holds fewer than four entries, else it replaces the lowest open
entry when its initial score is strictly higher. The serving entry and the target of a handover are not open (R117). -/
def takeNewHead (s : State) (c : Context) (kept : Option HeadIx) (list : List Candidate) (a : Accepted) :
    List Candidate :=
  let e : Candidate := { head := a.head, sector := a.sector, level := a.target, ttt := 0, missing := 0, score := 0 }
  if list.length < Config.candidateEntries then list ++ [e]
  else
    match weakest s c (list.filter fun x => c.serving != some x.head && kept != some x.head) with
    | none => list
    | some w =>
      if scoreOf s c w.head w.level < scoreOf s c e.head e.level then (list.filter fun x => x.head != w.head) ++ [e]
      else list

/-- Stage 1 whole: existing entries are filtered or aged, then the accepted heads that have no entry are taken as new
heads in report order (R72 to R75; log 19). -/
def stageFilter (s : State) (c : Context) (kept : Option HeadIx) (acc : List Accepted) : List Candidate :=
  let list := c.cands.filterMap (filterEntry (s.params.get c.cls).shift acc c.serving kept)
  let news := acc.filter fun a => !list.any fun e => e.head == a.head
  news.foldl (takeNewHead s c kept) list

/-! ### Stage 2: the score (R80) -/

/-- List order: the higher score first, and the lower head index among equal scores (R10). -/
def before (a b : Candidate) : Bool := b.score < a.score || (a.score == b.score && a.head ≤ b.head)

/-- Insert an entry into an ordered list. -/
def insertEntry (e : Candidate) : List Candidate → List Candidate
  | [] => [e]
  | x :: xs => if before e x then e :: x :: xs else x :: insertEntry e xs

/-- Place a list in list order (R10). -/
def orderEntries : List Candidate → List Candidate
  | [] => []
  | e :: es => insertEntry e (orderEntries es)

/-- Stage 2: every entry is given its new score, and the list is reordered (R80). -/
def stageScore (s : State) (c : Context) (list : List Candidate) : List Candidate :=
  orderEntries (list.map fun e => { e with score := scoreOf s c e.head e.level })

/-! ### Stages 3 to 5 -/

/-- Stage 4: each non-serving entry's TTT count rises to at most TTT when its score beats the serving score by more than
16 H, and returns to 0 otherwise; the serving entry's count stays 0 (R84). -/
def stageTrigger (p : ClassParams) (serving : HeadIx) (list : List Candidate) : List Candidate :=
  match list.find? fun e => e.head == serving with
  | none => list
  | some sv =>
    list.map fun e =>
      if e.head = serving then { e with ttt := 0 }
      else if sv.score + 16 * p.hysteresis < e.score then { e with ttt := min p.ttt (e.ttt + 1) }
      else { e with ttt := 0 }

/-- The heads eligible as a target (R85): ACTIVE on the crane path, in service otherwise. -/
def eligible (s : State) (cranePath : Bool) (h : HeadIx) : Bool :=
  if cranePath then (s.head h).state == .active else (s.head h).state.inService

/-- The trigger candidate: the first entry in list order that stands at TTT on an eligible head (R85). -/
def triggerCandidate (s : State) (p : ClassParams) (serving : HeadIx) (cranePath : Bool) (list : List Candidate) :
    Option Candidate :=
  list.find? fun e => e.head != serving && e.ttt == p.ttt && eligible s cranePath e.head

/-- Move a reefer's pending page from the old head's queue to the tail of the new head's (R88). -/
def State.movePage (s : State) (i : Nat) (new : HeadIx) : State :=
  match s.reefers.get? i with
  | none => s
  | some r =>
    match r.page with
    | none => s
    | some p =>
      let attempts := match p.phase with | .sent _ => p.attempts + 1 | _ => p.attempts
      let phase := match p.phase with | .sent _ => PagePhase.slotWait | q => q
      if 2 ≤ attempts then s.failPage i
      else if r.doze = .deep ∧ ¬ s.covered new i then s.endPage i .notCovered
      else if (s.pageQueue new).length < Config.pageEntries then
        let s1 := (s.leavePageQueues i).modPage i fun p => { p with attempts := attempts, phase := phase }
        s1.setPageQueue new (s1.pageQueue new ++ [i])
      else s.endPage i .noPath

/-- Move a waiting reefer to the tail of the new head's poll wait list, which is then passed over (R89). -/
def State.moveWait (s : State) (i : Nat) (new : HeadIx) : State :=
  match s.reefers.get? i with
  | none => s
  | some r =>
    if r.poll = .waiting then
      let s1 := s.leaveWaitLists i
      (s1.setPollWait new (s1.pollWait new ++ [i])).waitPass new
    else s

/-- The reefer work that moves with an immediate handover (R88, R89). -/
def State.moveReeferWork (s : State) (c : Context) (new : HeadIx) : State :=
  match c.cls, c.ext with
  | .reefer, some i => (s.movePage i new).moveWait i new
  | _, _ => s

/-- Re-entry (R83): the first entry of the list becomes the serving head's. -/
def State.reEnter (s : State) (k : Nat) (tag : Tag) (h : HeadIx) : State :=
  ((s.modContext k fun c => c.serveOn h).order (.serveOrder tag none h)).post (.context k)
    (.handoverDone none h .entry)

/-- The immediate handover (R87). -/
def State.immediateHandover (s : State) (k : Nat) (c : Context) (old new : HeadIx) : State :=
  let s1 := (s.modContext k fun c => c.serveOn new).order (.serveOrder c.tag (some old) new)
  (s1.moveReeferWork c new).post (.context k) (.handoverDone (some old) new .trigger)

/-- The crane path (R86, R117): a prepared reservation of the standing reservation's units is asked for on the candidate;
admitted, the phase becomes PREPARED; refused, HANDOVER_BLOCKED is posted. -/
def State.cranePath (s : State) (k l : Nat) (units : Nat) (h : HeadIx) : State :=
  match s.askPrepared h l units with
  | .admitted => (s.join h .prepared l units).modLink l fun x => { x with phase := .prepared h }
  | .notActive | .doesNotFit => s.post (.context k) (.handoverBlocked h)

/-- The handover in progress of a context's crane link: its target (R117). -/
def State.handoverTarget (s : State) (c : Context) : Option HeadIx :=
  (c.link?.bind s.links.get?).bind (·.phase.target?)

/-- The standing reservation of a context's crane link. -/
def State.contextStanding (s : State) (c : Context) : Option (Nat × Nat) :=
  c.link?.bind fun l => (s.reservation .standing l).map fun r => (l, r.2)

/-- Stage 5: the trigger (R85 to R87). `list` is the list after stage 4. -/
def stageFive (s : State) (k : Nat) (c : Context) (serving : HeadIx) (list : List Candidate) : State :=
  if c.pinned || (s.handoverTarget c).isSome then s
  else
    let p := s.params.get c.cls
    match s.contextStanding c with
    | some (l, units) =>
      match triggerCandidate s p serving true list with
      | some e => s.cranePath k l units e.head
      | none => s
    | none =>
      match triggerCandidate s p serving false list with
      | some e => s.immediateHandover k c serving e.head
      | none => s

/-- The serving sector after stage 1: it follows the sector heard of the serving entry (R5, R72). -/
def followSector (c : Context) (list : List Candidate) : Sector :=
  match c.serving with
  | none => c.sector
  | some h =>
    match list.find? fun e => e.head == h with
    | some e => e.sector
    | none => c.sector

/-- A measurement report taken for the context `c` in slot `k`, whole (R70): stages 1 and 2, then re-entry when the
context has no serving head, else stages 4 and 5. -/
def takeReport (k : Nat) (c : Context) (es : List MeasEntry) (s : State) : State :=
  let scored := stageScore s c (stageFilter s c (s.handoverTarget c) (acceptedEntries s es))
  let sector := followSector c scored
  let frame := s.frame
  match c.serving with
  | none =>
    let s1 := s.modContext k fun c => { c with cands := scored, lastReport := some frame }
    match scored with
    | [] => s1
    | e :: _ => s1.reEnter k c.tag e.head
  | some h =>
    let counted := stageTrigger (s.params.get c.cls) h scored
    let s1 := s.modContext k fun c => { c with cands := counted, sector := sector, lastReport := some frame }
    stageFive s1 k { c with cands := counted } h counted

/-- MEASUREMENT_REPORT (R70, R168, R169). -/
def execMeasurementReport (tag : Tag) (es : List MeasEntry) (s : State) : Out :=
  match s.findTag tag with
  | some (k, c) => .next (takeReport k c es s)
  | none => .next (s.unmatchedEvent (some tag))

/-! ### SHADOW_SET, SHADOW_READ (4.4.2) -/

/-- What a SHADOW_SET writes: the run and its values, one for each segment of the run. -/
structure ShadowPlan where
  first : Nat
  last : Nat
  values : List Nat
  clamped : Bool
  deriving DecidableEq, Repr

/-- The owner's checks of SHADOW_SET in the order of R78: segment ranges, order of the run, length of the list. -/
def shadowChecks (os : Options) (x : Head) : Except Result ShadowPlan :=
  match os.readAs .firstSegment x.spanFirst segmentOf, os.readAs .lastSegment x.spanLast segmentOf with
  | some first, some last =>
    if last < first then .error .badOption
    else
      let run := last.val - first.val + 1
      let vs := ((os.bytes .values).getD []).map fun b => clampNat 0 15 b.toNat
      let plan (l : List (Clamped Nat)) : ShadowPlan :=
        { first := first.val, last := last.val, values := l.map (·.value), clamped := l.any (·.clamped) }
      if vs.length = run then .ok (plan vs)
      else match vs with
        | [v] => .ok (plan (List.replicate run v))
        | _ => .error .badOption
  | _, _ => .error .badOption

/-- Write values into a row from a segment on (R78). -/
def writeRun (row : Vector Nat 64) (at_ : Nat) : List Nat → Vector Nat 64
  | [] => row
  | v :: vs => writeRun (row.setIfInBounds at_ v) (at_ + 1) vs

/-- A taken SHADOW_SET (R78). -/
def takeShadow (h : HeadIx) (p : ShadowPlan) (s : State) : State :=
  { s with shadow := s.shadow.set h.val (writeRun (s.shadow.get h) p.first p.values) h.isLt }

/-- SHADOW_SET (R78). -/
def execShadowSet (r : Request) (s : State) : Out :=
  match headTarget .shadowSet r with
  | .error e => .next (refuse .shadowSet r e s)
  | .ok (os, h) =>
    match shadowChecks os (s.head h) with
    | .error res => .next (refuse .shadowSet r { result := res, identity := .head h } s)
    | .ok p =>
      .next (answer .shadowSet r .done p.clamped (.head h) (shadowSetBody h p.first p.last) (takeShadow h p s))

/-- SHADOW_READ (R79). -/
def execShadowRead (r : Request) (s : State) : Out :=
  match headTarget .shadowRead r with
  | .error e => .next (refuse .shadowRead r e s)
  | .ok (_, h) => .next (answer .shadowRead r .done false (.head h) (shadowReadBody h (s.shadow.get h)) s)

/-! ### CLASS_PARAMS (4.6) -/

/-- What a CLASS_PARAMS writes: the new set of the named class, and W. -/
structure ParamsPlan where
  cls : Option Class
  params : ClassParams
  weight : Nat
  clamped : Bool
  deriving DecidableEq, Repr

/-- A setting option of CLASS_PARAMS other than the load weight is present. -/
def Options.hasSetting (os : Options) : Bool := os.has .shift || os.has .hysteresis || os.has .ttt || os.has .offset

/-- The owner's checks of CLASS_PARAMS and what it writes (R82). -/
def paramsChecks (os : Options) (s : State) : Except Result ParamsPlan :=
  match os.readAs .cls none fun n => (classOf n).map some with
  | none => .error .badOption
  | some cls =>
    if os.isEmpty ∨ (cls = none ∧ os.hasSetting) then .error .missingOption
    else
      let held := s.params.get (cls.getD .crane)
      let k := clampOpt 0 6 held.shift (os.nat .shift)
      let h := clampOpt 0 30 held.hysteresis (os.nat .hysteresis)
      let t := clampOpt 1 15 held.ttt (os.nat .ttt)
      let o := clampOptInt (-256) 255 held.offset (os.int .offset)
      let w := clampOpt 0 255 s.loadWeight (os.nat .loadWeight)
      .ok
        { cls := cls, params := { shift := k.value, hysteresis := h.value, ttt := t.value, offset := o.value },
          weight := w.value, clamped := k.clamped || h.clamped || t.clamped || o.clamped || w.clamped }

/-- Cap the TTT counts of a context's entries at a new TTT (R81). -/
def Context.capCounts (c : Context) (limit : Nat) : Context :=
  { c with cands := c.cands.map fun e => { e with ttt := min limit e.ttt } }

/-- A taken CLASS_PARAMS (R81, R82). -/
def takeParams (p : ParamsPlan) (s : State) : State :=
  match p.cls with
  | none => { s with loadWeight := p.weight }
  | some cls =>
    { s with
      loadWeight := p.weight
      params := s.params.set cls p.params
      contexts := s.contexts.mapAll fun c => if c.cls = cls then c.capCounts p.params.ttt else c }

/-- CLASS_PARAMS (R82). -/
def execClassParams (r : Request) (s : State) : Out :=
  match partTarget .classParams r with
  | .error e => .next (refuse .classParams r e s)
  | .ok os =>
    match paramsChecks os s with
    | .error res => .next (refuse .classParams r { result := res, identity := .part } s)
    | .ok p =>
      let s' := takeParams p s
      .next (answer .classParams r .done p.clamped .part (classParamsBody p.cls s'.params s'.loadWeight) s')

end Sys2Proof.Machine
end

