-- ==== Sys2Proof/Machine/Cranes.lean ====
section
/-! DEFINITION. Crane links (Chapter 5) and the crane handover's step at the cycle expiry (6.3): the requests, the
cycle expiry, the uplink and the side blocks. -/

namespace Sys2Proof.Machine

/-- A crane request whose target, class and link are found. -/
structure CraneTarget where
  opts : Options
  handle : Nat
  ctx : Context
  link : Nat
  record : CraneLink
  deriving DecidableEq, Repr

/-- The identity of a crane target. -/
def CraneTarget.identity (t : CraneTarget) : Identity := .context t.handle t.ctx.tag

/-- The checks of a crane request up to its link: option list, target, class CRANE (R12, R92). A CRANE context always
owns a link record (R3); where a state that no run reaches lacks it, the target is unknown (log 17). -/
def craneTarget (k : ReqKind) (r : Request) (s : State) : Except Refused CraneTarget :=
  match contextTarget k (some .crane) r s with
  | .error e => .error e
  | .ok t =>
    match t.ctx.ext with
    | none => .error { result := .unknownTarget, identity := t.identity }
    | some l =>
      match s.links.get? l with
      | none => .error { result := .unknownTarget, identity := t.identity }
      | some x => .ok { opts := t.opts, handle := t.handle, ctx := t.ctx, link := l, record := x }

/-- The setpoint of a request. -/
def Options.setpoint (os : Options) : Option Setpoint := (os.bytes .setpoint).bind setpointOf

/-! ### Downlinks (R100, R111, R119) -/

/-- The two bytes of a block at a position (R111). -/
def fragmentAt (b : Bytes48) (n : Nat) : Fragment :=
  { fst := (b.toList[2 * n]?).getD 0, snd := (b.toList[2 * n + 1]?).getD 0 }

/-- The side bytes of a downlink, when a block is in flight. -/
def CraneLink.side (k : CraneLink) : Option SideBytes :=
  k.down.map fun b => { pos := b.pos, frag := fragmentAt b.bytes b.pos }

/-- The body of a downlink: the stop order in SAFE_STOP, else the setpoint (R100). -/
def CraneLink.body (k : CraneLink) : DownBody :=
  match k.state with
  | .safeStop => .stop k.cause
  | _ => .setpoint

/-- The head a downlink names in its switch order: the target while SWITCHING (R100). -/
def Phase.switchTarget : Phase → Option HeadIx
  | .switching t _ => some t
  | _ => Option.none

/-- The downlink of a link through a head. -/
def CraneLink.downlink (k : CraneLink) (tag : Tag) (h : HeadIx) : Order :=
  .craneDownlink h tag k.current k.body k.phase.switchTarget k.side

/-- A downlink carrying side bytes has been sent: the block advances by one position; after position 23 it is complete,
its SIDE_DOWN is answered DONE, and the pending block goes in flight at position 0 (R111). -/
def State.advanceBlock (s : State) (l : Nat) : State :=
  match s.links.get? l with
  | none => s
  | some k =>
    match k.down with
    | none => s
    | some b =>
      if b.pos < Config.lastSidePosition then
        s.modLink l fun k => { k with down := some { b with pos := b.pos + 1 } }
      else
        (s.modLink l fun k =>
          { k with
            down := k.waiting.map fun w => { bytes := w.bytes, pos := 0, req := w.req }
            waiting := none }).endOldest (InFlight.is .sideDown (.context k.owner) b.req) .done

/-- Send one downlink of a link: to the serving head, and to the target too while SWITCHING; with no serving head none
is sent and the block does not advance (R100, R119). -/
def State.sendDownlink (s : State) (l : Nat) : State :=
  match s.links.get? l, s.linkContext l with
  | some k, some c =>
    match c.serving with
    | none => s
    | some h =>
      let s1 := s.order (k.downlink c.tag h)
      let s2 := match k.phase.switchTarget with
        | some t => s1.order (k.downlink c.tag t)
        | none => s1
      s2.advanceBlock l
  | _, _ => s

/-- The context of a link has a serving head. -/
def State.linkServed (s : State) (l : Nat) : Bool := ((s.linkContext l).bind (·.serving)).isSome

/-- Close the cycle (R100): the heard-last-cycle mark takes the heard flag, which becomes clear, and the feedback ages,
saturating at 255. With no serving head the mark becomes clear, an uplink taken before the head was lost notwithstanding
(R112). -/
def State.closeCycle (s : State) (l : Nat) : State :=
  let served := s.linkServed l
  s.modLink l fun k =>
    { k with
      heardLast := k.heard && served
      heard := false
      feedback := k.feedback.map fun f => { f with age := satInc 255 f.age } }

/-! ### The cycle expiry (R98 to R101, R106, R118) -/

/-- The uplink check (R98). -/
def State.uplinkCheck (s : State) (l : Nat) : State :=
  match s.links.get? l with
  | none => s
  | some k =>
    let misses := if k.heard then 0 else k.misses + 1
    let s1 := s.modLink l fun k => { k with misses := misses }
    if k.missLimit ≤ misses then s1.enterSafeStop l .uplinkLimit else s1

/-- The check of the side assembly at an expiry: an active assembly whose cycle had no uplink is discarded and counted
(R98), and so is one of a link whose context has no serving head (R112). -/
def State.assemblyCheck (s : State) (l : Nat) : State :=
  let served := s.linkServed l
  s.modLink l fun k =>
    if k.assembly.isSome && !(k.heard && served) then
      { k with assembly := none, sideErrors := satInc 255 k.sideErrors }
    else k

/-- The setpoint stage (R99), of a link still in RUNNING or HOLDING. -/
def State.setpointStage (s : State) (l : Nat) : State :=
  match s.links.get? l with
  | none => s
  | some k =>
    match k.state with
    | .running | .holding =>
      match k.next with
      | some p =>
        s.modLink l fun k =>
          { k with current := some { sp := p, fresh := true }, next := none, repeats := 0, state := .running }
      | none =>
        let s1 := s.modLink l fun k =>
          { k with
            current := k.current.map fun c => { c with fresh := false }
            repeats := k.repeats + 1
            state := .holding }
        if k.holdLimit ≤ k.repeats + 1 then s1.enterSafeStop l .holdLimit else s1
    | .idle | .safeStop => s

/-- The handover step (R118). -/
def State.handoverStep (s : State) (l : Nat) : State :=
  match s.links.get? l with
  | none => s
  | some k =>
    match k.phase with
    | .none => s
    | .prepared t => s.modLink l fun k => { k with phase := .switching t 0 }
    | .switching t n =>
      let s1 := s.modLink l fun k => { k with phase := .switching t (n + 1) }
      if n < 3 then s1 else s1.cancelHandover l .noAnswer

/-- The resume of a link in SAFE_STOP (R101). -/
def State.resume (s : State) (l : Nat) (p : Setpoint) : State :=
  match s.links.get? l with
  | none => s
  | some k =>
    (s.modLink l fun k =>
      { k with
        current := some { sp := p, fresh := true }, next := none, repeats := 0, misses := 0, state := .running }).post
      (.context k.owner) (.craneState .running k.cause)

/-- The completion of a release (R106). -/
def State.completeRelease (s : State) (l : Nat) : State :=
  match s.links.get? l with
  | none => s
  | some k =>
    let s1 := (((s.cancelHandover l .released).sendDownlink l).closeCycle l).releaseStanding l
    let s2 := s1.modLink l fun k => { k with cycle := none, state := .idle, releasePending := false }
    (s2.post (.context k.owner) (.craneState .idle k.cause)).endOldest
      (InFlight.isFor .craneRelease (.context k.owner)) .done

/-- The stages of a cycle expiry in RUNNING or HOLDING, in order (R98, R99, R118, R100). -/
def State.runningExpiry (s : State) (l : Nat) : State :=
  (((((s.uplinkCheck l).assemblyCheck l).setpointStage l).handoverStep l).sendDownlink l).closeCycle l

/-- A cycle expiry in SAFE_STOP (R101). -/
def State.stoppedExpiry (s : State) (l : Nat) (k : CraneLink) : State :=
  let s1 := s.assemblyCheck l
  if k.releasePending then s1.completeRelease l
  else
    let s2 := match k.next with | some p => s1.resume l p | none => s1
    ((s2.handoverStep l).sendDownlink l).closeCycle l

/-- The cycle expiry of a link, when its cycle timer has run out: the timer starts again at Pc in the same step (R94),
and the stages follow by the link's state. -/
def State.cycleExpiry (s : State) (l : Nat) : State :=
  match s.links.get? l with
  | none => s
  | some k =>
    if k.cycle = some 0 then
      let s1 := s.modLink l fun k => { k with cycle := some k.period }
      match k.state with
      | .running | .holding => s1.runningExpiry l
      | .safeStop => s1.stoppedExpiry l k
      | .idle => s
    else s

/-- CYCLE_EXPIRY (R98). -/
def execCycleExpiry (l : Fin 32) (s : State) : Out := .next (s.cycleExpiry l.val)

/-! ### CRANE_START (5.3) -/

/-- The settings a CRANE_START leaves in the link, each with its clamping (Table 5-3). -/
structure CraneSettings where
  period : Clamped Nat
  units : Clamped Nat
  holdLimit : Clamped Nat
  missLimit : Clamped Nat
  deriving DecidableEq, Repr

/-- The settings of a CRANE_START: the options', clamped, else the stored ones (R95, R96). -/
def craneSettings (os : Options) (k : CraneLink) : CraneSettings :=
  { period := clampOpt 2 64 k.period (os.nat .period), units := clampOpt 4 48 k.units (os.nat .units),
    holdLimit := clampOpt 1 15 k.holdLimit (os.nat .holdLimit),
    missLimit := clampOpt 1 15 k.missLimit (os.nat .missLimit) }

/-- Some setting was clamped. -/
def CraneSettings.clamped (g : CraneSettings) : Bool :=
  g.period.clamped || g.units.clamped || g.holdLimit.clamped || g.missLimit.clamped

/-- The owner's checks of CRANE_START, 3 to 5 of R95: IDLE, served, admitted. Answers the serving head. -/
def craneStartChecks (t : CraneTarget) (units : Nat) (s : State) : Except Result HeadIx :=
  if t.record.state ≠ .idle then .error .wrongState
  else match t.ctx.serving with
    | none => .error .notServed
    | some h => if s.askStanding h t.link units = .admitted then .ok h else .error .noAirtime

/-- The link record of a CRANE_START (R96). -/
def CraneSettings.start (g : CraneSettings) (p : Setpoint) (k : CraneLink) : CraneLink :=
  { k with
    period := g.period.value, units := g.units.value, holdLimit := g.holdLimit.value, missLimit := g.missLimit.value,
    current := some { sp := p, fresh := true }, next := none, repeats := 0, misses := 0, heard := false,
    heardLast := false, feedback := none, assembly := none, releasePending := false, phase := .none,
    state := .running, cycle := some g.period.value }

/-- A taken CRANE_START (R96): airtime, record, and the first downlink at once. -/
def takeCraneStart (l : Nat) (h : HeadIx) (g : CraneSettings) (p : Setpoint) (s : State) : State :=
  ((s.joinStanding h l g.units.value).modLink l (g.start p)).sendDownlink l

/-- CRANE_START (R95, R96). -/
def execCraneStart (r : Request) (s : State) : Out :=
  match craneTarget .craneStart r s with
  | .error e => .next (refuse .craneStart r e s)
  | .ok t =>
    match t.opts.setpoint with
    | none => .next (refuse .craneStart r { result := .badOption, identity := t.identity } s)
    | some p =>
      let g := craneSettings t.opts t.record
      match craneStartChecks t g.units.value s with
      | .error res => .next (refuse .craneStart r { result := res, identity := t.identity } s)
      | .ok h =>
        .next (answer .craneStart r .done g.clamped t.identity (craneStartBody t.link (g.start p t.record))
          (takeCraneStart t.link h g p s))

/-! ### SETPOINT (5.4) -/

/-- Write the next setpoint of a link (R97, R104). -/
def State.writeNext (s : State) (l : Nat) (p : Setpoint) : State := s.modLink l fun k => { k with next := some p }

/-- The result of writing a next setpoint: REPLACED when one was present (R97, R104). -/
def CraneLink.writeResult (k : CraneLink) : Result := if k.next.isSome then .replaced else .done

/-- SETPOINT (R97). -/
def execSetpoint (r : Request) (s : State) : Out :=
  match craneTarget .setpoint r s with
  | .error e => .next (refuse .setpoint r e s)
  | .ok t =>
    match t.opts.setpoint with
    | none => .next (refuse .setpoint r { result := .badOption, identity := t.identity } s)
    | some p =>
      match t.record.state with
      | .running | .holding =>
        .next (answer .setpoint r t.record.writeResult false t.identity [] (s.writeNext t.link p))
      | .idle | .safeStop => .next (refuse .setpoint r { result := .wrongState, identity := t.identity } s)

/-! ### CRANE_STOP, CRANE_RESUME, CRANE_RELEASE (5.6) -/

/-- A taken CRANE_STOP (R103): the link enters SAFE_STOP with cause ORDERED, or a pending resume is withdrawn; then a
handover in progress is cancelled (R122). -/
def takeCraneStop (l : Nat) (k : CraneLink) (s : State) : State :=
  let s1 := match k.state with
    | .running | .holding => s.enterSafeStop l .ordered
    | .safeStop => s.modLink l fun k => { k with next := none }
    | .idle => s
  s1.cancelHandover l .ordered

/-- CRANE_STOP (R103). -/
def execCraneStop (r : Request) (s : State) : Out :=
  match craneTarget .craneStop r s with
  | .error e => .next (refuse .craneStop r e s)
  | .ok t =>
    if t.record.state = .idle then .next (refuse .craneStop r { result := .wrongState, identity := t.identity } s)
    else .next (answer .craneStop r .done false t.identity [] (takeCraneStop t.link t.record s))

/-- The owner's checks of CRANE_RESUME in the order of R104; answers the head on which a new standing reservation is
admitted, or none when the link holds one. -/
def craneResumeChecks (t : CraneTarget) (s : State) : Except Result (Option HeadIx) :=
  if t.record.state ≠ .safeStop ∨ t.record.releasePending then .error .wrongState
  else
    match s.reservation .standing t.link, t.ctx.serving with
    | none, none => .error .notServed
    | some _, _ => if t.record.heardLast then .ok none else .error .notHeard
    | none, some h =>
      if t.record.heardLast then
        if s.askStanding h t.link t.record.units = .admitted then .ok (some h) else .error .noAirtime
      else .error .notHeard

/-- A new standing reservation taken up by CRANE_RESUME: the safe cause becomes ORDERED and CRANE_STATE is posted
(R104). -/
def State.resumeAirtime (s : State) (l : Nat) (h : HeadIx) (k : CraneLink) : State :=
  ((s.joinStanding h l k.units).modLink l fun k => { k with cause := some .ordered }).post (.context k.owner)
    (.craneState .safeStop (some .ordered))

/-- A taken CRANE_RESUME (R104). -/
def takeCraneResume (l : Nat) (admitted : Option HeadIx) (k : CraneLink) (p : Setpoint) (s : State) : State :=
  let s1 := match admitted with | some h => s.resumeAirtime l h k | none => s
  s1.writeNext l p

/-- CRANE_RESUME (R104). -/
def execCraneResume (r : Request) (s : State) : Out :=
  match craneTarget .craneResume r s with
  | .error e => .next (refuse .craneResume r e s)
  | .ok t =>
    match t.opts.setpoint with
    | none => .next (refuse .craneResume r { result := .badOption, identity := t.identity } s)
    | some p =>
      match craneResumeChecks t s with
      | .error res => .next (refuse .craneResume r { result := res, identity := t.identity } s)
      | .ok admitted =>
        .next (answer .craneResume r t.record.writeResult false t.identity []
          (takeCraneResume t.link admitted t.record p s))

/-- The owner's checks of CRANE_RELEASE (R105): SAFE_STOP, not pending already, room in the in-flight list. -/
def craneReleaseCheck (k : CraneLink) (s : State) : Option Result :=
  if k.state ≠ .safeStop then some .wrongState
  else if k.releasePending then some .inProgress
  else if s.inflightFull then some .busy
  else none

/-- A taken CRANE_RELEASE (R105, R122): release pending, a resume discarded, a handover cancelled, and the request in
the in-flight list; no reply yet. -/
def takeCraneRelease (handle l : Nat) (t : ReqTag) (s : State) : State :=
  ((s.modLink l fun k => { k with releasePending := true, next := none }).cancelHandover l .released).joinInflight
    { reqTag := t, kind := .craneRelease, subject := .context handle, clamped := false }

/-- CRANE_RELEASE (R105). -/
def execCraneRelease (r : Request) (s : State) : Out :=
  match craneTarget .craneRelease r s with
  | .error e => .next (refuse .craneRelease r e s)
  | .ok t =>
    match craneReleaseCheck t.record s with
    | some res => .next (refuse .craneRelease r { result := res, identity := t.identity } s)
    | none => .next (takeCraneRelease t.handle t.link r.reqTag s)

/-! ### SIDE_DOWN (5.9) -/

/-- The 48 bytes of a SIDE_DOWN. -/
def Options.block (os : Options) : Option Bytes48 := (os.bytes .block).bind (block? 48)

/-- Place the block of a taken SIDE_DOWN (R110): in flight at position 0, else pending, else in place of the pending
block, whose SIDE_DOWN is answered REPLACED. -/
def State.placeBlock (s : State) (handle l : Nat) (b : Bytes48) (t : ReqTag) (k : CraneLink) : State :=
  match k.down, k.waiting with
  | none, _ => s.modLink l fun k => { k with down := some { bytes := b, pos := 0, req := t } }
  | some _, none => s.modLink l fun k => { k with waiting := some { bytes := b, req := t } }
  | some _, some w =>
    (s.modLink l fun k => { k with waiting := some { bytes := b, req := t } }).endNewest
      (InFlight.is .sideDown (.context handle) w.req) .replaced

/-- A taken SIDE_DOWN (R110). -/
def takeSideDown (handle l : Nat) (b : Bytes48) (t : ReqTag) (k : CraneLink) (s : State) : State :=
  (s.placeBlock handle l b t k).joinInflight
    { reqTag := t, kind := .sideDown, subject := .context handle, clamped := false }

/-- SIDE_DOWN (R110). -/
def execSideDown (r : Request) (s : State) : Out :=
  match craneTarget .sideDown r s with
  | .error e => .next (refuse .sideDown r e s)
  | .ok t =>
    match t.opts.block with
    | none => .next (refuse .sideDown r { result := .badOption, identity := t.identity } s)
    | some b =>
      if s.inflightFull then .next (refuse .sideDown r { result := .busy, identity := t.identity } s)
      else .next (takeSideDown t.handle t.link b r.reqTag t.record s)

/-! ### CRANE_READ (5.11) -/

/-- CRANE_READ (R114): the side error count is reported and then set to 0. -/
def execCraneRead (r : Request) (s : State) : Out :=
  match craneTarget .craneRead r s with
  | .error e => .next (refuse .craneRead r e s)
  | .ok t =>
    .next (answer .craneRead r .done false t.identity
      (craneReadBody t.link t.record (s.reservation .standing t.link) (s.reservation .prepared t.link))
      (s.modLink t.link fun k => { k with sideErrors := 0 }))

/-! ### Uplinks (5.7, 5.8) -/

/-- The 48 bytes of 24 fragments. -/
def assembled (fs : List Fragment) : Option Bytes48 := block? 48 (fs.flatMap fun f => [f.fst, f.snd])

/-- The side assembly after a fragment, and whether a partial block was lost (R108). -/
def addFragment (assembly : Option (List Fragment)) (start : Bool) (f : Fragment) : Option (List Fragment) × Bool :=
  match start, assembly with
  | true, none => (some [f], false)
  | true, some _ => (some [f], true)
  | false, some fs => (some (fs ++ [f]), false)
  | false, none => (none, false)

/-- The quay segment that byte 0 of a completed block names (R6, R109): 64..255 give none. -/
def blockSegment (b : Bytes48) : Option Segment := segmentOf (b.get 0).toNat

/-- A completed side block is taken (R109): it becomes the last side block, sets the quay segment, and is posted. -/
def State.takeBlock (s : State) (handle l : Nat) (b : Bytes48) : State :=
  ((s.modLink l fun k => { k with sideBlock := some b, assembly := none }).modContext handle fun c =>
    { c with segment := blockSegment b }).post (.context handle) (.sideBlock b)

/-- Take a side fragment (R108); when the position reaches 24 the block is complete. -/
def State.takeFragment (s : State) (handle l : Nat) (start : Bool) (f : Fragment) (k : CraneLink) : State :=
  let (assembly, lost) := addFragment k.assembly start f
  let s1 := s.modLink l fun k =>
    { k with assembly := assembly, sideErrors := if lost then satInc 255 k.sideErrors else k.sideErrors }
  match assembly with
  | some fs =>
    if fs.length < Config.sideFragments then s1
    else match assembled fs with
      | some b => s1.takeBlock handle l b
      | none => s1
  | none => s1

/-- An uplink is taken in RUNNING, HOLDING or SAFE_STOP, through the serving head, or through the target while SWITCHING
(R107). -/
def uplinkTaken (k : CraneLink) (c : Context) (h : HeadIx) : Bool :=
  k.state != .idle && c.serving.isSome && (c.serving == some h || k.phase.switchTarget == some h)

/-- A taken uplink (R107): feedback; the cycle's first fragment, then the heard flag; and, through the target while
SWITCHING, the completion of the handover (R120). -/
def takeUplink (handle l : Nat) (k : CraneLink) (h : HeadIx) (u : UplinkFields) (s : State) : State :=
  let s1 := s.modLink l fun k => { k with feedback := some { bytes := u.feedback, seq := u.seq, age := 0 } }
  let s2 := if k.heard then s1
    else (s1.takeFragment handle l u.start u.frag k).modLink l fun k => { k with heard := true }
  if k.phase.switchTarget = some h then s2.completeHandover l else s2

/-- A crane uplink handed to the CLU with its context (R107). -/
def onUplink (handle : Nat) (c : Context) (u : UplinkFields) (s : State) : State :=
  match c.ext with
  | none => s
  | some l =>
    match s.links.get? l, headOf u.head with
    | some k, some h => if uplinkTaken k c h then takeUplink handle l k h u s else s
    | _, _ => s

/-- CRANE_UPLINK (R107, R168, R169). -/
def execCraneUplink (tag : Tag) (u : UplinkFields) (s : State) : Out :=
  match s.findTag tag with
  | none => .next (s.unmatchedEvent (some tag))
  | some (k, c) => if c.cls = .crane then .next (onUplink k c u s) else .next (s.unmatchedEvent none)

end Sys2Proof.Machine
end

