-- ==== Sys2Proof/Machine/Reefers.lean ====
section
/-! DEFINITION. Reefer status records and reachability (Chapters 7 and 8): the report, the doze acknowledgement and the
page answer, the expiries of a record, and the requests on reefers. -/

namespace Sys2Proof.Machine

/-- A reefer request whose target, class and record are found. -/
structure ReeferTarget where
  opts : Options
  handle : Nat
  ctx : Context
  index : Nat
  record : Reefer
  deriving DecidableEq, Repr

/-- The identity of a reefer target. -/
def ReeferTarget.identity (t : ReeferTarget) : Identity := .context t.handle t.ctx.tag

/-- The checks of a reefer request up to its record: option list, target, class REEFER (R12, R126). A REEFER context
always owns a record (R3); where a state that no run reaches lacks it, the target is unknown (log 17). -/
def reeferTarget (k : ReqKind) (r : Request) (s : State) : Except Refused ReeferTarget :=
  match contextTarget k (some .reefer) r s with
  | .error e => .error e
  | .ok t =>
    match t.ctx.ext with
    | none => .error { result := .unknownTarget, identity := t.identity }
    | some i =>
      match s.reefers.get? i with
      | none => .error { result := .unknownTarget, identity := t.identity }
      | some x => .ok { opts := t.opts, handle := t.handle, ctx := t.ctx, index := i, record := x }

/-- A reefer is overdue while its report age is at or above I + G (R143). -/
def Reefer.overdue (r : Reefer) : Bool := r.interval + r.grace ≤ r.age

/-- Poll a record that is overdue (R143, R152). -/
def State.pollIfOverdue (s : State) (i : Nat) : State :=
  match s.reefers.get? i with
  | some r => if r.overdue then s.makePoll i else s
  | none => s

/-! ### The report (7.2, R127) -/

/-- The power source a report's code names, else the one held (R129). -/
def powerOf (held : Power) (code : Byte) : Power :=
  if code = 0 then .mains else if code = 1 then .genset else if code = 2 then .battery else held

/-- Step 1: the status fields are replaced and the report age becomes 0, which ends an overdue expiry not yet taken
(R127 to R129, R144). -/
def replaceStatus (f : ReportFields) (r : Reefer) : Reefer :=
  { r with
    supply := f.supply.map saturate, ret := f.ret.map saturate, setpoint := f.setpoint.map saturate,
    flags := f.flags, power := powerOf r.power f.power, age := 0, overdueDue := false }

/-- LIGHT_DOZE or DEEP_DOZE. -/
def Doze.dozing : Doze → Bool
  | .light | .deep => true
  | .awake | .ordered => false

/-- Wake a dozing reefer (R152): it becomes AWAKE and its pending page ends DONE. -/
def State.wake (s : State) (i : Nat) : State := (s.modReefer i fun r => { r with doze := .awake }).endPage i .done

/-- Step 3: a report wakes a dozing reefer (R127, R152). -/
def State.wakeByReport (s : State) (i : Nat) : State :=
  match s.reefers.get? i with
  | some r => if r.doze.dozing then s.wake i else s
  | none => s

/-- Whether the wake at step 3 of a report ends a page (R141). -/
def wakeEndsPage (r : Reefer) : Bool := r.doze.dozing && r.page.isSome

/-- The record after classification (R130, R131, R133). -/
def classified (g : Settings) (r : Reefer) : Reefer :=
  let count := nextPersist g r.deviation r.persist
  { r with persist := count, lastDev := r.deviation, alarm := nextAlarm g r r.deviation count }

/-- Step 5: classification, and REEFER_CLASS when the class changes (R130 to R134). -/
def State.classify (s : State) (i : Nat) : State :=
  match s.reefers.get? i with
  | none => s
  | some r =>
    let c := classified s.settings r
    let s1 := s.modReefer i (classified s.settings)
    if c.alarm = r.alarm then s1
    else s1.post (.context r.owner)
      (.reeferClass c.alarm r.alarm c.supply c.usedSetpoint c.lastDev c.persist c.flags)

/-- Step 6: the doze decision (R141). `woken` says that the wake of this report ended a page. -/
def State.dozeDecision (s : State) (i : Nat) (woken : Bool) : State :=
  match s.reefers.get? i, s.reeferContext i with
  | some r, some c =>
    match c.serving with
    | some h =>
      if r.doze = .awake ∧ r.pref ≠ .none ∧ r.page = none ∧ woken = false then
        (s.order (.dozeOrder h c.tag (r.pref == .deep))).modReefer i fun r =>
          { r with doze := .ordered, ackTimer := some s.settings.ackLimit }
      else s
    | none => s
  | _, _ => s

/-- A reefer report taken for record `i` (R127), its six steps in order. -/
def takeReeferReport (i : Nat) (r : Reefer) (f : ReportFields) (s : State) : State :=
  ((((((s.modReefer i (replaceStatus f)).setContact i .reachable).wakeByReport i).endPoll i).classify i).dozeDecision i
    (wakeEndsPage r))

/-- A terminal event that suits reefers is routed to the record of its tag's context (R168, R169). -/
def onReefer (tag : Tag) (s : State) (f : Nat → Reefer → State → State) : State :=
  match s.findTag tag with
  | none => s.unmatchedEvent (some tag)
  | some (_, c) =>
    if c.cls = .reefer then
      match c.ext with
      | none => s
      | some i =>
        match s.reefers.get? i with
        | some r => f i r s
        | none => s
    else s.unmatchedEvent none

/-- REEFER_REPORT (R127). -/
def execReeferReport (tag : Tag) (f : ReportFields) (s : State) : Out :=
  .next (onReefer tag s fun i r s => takeReeferReport i r f s)

/-! ### DOZE_ACK and PAGE_ANSWER (R142, R152, R154) -/

/-- The doze state a DOZE_ACK code names (Table 11-5). -/
def ackState (code : Byte) : Option Doze := if code = 1 then some .light else if code = 2 then some .deep else none

/-- A DOZE_ACK taken for record `i` (R142): contact first (R154, log 14); in DOZE_ORDERED the record adopts the state
named, and a page in ACK_WAIT proceeds. -/
def takeDozeAck (code : Byte) (i : Nat) (r : Reefer) (s : State) : State :=
  let s1 := s.setContact i .reachable
  match ackState code with
  | some d =>
    if r.doze = .ordered then
      (s1.modReefer i fun r => { r with doze := d, ackTimer := none }).releaseAckPage i
    else s1
  | none => s1

/-- DOZE_ACK (R142). -/
def execDozeAck (tag : Tag) (_head code : Byte) (s : State) : Out := .next (onReefer tag s (takeDozeAck code))

/-- A PAGE_ANSWER taken for record `i` (R152): contact first (R154, log 14); a dozing reefer is woken, its page ends DONE,
and an overdue reefer is polled. -/
def takePageAnswer (i : Nat) (r : Reefer) (s : State) : State :=
  let s1 := s.setContact i .reachable
  if r.doze.dozing then (s1.wake i).pollIfOverdue i else s1

/-- PAGE_ANSWER (R152). -/
def execPageAnswer (tag : Tag) (_head : Byte) (s : State) : Out := .next (onReefer tag s takePageAnswer)

/-! ### Expiries of a record (logs 2 and 3) -/

/-- An ack limit expiry is due for a record (R143). -/
def Reefer.ackDue (r : Reefer) : Bool := r.ackTimer == some 0

/-- No record below `i` satisfies `p`: expiries of one strobe or second are taken in order of record index (R143,
R144). -/
def State.firstDue (s : State) (p : Reefer → Bool) (i : Nat) : Bool := s.reefers.all fun e => i ≤ e.1 || !p e.2

/-- The ack limit expiry of a record (R143): AWAKE, a page in ACK_WAIT ends ALREADY_AWAKE, an overdue reefer is polled. -/
def State.ackExpiry (s : State) (i : Nat) : State :=
  match s.reefers.get? i with
  | none => s
  | some r =>
    if r.ackDue ∧ s.firstDue Reefer.ackDue i then
      let s1 := s.modReefer i fun r => { r with doze := .awake, ackTimer := none }
      let s2 := match r.page with
        | some p => if p.phase = PagePhase.ackWait then s1.endPage i .alreadyAwake else s1
        | none => s1
      s2.pollIfOverdue i
    else s

/-- ACK_LIMIT_EXPIRY (R143). -/
def execAckLimitExpiry (i : Fin 4096) (s : State) : Out := .next (s.ackExpiry i.val)

/-- The page-answer expiry of a record (R153): an attempt is counted; at 1 the page waits for a slot again, at 2 it
fails. -/
def State.pageExpiry (s : State) (i : Nat) : State :=
  match s.reefers.get? i with
  | none => s
  | some r =>
    match r.page with
    | none => s
    | some p =>
      if p.phase = .sent 0 then
        if p.attempts + 1 < 2 then s.modPage i fun p => { p with attempts := p.attempts + 1, phase := .slotWait }
        else s.failPage i
      else s

/-- PAGE_ANSWER_EXPIRY (R153). -/
def execPageAnswerExpiry (i : Fin 4096) (s : State) : Out := .next (s.pageExpiry i.val)

/-- The poll-answer expiry of a record (R147): the poll ends and its credit returns to the sending head. -/
def State.pollExpiry (s : State) (i : Nat) : State :=
  match s.reefers.get? i with
  | none => s
  | some r =>
    match r.poll with
    | .outstanding h t =>
      if t = 0 then (s.modReefer i fun r => { r with poll := .none }).returnCredit h else s
    | .none | .waiting => s

/-- POLL_ANSWER_EXPIRY (R147). -/
def execPollAnswerExpiry (i : Fin 4096) (s : State) : Out := .next (s.pollExpiry i.val)

/-- The overdue test of an age just risen (R144): A = I + G, or A above it by a whole multiple of I. -/
def Reefer.meetsOverdue (r : Reefer) : Bool :=
  r.interval + r.grace ≤ r.age && (r.age - (r.interval + r.grace)) % r.interval == 0

/-- A second passes for a record (R144): the age rises, not above its limit, and is tested. -/
def Reefer.second (r : Reefer) : Reefer :=
  if r.age < Config.ageMax then
    let r' := { r with age := r.age + 1 }
    { r' with overdueDue := r.overdueDue || r'.meetsOverdue }
  else r

/-- The second expiry, when one is made (R144, R171; logs 2 and 3). -/
def State.secondPass (s : State) : State :=
  if s.secondDue then { s with secondDue := false, reefers := s.reefers.mapAll Reefer.second } else s

/-- SECOND_EXPIRY (R144). -/
def execSecondExpiry (s : State) : Out := .next s.secondPass

/-- What an overdue expiry does after the missed count has risen (R145): an AWAKE reefer is polled; for one ordered to
doze or dozing with no page pending an internal page is queued; with no serving head nothing. -/
def State.overdueAction (s : State) (i : Nat) : State :=
  match s.reefers.get? i, s.reeferServing i with
  | some r, some h =>
    match r.doze with
    | .awake => s.makePoll i
    | .ordered | .light | .deep => if r.page.isNone then s.internalPage h i else s
  | _, _ => s

/-- The overdue expiry of a record (R145). -/
def State.overdueExpiry (s : State) (i : Nat) : State :=
  match s.reefers.get? i with
  | none => s
  | some r =>
    if r.overdueDue ∧ s.firstDue Reefer.overdueDue i then
      (s.modReefer i fun r => { r with overdueDue := false, missed := satInc 255 r.missed }).overdueAction i
    else s

/-- OVERDUE_EXPIRY (R145). -/
def execOverdueExpiry (i : Fin 4096) (s : State) : Out := .next (s.overdueExpiry i.val)

/-! ### PAGE (R150) -/

/-- How a PAGE is dealt with: answered or refused at once, taken over, or queued on a head (R150). -/
inductive PageDeal where
  | answered (res : Result)
  | refused (res : Result)
  | takeOver
  | queue (h : HeadIx)
  deriving DecidableEq, Repr

/-- The first row of R150 that holds. -/
def pageDeal (t : ReeferTarget) (s : State) : PageDeal :=
  if t.record.doze = .awake then .answered .alreadyAwake
  else match t.ctx.serving with
    | none => .refused .noPath
    | some h =>
      match t.record.page with
      | some p => if p.owner.isSome then .refused .inProgress else .takeOver
      | none =>
        if t.record.doze = .deep ∧ ¬ (s.head h).covers t.ctx.sector then .answered .notCovered
        else if Config.pageEntries ≤ (s.pageQueue h).length then .refused .queueFull
        else .queue h

/-- The in-flight entry of a PAGE. -/
def pageEntry (handle : Nat) (t : ReqTag) : InFlight :=
  { reqTag := t, kind := .page, subject := .context handle, clamped := false }

/-- PAGE (R150). -/
def execPage (r : Request) (s : State) : Out :=
  match reeferTarget .page r s with
  | .error e => .next (refuse .page r e s)
  | .ok t =>
    if s.inflightFull then .next (refuse .page r { result := .busy, identity := t.identity } s)
    else
      match pageDeal t s with
      | .answered res => .next (answer .page r res false t.identity [] s)
      | .refused res => .next (refuse .page r { result := res, identity := t.identity } s)
      | .takeOver =>
        .next ((s.modPage t.index fun p => { p with owner := some r.reqTag }).joinInflight
          (pageEntry t.handle r.reqTag))
      | .queue h =>
        .next ((s.queuePage h t.index (some r.reqTag)).joinInflight (pageEntry t.handle r.reqTag))

/-! ### REEFER_PARAMS and REEFER_READ (7.5) -/

/-- The settings a REEFER_PARAMS leaves in the record, and whether any value was clamped (Table 7-4). -/
structure ReeferPlan where
  interval : Clamped Nat
  grace : Clamped Nat
  pref : DozePref
  booked : Option Int
  bookedClamped : Bool
  deriving DecidableEq, Repr

/-- The booked setpoint a REEFER_PARAMS leaves: a value of length 0 is none (R136, R173). -/
def bookedPlan (os : Options) (held : Option Int) : Option Int × Bool :=
  match os.bytes .booked with
  | none => (held, false)
  | some [] => (none, false)
  | some v => let c := clampInt (-400) 400 (beInt16 v); (some c.value, c.clamped)

/-- The owner's checks of REEFER_PARAMS in the order of R136. -/
def reeferParamsChecks (os : Options) (r : Reefer) : Except Result ReeferPlan :=
  match os.readAs .dozePref r.pref dozePrefOf with
  | none => .error .badOption
  | some pref =>
    if os.isEmpty then .error .missingOption
    else
      .ok
        { interval := clampOpt 10 3600 r.interval (os.nat .interval), grace := clampOpt 0 600 r.grace (os.nat .grace),
          pref := pref, booked := (bookedPlan os r.booked).1, bookedClamped := (bookedPlan os r.booked).2 }

/-- The settings of a REEFER_PARAMS written into a record (R136). -/
def ReeferPlan.write (p : ReeferPlan) (r : Reefer) : Reefer :=
  { r with interval := p.interval.value, grace := p.grace.value, pref := p.pref, booked := p.booked }

/-- Some value was clamped. -/
def ReeferPlan.clamped (p : ReeferPlan) : Bool := p.interval.clamped || p.grace.clamped || p.bookedClamped

/-- REEFER_PARAMS (R136). -/
def execReeferParams (r : Request) (s : State) : Out :=
  match reeferTarget .reeferParams r s with
  | .error e => .next (refuse .reeferParams r e s)
  | .ok t =>
    match reeferParamsChecks t.opts t.record with
    | .error res => .next (refuse .reeferParams r { result := res, identity := t.identity } s)
    | .ok p =>
      .next (answer .reeferParams r .done p.clamped t.identity (reeferParamsBody (p.write t.record))
        (s.modReefer t.index p.write))

/-- REEFER_READ (R137): the missed count is reported and then set to 0. -/
def execReeferRead (r : Request) (s : State) : Out :=
  match reeferTarget .reeferRead r s with
  | .error e => .next (refuse .reeferRead r e s)
  | .ok t =>
    .next (answer .reeferRead r .done false t.identity (reeferReadBody t.index t.ctx.tag t.record)
      (s.modReefer t.index fun r => { r with missed := 0 }))

end Sys2Proof.Machine
end

