-- ==== Sys2Proof/Machine/ControlPort.lean ====
section
/-! DEFINITION. The control port's own commands (Chapter 9): PART_CONFIG, PART_STATUS, RESTART, messages that are no
request, the cold reset, and the outgoing sides of both ports. -/

namespace Sys2Proof.Machine

/-! ### PART_CONFIG (R135, R155, R164) -/

/-- The settings a PART_CONFIG leaves, and whether any value was clamped. -/
structure ConfigPlan where
  settings : Settings
  clamped : Bool
  deriving DecidableEq, Repr

/-- The settings after clamping, an absent option keeping the value now held (R135, R164). -/
def configPlan (os : Options) (g : Settings) : ConfigPlan :=
  let td := clampOpt 5 200 g.devThreshold (os.nat .devThreshold)
  let th := clampOpt 1 50 g.devHysteresis (os.nat .devHysteresis)
  let tc := clampOpt 10 400 g.critThreshold (os.nat .critThreshold)
  let nd := clampOpt 1 15 g.persistence (os.nat .persistence)
  let ack := clampOpt 1 4095 g.ackLimit (os.nat .ackLimit)
  let page := clampOpt 1 4095 g.pageLimit (os.nat .pageLimit)
  let poll := clampOpt 1 4095 g.pollLimit (os.nat .pollLimit)
  { settings :=
      { devThreshold := td.value, devHysteresis := th.value, critThreshold := tc.value, persistence := nd.value,
        criticalMask := match os.nat .criticalMask with | some m => BitVec.ofNat 16 m | none => g.criticalMask,
        ackLimit := ack.value, pageLimit := page.value, pollLimit := poll.value },
    clamped := td.clamped || th.clamped || tc.clamped || nd.clamped || ack.clamped || page.clamped || poll.clamped }

/-- The classification set is consistent (R135). -/
def Settings.consistent (g : Settings) : Bool :=
  g.devThreshold + g.devHysteresis < g.critThreshold && g.devHysteresis < g.devThreshold

/-- PART_CONFIG (R164): an option list that is END alone is a reading. -/
def execPartConfig (r : Request) (s : State) : Out :=
  match partTarget .partConfig r with
  | .error e => .next (refuse .partConfig r e s)
  | .ok os =>
    let p := configPlan os s.settings
    if p.settings.consistent then
      .next (answer .partConfig r .done p.clamped .part (partConfigBody p.settings) { s with settings := p.settings })
    else .next (refuse .partConfig r { result := .badOption, identity := .part } s)

/-! ### PART_STATUS (R165) -/

/-- PART_STATUS: the status is reported, then the notice-overflow flag and the unmatched-uplink count are cleared. -/
def execPartStatus (r : Request) (s : State) : Out :=
  match partTarget .partStatus r with
  | .error e => .next (refuse .partStatus r e s)
  | .ok _ =>
    .next (answer .partStatus r .done false .part (partStatusBody s) { s with overflow := false, unmatched := 0 })

/-! ### RESTART (R166) -/

/-- The restart on the reefers (R156): page queues and wait lists are emptied, the records' pages and waits end, and
outstanding polls are kept. -/
def State.restartReefers (s : State) : State :=
  { s with
    pageQueues := Vector.replicate 24 []
    pollWaits := Vector.replicate 24 []
    reefers := s.reefers.mapAll fun r =>
      { r with page := none, poll := match r.poll with | .waiting => .none | q => q } }

/-- The restart on a head's record and account (R48, R68): a staged schedule is discarded, prepared reservations are
released, and the fit runs. -/
def State.restartHead (s : State) (h : HeadIx) : State :=
  let s1 := s.modHead h fun x => { x with staged := none }
  if (s1.account h).preparedOwners.isEmpty then s1
  else (s1.modAccount h fun a => { a with list := a.list.filter fun r => r.kind != .prepared }).fit h

/-- The restart on the heads given. -/
def restartHeads : List HeadIx → State → State
  | [], s => s
  | h :: hs, s => restartHeads hs (s.restartHead h)

/-- The restart on a link record (R115): next setpoint, side blocks and a pending release are discarded. -/
def CraneLink.afterRestart (k : CraneLink) : CraneLink :=
  { k with next := none, down := none, waiting := none, releasePending := false }

/-- The restart on a link (R115, R125): RUNNING and HOLDING go to SAFE_STOP with cause RESTART, a handover ends with cause
RESTART, its prepared reservation being released already. -/
def State.restartLink (s : State) (l : Nat) : State :=
  match s.links.get? l with
  | none => s
  | some k =>
    let s1 := s.modLink l CraneLink.afterRestart
    let s2 := match k.state with
      | .running | .holding => s1.enterSafeStop l .restart
      | .idle | .safeStop => s1
    s2.endHandover l .restart

/-- The restart on the links given, in order of link index. -/
def restartLinks : List Nat → State → State
  | [], s => s
  | l :: ls, s => restartLinks ls (s.restartLink l)

/-- The restart whole, less its reply (R166): the in-flight list and the notice queue are emptied and the cause becomes
WARM; then the reefers, the heads and their accounts, and the links take their own effects. -/
def takeRestart (s : State) : State :=
  let s1 := { s with inflight := [], notices := [], restartCause := .warm }
  let s2 := restartHeads allHeads s1.restartReefers
  restartLinks s2.links.keys s2

/-- RESTART (R166). -/
def execRestart (r : Request) (s : State) : Out :=
  match partTarget .restart r with
  | .error e => .next (refuse .restart r e s)
  | .ok _ => .next (answer .restart r .done false .part [] (takeRestart s))

/-! ### Messages that are no request (R157) -/

/-- UNKNOWN_REQUEST_KIND: answered BAD_OPTION with the request tag and the kind code as given. -/
def execUnknownRequestKind (kind : Byte) (r : Request) (s : State) : Out :=
  .next (s.reply
    { reqTag := r.reqTag, kind := kind, result := .badOption, clamped := false, identity := unresolvedIdentity r,
      body := [] })

/-- INCOMPLETE_REQUEST_HEADER: discarded without a reply. -/
def execIncompleteRequestHeader (_msg : List Byte) (s : State) : Out := .next s

/-! ### The cold reset (R23, R47, R67, R91, R115, R138, R156, R167, R169, R170, R171) -/

/-- COLD_RESET: every record returns to its cold value; the commands that still wait are the senders' and stay. -/
def execColdReset (s : State) : Out := .next { State.reset with pending := s.pending }

/-! ### The outgoing sides (R160, R163, R170; logs 5 and 6) -/

/-- REPLY_SEND: the previous message has been sent, and the oldest reply due begins sending. -/
def execReplySend (s : State) : Out :=
  match s.replies with
  | [] => .next s
  | r :: rest => .next { s with replies := rest, portLine := some r.bytes }

/-- NOTICE_SEND: the previous message has been sent, no reply is due, and the oldest queued notice begins sending and
leaves the queue. -/
def execNoticeSend (s : State) : Out :=
  match s.replies, s.notices with
  | [], n :: rest => .next { s with notices := rest, portLine := some (n.bytes s) }
  | _, _ => .next s

/-- ORDER_SEND: the oldest order due is sent down the quay link. -/
def execOrderSend (s : State) : Out :=
  match s.orders with
  | [] => .next s
  | o :: rest => .next { s with orders := rest, linkLine := some o.bytes }

/-! ### Unmatched messages (R169) -/

/-- UNKNOWN_EVENT_KIND: counted as unmatched and discarded, the last unknown tag unchanged. -/
def execUnknownEventKind (_msg : List Byte) (s : State) : Out := .next (s.unmatchedEvent none)

end Sys2Proof.Machine
end

