-- ==== Sys2Proof/Machine/Timebase.lean ====
section
/-! DEFINITION. The frame strobe (10.4): the frame number, the second divider, and every frame-counted timer. -/

namespace Sys2Proof.Machine

/-- A running timer lowers its remaining count by one at each strobe (R25); a stopped one stays stopped. -/
def tick (t : Option Nat) : Option Nat := t.map (· - 1)

/-- The strobe at a head (R25, R41): the start, lock-wait and holdover timers and the sweep dwell. -/
def Head.strobe (x : Head) : Head :=
  { x with
    startTimer := tick x.startTimer, lockTimer := tick x.lockTimer, holdoverTimer := tick x.holdoverTimer,
    sweep := x.sweep.map fun p => { p with remaining := p.remaining - 1 } }

/-- The strobe at a crane link (R94). -/
def CraneLink.strobe (k : CraneLink) : CraneLink := { k with cycle := tick k.cycle }

/-- The strobe at a pending page (R155): the page-answer timer runs in SENT. -/
def Page.strobe (p : Page) : Page :=
  { p with phase := match p.phase with | .sent t => .sent (t - 1) | q => q }

/-- The strobe at a poll (R155): the poll-answer timer runs while it is outstanding. -/
def Poll.strobe : Poll → Poll
  | .outstanding h t => .outstanding h (t - 1)
  | .none => .none
  | .waiting => .waiting

/-- The strobe at a reefer record (R155): the ack limit, page-answer and poll-answer timers. -/
def Reefer.strobe (r : Reefer) : Reefer :=
  { r with ackTimer := tick r.ackTimer, page := r.page.map Page.strobe, poll := r.poll.strobe }

/-- The counts of a strobe (R171): the frame number rises and wraps, the second divider rises and at 1000 returns to 0
making a second expiry, and every timer counts. -/
def State.count (s : State) : State :=
  let wraps := Config.framesPerSecond ≤ s.divider + 1
  { s with
    frame := s.frame + 1
    divider := if wraps then 0 else s.divider + 1
    secondDue := s.secondDue || wraps
    heads := mapEach Head.strobe s.heads
    links := s.links.mapAll CraneLink.strobe
    reefers := s.reefers.mapAll Reefer.strobe }

/-! ### Expiries still due when the next strobe comes (log 2) -/

/-- Take the expiries `f` of the items given, in order; each does nothing where none is due. -/
def takeEach {α : Type} (f : State → α → State) : List α → State → State
  | [], s => s
  | a :: as, s => takeEach f as (f s a)

/-- The expiries of the heads that are still due. -/
def State.headExpiries (s : State) : State :=
  takeEach (fun s h => (((s.startTimerExpiry h).lockWaitExpiry h).holdoverExpiry h).dwellExpiry h) allHeads s

/-- The expiries of the crane links that are still due. -/
def State.linkExpiries (s : State) : State := takeEach State.cycleExpiry s.links.keys s

/-- The expiries of the reefer records that are still due, the second expiry among them, in order of record index. -/
def State.reeferExpiries (s : State) : State :=
  let s1 := takeEach State.ackExpiry s.reefers.keys s
  let s2 := takeEach State.pageExpiry s1.reefers.keys s1
  let s3 := takeEach State.pollExpiry s2.reefers.keys s2
  takeEach State.overdueExpiry s3.reefers.keys s3.secondPass

/-- Every expiry still due is taken: none is left behind by a strobe. -/
def State.takeDue (s : State) : State := s.headExpiries.linkExpiries.reeferExpiries

/-- FRAME_STROBE (R171, R172): expiries still due from earlier strobes are taken first; then the counts advance. -/
def execFrameStrobe (s : State) : Out := .next s.takeDue.count

end Sys2Proof.Machine
end

