-- ==== Sys2Proof/Machine/Dispatch.lean ====
section
/-! DEFINITION. The dispatch: one arm per command, each one direct call of its meaning. -/

namespace Sys2Proof.Machine

/-- The effect of one command on everything but the queue of waiting commands. -/
def exec (i : Instr) (s : State) : Host.Outcome State Fault Refusal :=
  match i with
  | .attach r => Sys2Proof.Machine.execAttach r s
  | .find r => Sys2Proof.Machine.execFind r s
  | .read r => Sys2Proof.Machine.execRead r s
  | .amend r => Sys2Proof.Machine.execAmend r s
  | .retire r => Sys2Proof.Machine.execRetire r s
  | .craneStart r => Sys2Proof.Machine.execCraneStart r s
  | .setpoint r => Sys2Proof.Machine.execSetpoint r s
  | .craneStop r => Sys2Proof.Machine.execCraneStop r s
  | .craneResume r => Sys2Proof.Machine.execCraneResume r s
  | .craneRelease r => Sys2Proof.Machine.execCraneRelease r s
  | .sideDown r => Sys2Proof.Machine.execSideDown r s
  | .craneRead r => Sys2Proof.Machine.execCraneRead r s
  | .reeferRead r => Sys2Proof.Machine.execReeferRead r s
  | .reeferParams r => Sys2Proof.Machine.execReeferParams r s
  | .page r => Sys2Proof.Machine.execPage r s
  | .headConfig r => Sys2Proof.Machine.execHeadConfig r s
  | .headRead r => Sys2Proof.Machine.execHeadRead r s
  | .headClear r => Sys2Proof.Machine.execHeadClear r s
  | .sweepSet r => Sys2Proof.Machine.execSweepSet r s
  | .shadowSet r => Sys2Proof.Machine.execShadowSet r s
  | .shadowRead r => Sys2Proof.Machine.execShadowRead r s
  | .classParams r => Sys2Proof.Machine.execClassParams r s
  | .pollWindowSet r => Sys2Proof.Machine.execPollWindowSet r s
  | .partConfig r => Sys2Proof.Machine.execPartConfig r s
  | .partStatus r => Sys2Proof.Machine.execPartStatus r s
  | .restart r => Sys2Proof.Machine.execRestart r s
  | .unknownRequestKind kind r => Sys2Proof.Machine.execUnknownRequestKind kind r s
  | .incompleteRequestHeader msg => Sys2Proof.Machine.execIncompleteRequestHeader msg s
  | .measurementReport tag entries => Sys2Proof.Machine.execMeasurementReport tag entries s
  | .craneUplink tag u => Sys2Proof.Machine.execCraneUplink tag u s
  | .reeferReport tag f => Sys2Proof.Machine.execReeferReport tag f s
  | .dozeAck tag head state => Sys2Proof.Machine.execDozeAck tag head state s
  | .pageAnswer tag head => Sys2Proof.Machine.execPageAnswer tag head s
  | .headUp head => Sys2Proof.Machine.execHeadUp head s
  | .syncLock head => Sys2Proof.Machine.execSyncLock head s
  | .syncLost head => Sys2Proof.Machine.execSyncLost head s
  | .lineFault head short => Sys2Proof.Machine.execLineFault head short s
  | .unknownEventKind msg => Sys2Proof.Machine.execUnknownEventKind msg s
  | .frameStrobe => Sys2Proof.Machine.execFrameStrobe s
  | .coldReset => Sys2Proof.Machine.execColdReset s
  | .startTimerExpiry head => Sys2Proof.Machine.execStartTimerExpiry head s
  | .lockWaitExpiry head => Sys2Proof.Machine.execLockWaitExpiry head s
  | .holdoverExpiry head => Sys2Proof.Machine.execHoldoverExpiry head s
  | .dwellExpiry head => Sys2Proof.Machine.execDwellExpiry head s
  | .cycleExpiry link => Sys2Proof.Machine.execCycleExpiry link s
  | .ackLimitExpiry record => Sys2Proof.Machine.execAckLimitExpiry record s
  | .pageAnswerExpiry record => Sys2Proof.Machine.execPageAnswerExpiry record s
  | .pollAnswerExpiry record => Sys2Proof.Machine.execPollAnswerExpiry record s
  | .secondExpiry => Sys2Proof.Machine.execSecondExpiry s
  | .overdueExpiry record => Sys2Proof.Machine.execOverdueExpiry record s
  | .replySend => Sys2Proof.Machine.execReplySend s
  | .noticeSend => Sys2Proof.Machine.execNoticeSend s
  | .orderSend => Sys2Proof.Machine.execOrderSend s

end Sys2Proof.Machine
end

