-- ==== Sys2Proof/Safety.lean ====
section
/-! DEFINITION. The terms of the claims: safe runs, the laws that the manual states of the records together (each holds
after a cold reset and every step keeps it), and the relations by which a command's frame is said. -/

namespace Sys2Proof.Machine

/-! ### Safe runs -/

/-- A run of `n` steps that no fault and no refusal stops. -/
def SafeRun : (n : Nat) → State → Prop
  | 0, _ => True
  | n + 1, s => ∃ t, step s = .next t ∧ SafeRun n t

/-! ### Tables and owners (Chapter 1) -/

/-- The three tables are in canonical form within their pools (R1, R92, R126), and no two contexts hold the same tag
(R2). -/
def State.tablesLaw (s : State) : Prop :=
  s.contexts.wf Config.contextSlots ∧ s.links.wf Config.craneLinks ∧ s.reefers.wf Config.reeferRecords ∧
    s.contexts.Pairwise fun a b => a.2.tag ≠ b.2.tag

/-- Each CRANE context owns one crane link record and each REEFER context one reefer record, each allocated record is
owned by such a context, and the other classes own none (R3). -/
def State.ownershipLaw (s : State) : Prop :=
  (∀ e ∈ s.contexts, e.2.cls = .crane → (e.2.ext.bind s.links.get?).any fun k => k.owner == e.1) ∧
  (∀ e ∈ s.contexts, e.2.cls = .reefer → (e.2.ext.bind s.reefers.get?).any fun r => r.owner == e.1) ∧
  (∀ e ∈ s.contexts, e.2.cls ≠ .crane → e.2.cls ≠ .reefer → e.2.ext = none) ∧
  (∀ e ∈ s.links, (s.contexts.get? e.2.owner).any fun c => c.cls == .crane && c.ext == some e.1) ∧
  (∀ e ∈ s.reefers, (s.contexts.get? e.2.owner).any fun c => c.cls == .reefer && c.ext == some e.1)

/-! ### Candidate lists and serving heads (R4, R5, R9, R10) -/

/-- Every class parameter is within its range (Table 4-3). -/
def ParamSets.inRange (p : ParamSets) : Prop :=
  ∀ x ∈ [p.crane, p.reefer, p.vehicle, p.handheld],
    x.shift ≤ 6 ∧ x.hysteresis ≤ 30 ∧ 1 ≤ x.ttt ∧ x.ttt ≤ 15 ∧ -256 ≤ x.offset ∧ x.offset ≤ 255

/-- A candidate list holds at most four entries, no two for one head, in list order (R9, R10), and each entry is within
the ranges of Table 1-3. -/
def candidatesOk (limit : Nat) (l : List Candidate) : Prop :=
  l.length ≤ Config.candidateEntries ∧ (l.map (·.head)).Nodup ∧ (l.Pairwise fun a b => before a b = true) ∧
    ∀ e ∈ l, e.level ≤ 3520 ∧ e.score ≤ 3775 ∧ e.missing ≤ 2 ∧ e.ttt ≤ limit

/-- The class parameters and every candidate list are within their bounds (R9, R10, R80, R81). -/
def State.candidateLaw (s : State) : Prop :=
  s.params.inRange ∧ ∀ e ∈ s.contexts, candidatesOk (s.params.get e.2.cls).ttt e.2.cands

/-- Every candidate entry is on a head in service, and a serving head has its entry, whose sector heard is the serving
sector (R4, R5, R9). -/
def State.servedLaw (s : State) : Prop :=
  ∀ e ∈ s.contexts,
    (∀ x ∈ e.2.cands, (s.head x.head).state.inService) ∧
    (∀ h, e.2.serving = some h → (e.2.entry? h).any fun x => x.sector == e.2.sector) ∧
    (∀ t, s.handoverTarget e.2 = some t → (e.2.entry? t).isSome)

/-! ### Heads (Chapter 2) -/

/-- A sweep schedule within its ranges (R39). -/
def Schedule.ok (d : Schedule) : Prop := 1 ≤ d.count ∧ d.count ≤ 16 ∧ 1 ≤ d.dwell ∧ d.dwell ≤ 255

/-- A head record within the ranges of Table 2-1, its timers and its sweep running in the states that run them. -/
def Head.ok (x : Head) : Prop :=
  16 ≤ x.capacity ∧ x.capacity ≤ 240 ∧ 1 ≤ x.startFrames ∧ x.startFrames ≤ 65535 ∧
  1 ≤ x.lockLimit ∧ x.lockLimit ≤ 65535 ∧ 1 ≤ x.holdoverLimit ∧ x.holdoverLimit ≤ 65535 ∧
  x.spanFirst ≤ x.spanLast ∧ x.active.ok ∧
  (∀ d ∈ x.staged, d.ok) ∧ (x.staged.isSome → x.state.inService) ∧
  (x.sweep.isSome ↔ x.state.inService) ∧ (∀ p ∈ x.sweep, p.slot < x.active.count) ∧
  (x.startTimer.isSome → x.state = .starting) ∧
  (x.lockTimer.isSome ↔ x.state = .starting ∧ x.locked = false) ∧
  (x.holdoverTimer.isSome ↔ x.state = .holdover) ∧
  (x.state = .active → x.locked)

/-- Every head record is within its bounds (R25 to R31, R38, R39, R43). -/
def State.headLaw (s : State) : Prop := ∀ h : HeadIx, (s.head h).ok

/-! ### Airtime (Chapter 3) -/

/-- R50, R51, R57 and R35 for every head: Wg is the fit of the figures; U never exceeds C; a head whose U exceeds its E
holds no prepared reservation and no window; and a head that is not ACTIVE holds no prepared reservation. -/
def State.airtimeLaw (s : State) : Prop :=
  ∀ h : HeadIx,
    (s.account h).wg = grantedWindow (s.head h) (s.account h) ∧
    (s.account h).committed ≤ (s.head h).capacity ∧
    ((s.head h).effective < (s.account h).committed → (s.account h).preparedOwners = [] ∧ (s.account h).wg = 0) ∧
    ((s.head h).state ≠ .active → (s.account h).preparedOwners = [])

/-- A link holds a reservation of a kind on a head. -/
def State.holds (s : State) (k : ResKind) (l : Nat) (h : HeadIx) : Bool :=
  (s.account h).list.any fun r => r.kind == k && r.owner == l

/-- A link in a handover holds its prepared reservation on the target (R116, R117). -/
def State.handoverLaw (s : State) : Prop :=
  ∀ e ∈ s.links, ∀ t, e.2.phase.target? = some t → s.holds .prepared e.1 t

/-- The serving head of a link's context. -/
def State.linkServing (s : State) (l : Nat) : Option HeadIx := (s.linkContext l).bind (·.serving)

/-- R116: no list holds two reservations of one link (R49); a standing reservation stands on the serving head of its
link's context, a prepared one on the target of its link's handover, which is not the serving head; a link in RUNNING,
in HOLDING or in a handover holds its standing reservation; and an IDLE link holds none and has phase NONE. -/
def State.reservationLaw (s : State) : Prop :=
  (∀ h : HeadIx, ((s.account h).list.map (·.owner)).Nodup) ∧
  (∀ h : HeadIx, ∀ r ∈ (s.account h).list,
    (s.links.get? r.owner).any (fun k => k.state != .idle) ∧
    (r.kind = .standing → s.linkServing r.owner = some h) ∧
    (r.kind = .prepared → (s.links.get? r.owner).any (fun k => k.phase.target? == some h) ∧
      s.linkServing r.owner ≠ some h)) ∧
  (∀ e ∈ s.links,
    (e.2.state = .running ∨ e.2.state = .holding ∨ e.2.phase ≠ .none →
      (s.linkServing e.1).any fun h => s.holds .standing e.1 h) ∧
    (e.2.state = .idle → e.2.phase = .none))

/-! ### Crane links (Chapter 5) -/

/-- A crane link record within the ranges of Table 5-1; the cycle runs out of IDLE (R94); and a link in RUNNING or HOLDING
has its counts below their limits and is HOLDING exactly when its repeat count is above zero (R99). -/
def CraneLink.ok (k : CraneLink) : Prop :=
  2 ≤ k.period ∧ k.period ≤ 64 ∧ 4 ≤ k.units ∧ k.units ≤ 48 ∧
  1 ≤ k.holdLimit ∧ k.holdLimit ≤ 15 ∧ 1 ≤ k.missLimit ∧ k.missLimit ≤ 15 ∧
  (k.cycle = none ↔ k.state = .idle) ∧
  (k.state = .running ∨ k.state = .holding →
    k.repeats < k.holdLimit ∧ k.misses < k.missLimit ∧ k.current.isSome ∧
      (k.state = .holding ↔ 0 < k.repeats)) ∧
  k.repeats ≤ 15 ∧ k.misses ≤ 15 ∧ k.sideErrors ≤ 255 ∧ (∀ f ∈ k.feedback, f.age ≤ 255) ∧
  (∀ a ∈ k.assembly, 1 ≤ a.length ∧ a.length < Config.sideFragments) ∧
  (∀ b ∈ k.down, b.pos ≤ Config.lastSidePosition) ∧ (∀ n ∈ k.phase.count?, n ≤ 3) ∧
  (k.state = .safeStop → k.cause.isSome)

/-- Every crane link record is within its bounds. -/
def State.linkLaw (s : State) : Prop := ∀ e ∈ s.links, e.2.ok

/-! ### Reefers (Chapters 7 and 8) -/

/-- A stored temperature is saturated (R128). -/
def Temp.ok (t : Temp) : Prop := -400 ≤ t.value ∧ t.value ≤ 400

/-- A reefer record within the ranges of Tables 7-1 and 8-1; the ack limit timer runs exactly in DOZE_ORDERED (R141 to
R143), a page waits in ACK_WAIT exactly in DOZE_ORDERED, and only a dozing reefer or one ordered to doze has one. -/
def Reefer.ok (r : Reefer) : Prop :=
  (∀ t ∈ r.supply, t.ok) ∧ (∀ t ∈ r.ret, t.ok) ∧ (∀ t ∈ r.setpoint, t.ok) ∧ (∀ b ∈ r.booked, -400 ≤ b ∧ b ≤ 400) ∧
  r.persist ≤ 15 ∧ (∀ d ∈ r.lastDev, d ≤ 800) ∧ 10 ≤ r.interval ∧ r.interval ≤ 3600 ∧ r.grace ≤ 600 ∧
  r.age ≤ Config.ageMax ∧ r.missed ≤ 255 ∧
  (r.ackTimer.isSome ↔ r.doze = .ordered) ∧
  (∀ p ∈ r.page, p.attempts ≤ 1 ∧ r.doze ≠ .awake ∧ (p.phase = .ackWait ↔ r.doze = .ordered))

/-- Every reefer record is within its bounds. -/
def State.reeferLaw (s : State) : Prop := ∀ e ∈ s.reefers, e.2.ok

/-- The polls of the part (R60, R146): a reefer stands in at most one wait list, that of its serving head, exactly while its
poll state is WAITING; only an AWAKE reefer has a poll; and the outstanding poll count of each head is the number of
records whose poll it sent. -/
def State.pollLaw (s : State) : Prop :=
  (allHeads.flatMap s.pollWait).Nodup ∧
  (∀ h : HeadIx, ∀ i ∈ s.pollWait h,
    s.reeferServing i = some h ∧ (s.reefers.get? i).any fun r => r.poll == .waiting) ∧
  (∀ e ∈ s.reefers, e.2.poll = .waiting → (s.reeferServing e.1).any fun h => (s.pollWait h).contains e.1) ∧
  (∀ e ∈ s.reefers, e.2.doze ≠ .awake → e.2.poll = .none) ∧
  (∀ h : HeadIx, (s.account h).polls =
    s.reefers.countP fun e => match e.2.poll with | .outstanding h' _ => h' == h | _ => false)

/-- The page queues (R148): at most 32 entries each, at most one entry per reefer in all together, each of a reefer that
the head serves and whose page is pending; and every pending page stands in the queue of its serving head. -/
def State.pageLaw (s : State) : Prop :=
  (∀ h : HeadIx, (s.pageQueue h).length ≤ Config.pageEntries) ∧
  (allHeads.flatMap s.pageQueue).Nodup ∧
  (∀ h : HeadIx, ∀ i ∈ s.pageQueue h,
    s.reeferServing i = some h ∧ (s.reefers.get? i).any fun r => r.page.isSome) ∧
  (∀ e ∈ s.reefers, e.2.page.isSome → (s.reeferServing e.1).any fun h => (s.pageQueue h).contains e.1)

/-! ### Ports and settings (Chapters 9 and 10) -/

/-- The in-flight list holds at most 64 entries (R161); the notice queue holds at most 512 notices, at most one of each
kind for each subject (R162); the unmatched-uplink count and the second divider are within their ranges (R169, R171). -/
def State.portLaw (s : State) : Prop :=
  s.inflight.length ≤ Config.inflightEntries ∧ s.notices.length ≤ Config.noticeEntries ∧
  (s.notices.Pairwise fun a b => a.matches b = false) ∧
  s.unmatched ≤ Config.unmatchedMax ∧ s.divider < Config.framesPerSecond

/-- The part-wide settings are within the ranges of Table 9-4 and consistent (R135, R155), and W is at most 255. -/
def State.settingsLaw (s : State) : Prop :=
  s.settings.consistent = true ∧ s.loadWeight ≤ 255 ∧
  5 ≤ s.settings.devThreshold ∧ s.settings.devThreshold ≤ 200 ∧
  1 ≤ s.settings.devHysteresis ∧ s.settings.devHysteresis ≤ 50 ∧
  10 ≤ s.settings.critThreshold ∧ s.settings.critThreshold ≤ 400 ∧
  1 ≤ s.settings.persistence ∧ s.settings.persistence ≤ 15 ∧
  1 ≤ s.settings.ackLimit ∧ s.settings.ackLimit ≤ 4095 ∧
  1 ≤ s.settings.pageLimit ∧ s.settings.pageLimit ≤ 4095 ∧
  1 ≤ s.settings.pollLimit ∧ s.settings.pollLimit ≤ 4095

/-! ### What a request names and carries -/

/-- A request names the context `c` in slot `k`, in the handle or in the tag form (R12). -/
def names (r : Request) (s : State) (k : Nat) (c : Context) : Prop :=
  (r.form = 0x00 ∧ r.target.toNat = k ∧ k < Config.contextSlots ∧ s.contexts.get? k = some c) ∨
  (r.form = 0x01 ∧ s.findTag r.target = some (k, c))

/-- A request names head `h` (R25). -/
def namesHead (r : Request) (h : HeadIx) : Prop := r.form = 0x02 ∧ r.target.toNat = h.val

/-- A request targets the part (R158). -/
def namesPart (r : Request) : Prop := r.form = 0x03

/-- A request names the CRANE context `c` in slot `k`, whose crane link is record `l`, now `x` (R12, R92). -/
def namesCrane (r : Request) (s : State) (k : Nat) (c : Context) (l : Nat) (x : CraneLink) : Prop :=
  names r s k c ∧ s.contexts.get? k = some c ∧ c.cls = .crane ∧ c.ext = some l ∧ s.links.get? l = some x

/-- A request names the REEFER context `c` in slot `k`, whose status record is `i`, now `x` (R12, R126). -/
def namesReefer (r : Request) (s : State) (k : Nat) (c : Context) (i : Nat) (x : Reefer) : Prop :=
  names r s k c ∧ s.contexts.get? k = some c ∧ c.cls = .reefer ∧ c.ext = some i ∧ s.reefers.get? i = some x

/-- An event with tag `tag` finds the REEFER context `c` in slot `k`, whose status record is `i`, now `x` (R168). -/
def findsReefer (tag : Tag) (s : State) (k : Nat) (c : Context) (i : Nat) (x : Reefer) : Prop :=
  s.findTag tag = some (k, c) ∧ s.contexts.get? k = some c ∧ c.cls = .reefer ∧ c.ext = some i ∧
    s.reefers.get? i = some x

/-- The option list of a request is END alone. -/
def bare (r : Request) : Prop := r.opts = [0x00]

/-- The option list of a request of kind `k` passes the six checks of R158 and holds the options `os`. -/
def carries (k : ReqKind) (r : Request) (os : Options) : Prop := checkOptions k r.opts = .ok os

/-- A reply to the request `r` of kind `k`. -/
def replyTo (k : ReqKind) (r : Request) (res : Result) (clamped : Bool) (identity : Identity) (body : List Byte) :
    Reply :=
  { reqTag := r.reqTag, kind := k.code, result := res, clamped := clamped, identity := identity, body := body }

/-- The resulting value of a numeric setting: the option's number clamped to `lo..hi`, else the value held (R159). -/
def settingOf (lo hi held : Nat) (given : Option Nat) : Nat :=
  match given with
  | some v => max lo (min hi v)
  | none => held

/-- The option is present and outside `lo..hi` (R159). -/
def outOf (lo hi : Nat) (given : Option Nat) : Bool :=
  match given with
  | some v => v < lo || hi < v
  | none => false

/-! ### Frames -/

/-- `t` is `s` after polls that a wait-list pass of head `h` may have sent, and nothing else (R59, R146, R147): the
reefers polled are the oldest of the wait list, each poll sent is one POLL order through `h` with the reefer's tag, in the
order of the list, and one credit more, no credit is given at or above Wg, and of the reefer records only the poll states of those polled change. -/
def PolledThrough (h : HeadIx) (s t : State) : Prop :=
  (∃ sent, s.pollWait h = sent ++ t.pollWait h ∧ (∀ i, i ∉ sent → t.reefers.get? i = s.reefers.get? i) ∧
    let tags := sent.filterMap fun i => (s.reeferContext i).map (·.tag)
    t.orders = s.orders ++ tags.map (Order.poll h) ∧ (t.account h).polls = (s.account h).polls + tags.length) ∧
  (∀ i, (t.reefers.get? i).map (fun r => { r with poll := .none }) =
    (s.reefers.get? i).map fun r => { r with poll := .none }) ∧
  (t.account h).polls ≤ max (s.account h).polls (s.account h).wg ∧
  t =
    { (s.setAccount h { s.account h with polls := (t.account h).polls }).setPollWait h (t.pollWait h) with
      orders := t.orders
      reefers := t.reefers }

/-- A head whose window was `old` and has been fitted: its wait-list pass runs exactly when the window grew (R57,
R147). -/
def State.passIfGrown (s : State) (h : HeadIx) (old : Nat) : State :=
  if old < (s.account h).wg then s.waitPass h else s

/-- `v` with HANDOVER_FAILED posted for the handover that link `l` has in `s` (R121). -/
def State.postFailed (s : State) (cause : HandoverCause) (v : State) (l : Nat) : State :=
  match s.links.get? l with
  | some k =>
    match k.phase.target? with
    | some g => v.post (.context k.owner) (.handoverFailed (s.linkServing l) g cause)
    | none => v
  | none => v

/-- The link records with the handovers of the links `ls` ended, and nothing else changed (R121). -/
def State.linksEnded (s : State) (ls : List Nat) : Table CraneLink :=
  s.links.map fun e => if ls.contains e.1 then (e.1, { e.2 with phase := .none }) else e

/-- The in-flight list and the replies due after the oldest entry that satisfies `p` has ended with `res`: its reply is
the newest one due, the other entries keep their order, and without such an entry nothing changes (R161). -/
def State.ending (s : State) (v : List InFlight × List Reply) (p : InFlight → Bool) (res : Result) :
    List InFlight × List Reply :=
  (v.1.eraseP p, v.2 ++ ((v.1.find? p).map fun e => s.endReply e res).toList)

/-- What has become of the long requests: those of `s`, and then of each end in the order given. -/
def State.endings (s : State) (ps : List (InFlight → Bool)) (res : Result) : List InFlight × List Reply :=
  ps.foldl (fun v p => s.ending v p res) (s.inflight, s.replies)

/-- The PAGE that owns the pending page of record `i`, as its in-flight entry, when the page is a controller page. -/
def State.pageEntry (s : State) (i : Nat) : Option (InFlight → Bool) :=
  (s.reefers.get? i).bind fun r => (r.page.bind (·.owner)).map fun q => InFlight.is .page (.context r.owner) q

/-- The reefer records of `t` are those of `s` but for their page and poll states. -/
def PagesAndPollsOnly (s t : State) : Prop :=
  ∀ i, (t.reefers.get? i).map (fun r => { r with page := none, poll := .none }) =
    (s.reefers.get? i).map fun r => { r with page := none, poll := .none }

/-! ### Crane downlinks -/

/-- The side bytes that a downlink of `x` carries: those of the block in flight at its position (R111). -/
def sideOf (x : CraneLink) : Option SideBytes :=
  x.down.map fun b =>
    { pos := b.pos,
      frag := { fst := (b.bytes.toList[2 * b.pos]?).getD 0, snd := (b.bytes.toList[2 * b.pos + 1]?).getD 0 } }

/-- The downlinks of one cycle of the link `x` for the context `c` (R100, R119): none without a serving head; else one
through it, and the same through `switchTo`. -/
def downlinksOf (x : CraneLink) (c : Context) (switchTo : Option HeadIx) : List Order :=
  let body : DownBody := if x.state = .safeStop then .stop x.cause else .setpoint
  let via (h : HeadIx) : Order := .craneDownlink h c.tag x.current body switchTo (sideOf x)
  match c.serving with
  | some h => via h :: (switchTo.map via).toList
  | none => []

/-- The downlink block in flight after one cycle (R111): a downlink sent moves it on by one position, and past position
23 the pending block takes its place at position 0. -/
def downAfter (x : CraneLink) (served : Bool) : Option DownBlock :=
  match x.down with
  | some b =>
    if served then
      if b.pos < 23 then some { b with pos := b.pos + 1 }
      else x.waiting.map fun w => { bytes := w.bytes, pos := 0, req := w.req }
    else some b
  | none => none

/-- The in-flight entry that one cycle answers DONE (R111): that of the block in flight, when the downlink sent carries its
last position. -/
def completedSide (x : CraneLink) (served : Bool) (e : InFlight) : Bool :=
  served && x.down.any fun b => 23 ≤ b.pos && InFlight.is .sideDown (.context x.owner) b.req e

/-- The pending downlink block after one cycle (R111). -/
def waitingAfter (x : CraneLink) (served : Bool) : Option WaitBlock :=
  if served ∧ x.down.any (fun b => 23 ≤ b.pos) then none else x.waiting

/-- No expiry is due: no running timer is at its end, no second expiry and no overdue expiry waits. -/
def State.quiet (s : State) : Prop :=
  s.secondDue = false ∧
  (∀ h : HeadIx, (s.head h).startTimer ≠ some 0 ∧ (s.head h).lockTimer ≠ some 0 ∧ (s.head h).holdoverTimer ≠ some 0 ∧
    ∀ p ∈ (s.head h).sweep, p.remaining ≠ 0) ∧
  (∀ e ∈ s.links, e.2.cycle ≠ some 0) ∧
  (∀ e ∈ s.reefers, e.2.ackTimer ≠ some 0 ∧ e.2.overdueDue = false ∧ (∀ p ∈ e.2.page, p.phase ≠ .sent 0) ∧
    ∀ h, e.2.poll ≠ .outstanding h 0)

/-- The expiry commands in the order in which a strobe takes those still due (log 2): head by head, then the cycle expiries
by link index, then the reefer records' by record index, the second expiry ahead of the overdue expiries. -/
def State.dueOrder (s : State) : List Instr :=
  let records := s.reefers.keys.map (Fin.ofNat 4096)
  allHeads.flatMap (fun h => [.startTimerExpiry h, .lockWaitExpiry h, .holdoverExpiry h, .dwellExpiry h]) ++
    s.links.keys.map (fun l => .cycleExpiry (Fin.ofNat 32 l)) ++ records.map .ackLimitExpiry ++
    records.map .pageAnswerExpiry ++ records.map .pollAnswerExpiry ++ .secondExpiry :: records.map .overdueExpiry

/-- `s` after the commands given, one by one; a command that answered no next state would leave it as it is. -/
def State.after (s : State) : List Instr → State
  | [] => s
  | i :: is => State.after (match exec i s with | .next t => t | .fault _ | .refused _ => s) is

end Sys2Proof.Machine
end

