-- ==== Sys2Proof/WellFormed.lean ====
section
/-! DEFINITION. Well-formed commands: those that one message, strobe, reset, expiry or free line gives. -/

namespace Sys2Proof

/-- A command is well formed when a message of its link can spell it: an unknown request kind has a code outside
01H..1AH (R157), an incomplete header has fewer than 10 bytes (R157), a measurement report declares at most 255 entries
(Table 11-5), and an unknown event is a message that no kind of Table 10-1 reads (R169). Every other command is well
formed with every operand. -/
def Instr.WellFormed : Instr → Bool
  | .unknownRequestKind k _ => (ReqKind.ofCode k).isNone
  | .incompleteRequestHeader msg => msg.length < 10
  | .measurementReport _ es => es.length ≤ 255
  | .unknownEventKind msg => (readKnownEvent msg).isNone
  | _ => true

end Sys2Proof
end

