-- ==== Sys2Proof/Certificates/Slice0/Obligations.lean ====
section
/-! DEFINITION. The statements for the provers: what the numbered rules of spec/ say of the commands, of the shared
operations and of the records together. -/

open Sys2Proof Sys2Proof.Machine

/-! ### The queue of commands, reset, and the laws that every step keeps -/

/-- A step takes the command at the front of the queue and runs it with the queue's rest (R157, R168: messages are taken
in the order in which they arrive, each whole before the next); on an empty queue the block idles. The one queue is the
model's choice (log 1). -/
def Obligations.StepRunsTheFrontCommand : Prop :=
  (∀ (c : Instr) (rest : List Instr) (s : State), s.pending = c :: rest → step s = exec c { s with pending := rest }) ∧
  ∀ s : State, s.pending = [] → step s = .next s

/-- No command stops the part with a fault or a refusal, and none touches the queue of the commands that wait. -/
def Obligations.EveryCommandIsTaken : Prop :=
  ∀ (i : Instr) (s : State), ∃ t, exec i s = .next t ∧ t.pending = s.pending

/-- COLD_RESET returns every record to its cold value: R23 (table and extension pools empty), R47 (heads), R67 (airtime),
R91 (shadow map, parameter sets, W), R156 (queues), R167 (control port), R169 (unmatched), R171 (frame counts). Where the
rules are silent (the port lines hold no message) the value is log 5's. -/
def Obligations.ColdResetRestoresColdValues : Prop :=
  ∀ s : State, ∃ t, exec .coldReset s = .next t ∧
    t.contexts = [] ∧ t.links = [] ∧ t.reefers = [] ∧
    (∀ h : HeadIx,
      t.head h =
        { state := .offline, capacity := 200, locked := false, startFrames := 1024, lockLimit := 8192,
          holdoverLimit := 4000, startTimer := none, lockTimer := none, holdoverTimer := none, cause := .none,
          spanFirst := 0, spanLast := 63, active := Schedule.default, sweep := none, staged := none } ∧
      (t.head h).effective = 0 ∧
      t.account h = { list := [], wreq := 16, wg := 0, polls := 0 } ∧ (t.account h).committed = 0 ∧
      t.pageQueue h = [] ∧ t.pollWait h = [] ∧ ∀ g : Segment, t.shadowAt h g = 0) ∧
    Schedule.default.count = 8 ∧ Schedule.default.dwell = 5 ∧
    (∀ k : Fin 16, Schedule.default.slot k.val = if h : k.val < 8 then some ⟨k.val, h⟩ else none) ∧
    t.params.crane = { shift := 1, hysteresis := 6, ttt := 3, offset := 0 } ∧
    t.params.reefer = { shift := 3, hysteresis := 8, ttt := 4, offset := 0 } ∧
    t.params.vehicle = { shift := 2, hysteresis := 4, ttt := 2, offset := 0 } ∧
    t.params.handheld = { shift := 2, hysteresis := 4, ttt := 2, offset := 0 } ∧ t.loadWeight = 64 ∧
    t.settings =
      { devThreshold := 20, devHysteresis := 5, critThreshold := 50, persistence := 3, criticalMask := 0x000F#16,
        ackLimit := 50, pageLimit := 64, pollLimit := 200 } ∧
    t.inflight = [] ∧ t.notices = [] ∧ t.replies = [] ∧ t.orders = [] ∧ t.overflow = false ∧ t.restartCause = .cold ∧
    t.portLine = none ∧ t.linkLine = none ∧ t.unmatched = 0 ∧ t.lastUnknown = none ∧
    t.frame = 0 ∧ t.divider = 0 ∧ t.pending = s.pending

/-- Every law of Safety.lean holds right after a cold reset. -/
def Obligations.ResetMeetsEveryLaw : Prop :=
  let s := State.reset
  s.tablesLaw ∧ s.ownershipLaw ∧ s.candidateLaw ∧ s.servedLaw ∧ s.headLaw ∧ s.airtimeLaw ∧ s.handoverLaw ∧
    s.reservationLaw ∧ s.linkLaw ∧ s.reeferLaw ∧ s.pollLaw ∧ s.pageLaw ∧ s.portLaw ∧ s.settingsLaw

/-- Every step keeps the tables of contexts, crane links and reefer records in canonical form within their pools, no two
contexts with one tag, and the ownership between contexts and their extension records (R1 to R3). -/
def Obligations.EveryStepKeepsTheTables : Prop :=
  ∀ s t : State, s.tablesLaw → s.ownershipLaw → step s = .next t → t.tablesLaw ∧ t.ownershipLaw

/-- Every step keeps the airtime law of every head (R50, R51, R57, and R35's cancelling on leaving ACTIVE). -/
def Obligations.EveryStepKeepsTheAirtimeLaw : Prop :=
  ∀ s t : State, s.airtimeLaw → step s = .next t → t.airtimeLaw

/-- Every step keeps R116: who holds which reservation, and that a link in RUNNING, HOLDING or a handover holds its
standing reservation on its serving head. -/
def Obligations.EveryStepKeepsTheReservationLaw : Prop :=
  ∀ s t : State, s.tablesLaw → s.ownershipLaw → s.airtimeLaw → s.handoverLaw → s.reservationLaw → step s = .next t →
    t.handoverLaw ∧ t.reservationLaw

/-- Every step keeps every candidate list within its bounds and in list order, and every class parameter within its range
(R9, R10, R80, R81). The premise rules out tables with two entries in one slot, which no run reaches. -/
def Obligations.EveryStepKeepsTheCandidateLists : Prop :=
  ∀ s t : State, s.tablesLaw → s.candidateLaw → step s = .next t → t.candidateLaw

/-- Every step keeps R4, R5 and R9: no context names an OFFLINE or FAULTED head, as its serving head or in its candidate
list; the serving head has its entry, whose sector heard is the serving sector; and a handover's target has its entry. -/
def Obligations.EveryStepKeepsServingHeadsInService : Prop :=
  ∀ s t : State, s.tablesLaw → s.ownershipLaw → s.airtimeLaw → s.handoverLaw → s.candidateLaw → s.servedLaw →
    step s = .next t → t.servedLaw

/-- Every step keeps every head record within Table 2-1 (C, start frames, lock limit, holdover limit, span, schedules), its
timers and its sweep running in the states that run them. -/
def Obligations.EveryStepKeepsTheHeadRecords : Prop := ∀ s t : State, s.headLaw → step s = .next t → t.headLaw

/-- Every step keeps every crane link record within Table 5-1 and the law of R99 on the counts of a link in RUNNING or
HOLDING. The premise rules out tables with two entries in one slot, which no run reaches. -/
def Obligations.EveryStepKeepsTheLinkRecords : Prop :=
  ∀ s t : State, s.tablesLaw → s.linkLaw → step s = .next t → t.linkLaw

/-- Every step keeps every reefer record within Tables 7-1 and 8-1, and doze state, ack limit timer and page phase in
step. The premise rules out tables with two entries in one slot, which no run reaches. -/
def Obligations.EveryStepKeepsTheReeferRecords : Prop :=
  ∀ s t : State, s.tablesLaw → s.reeferLaw → step s = .next t → t.reeferLaw

/-- Every step keeps R60 and R146: the outstanding poll count of each head is the number of records whose poll it sent, a
reefer waits only in the list of its serving head, and a dozing reefer has no poll. -/
def Obligations.EveryStepKeepsThePollLaw : Prop :=
  ∀ s t : State, s.tablesLaw → s.ownershipLaw → s.pollLaw → step s = .next t → t.pollLaw

/-- Every step keeps R148: what the page queues hold. -/
def Obligations.EveryStepKeepsThePageQueues : Prop :=
  ∀ s t : State, s.tablesLaw → s.ownershipLaw → s.pageLaw → step s = .next t → t.pageLaw

/-- Every step keeps the in-flight list and the notice queue within their bounds, at most one notice of each kind for each
subject (R161, R162), the counts of R169 and R171 within theirs, and the part-wide settings consistent and in range (R135,
R155). -/
def Obligations.EveryStepKeepsThePortsAndSettings : Prop :=
  ∀ s t : State, step s = .next t → (s.portLaw → t.portLaw) ∧ (s.settingsLaw → t.settingsLaw)

/-! ### Rules over all commands -/

/-- R171, R172: the frame number and the second divider advance at a frame strobe alone; a strobe raises the frame number
by one, wrapping, and the divider by one, from 999 to 0; no other command but a cold reset changes either. -/
def Obligations.OnlyStrobesAdvanceTheFrameCounts : Prop :=
  ∀ (i : Instr) (s t : State), exec i s = .next t →
    (i = .frameStrobe → t.frame = s.frame + 1 ∧ t.divider = if 1000 ≤ s.divider + 1 then 0 else s.divider + 1) ∧
    (i ≠ .frameStrobe → i ≠ .coldReset → t.frame = s.frame ∧ t.divider = s.divider)

/-- R1, R2, R3: which slots hold which tag, class and extension changes by ATTACH, RETIRE and a cold reset alone. -/
def Obligations.OnlyAttachAndRetireChangeIdentities : Prop :=
  ∀ (i : Instr) (s t : State), exec i s = .next t → (∀ r, i ≠ .attach r) → (∀ r, i ≠ .retire r) → i ≠ .coldReset →
    t.contexts.map (fun e => (e.1, e.2.tag, e.2.cls, e.2.ext)) =
      s.contexts.map fun e => (e.1, e.2.tag, e.2.cls, e.2.ext)

/-- Settings change by their own requests and a cold reset alone: the class parameter sets and W by CLASS_PARAMS (R82),
the part-wide settings by PART_CONFIG (R155, R164), the shadow map by SHADOW_SET (R77), Wreq by POLL_WINDOW_SET (R64), and
C with the timer lengths and the span of a head by HEAD_CONFIG (R44). -/
def Obligations.SettingsChangeByTheirRequestsAlone : Prop :=
  ∀ (i : Instr) (s t : State), exec i s = .next t → i ≠ .coldReset →
    ((∀ r, i ≠ .classParams r) → t.params = s.params ∧ t.loadWeight = s.loadWeight) ∧
    ((∀ r, i ≠ .partConfig r) → t.settings = s.settings) ∧
    ((∀ r, i ≠ .shadowSet r) → t.shadow = s.shadow) ∧
    ((∀ r, i ≠ .pollWindowSet r) → ∀ h : HeadIx, (t.account h).wreq = (s.account h).wreq) ∧
    ((∀ r, i ≠ .headConfig r) → ∀ h : HeadIx,
      (t.head h).capacity = (s.head h).capacity ∧ (t.head h).startFrames = (s.head h).startFrames ∧
      (t.head h).lockLimit = (s.head h).lockLimit ∧ (t.head h).holdoverLimit = (s.head h).holdoverLimit ∧
      (t.head h).spanFirst = (s.head h).spanFirst ∧ (t.head h).spanLast = (s.head h).spanLast)

/-! ### Messages -/

/-- Every control-port message reads back: of a well-formed command of the control port, the bytes written are read as
that command, with every operand at every value (Tables 11-1 and 11-2, R157, R173). -/
def Obligations.ControlMessagesReadBack : Prop :=
  ∀ (i : Instr) (b : List Byte), i.WellFormed → requestBytes i = some b → readRequest b = i

/-- Every quay-link message reads back: of a well-formed event, the bytes written are read as that event (Table 11-5,
R169, R174). -/
def Obligations.EventMessagesReadBack : Prop :=
  ∀ (i : Instr) (b : List Byte), i.WellFormed → eventBytes i = some b → readEvent b = i

/-- An option list meets the checks of R158 in their order: of an option list written as Table 11-2 gives, the first
failing check of 3 to 6 gives the result code, and a list that passes all is read as the options written; a list without
END, one with a byte behind END (check 1) and one with an option code the part does not know (check 2) are each refused
BAD_OPTION. -/
def Obligations.OptionListsMeetTheChecksInOrder : Prop :=
  ∀ (k : ReqKind) (os : Options), (∀ e ∈ os, e.2.length < 256) →
    (checkOptions k os.write =
      if ¬ (os.map (·.1)).Nodup then .error .badOption
      else if os.any fun e => !(optionsTaken k).contains e.1 then .error .badOption
      else if os.any fun e => !e.1.lengthOk e.2.length then .error .badOption
      else if (optionsRequired k).any fun o => !(os.map (·.1)).contains o then .error .missingOption
      else .ok os) ∧
    checkOptions k os.write.dropLast = .error .badOption ∧
    (∀ b l, checkOptions k (os.write ++ b :: l) = .error .badOption) ∧
    ∀ (c : Byte) (v l : List Byte), c ≠ 0 → Opt.ofCode c = none → v.length < 256 →
      checkOptions k (os.write.dropLast ++ c :: BitVec.ofNat 8 v.length :: (v ++ l)) = .error .badOption

/-! ### Refusals -/

/-- R159, R160: a request that is answered by a refusal changes nothing: its reply, with the CLAMPED flag clear and no
body, is the only effect. (DONE and REPLACED are the results of requests that were taken; PAGE answered ALREADY_AWAKE or
NOT_COVERED at once likewise changes no record, R150.) -/
def Obligations.RefusedRequestsChangeNothing : Prop :=
  ∀ (k : ReqKind) (r : Request) (s t : State) (a : Reply), exec (k.command r) s = .next t →
    t.replies = s.replies ++ [a] → a.result ≠ .done → a.result ≠ .replaced →
    a.reqTag = r.reqTag ∧ a.kind = k.code ∧ a.clamped = false ∧ a.body = [] ∧
      t = { s with replies := s.replies ++ [a] }

/-- R157, R158: the option list is checked first. Whatever the target and the state, a request whose option list fails is
answered with that check's result code and, in every target form, with the target value as given (R12, R160, R173; for the
part form log 10). R12, R25, R158: the target is resolved second. A request on a context is refused BAD_OPTION for a handle
above 6143 and for a head, part or unknown form, UNKNOWN_TARGET for a free slot and an unknown tag, and a crane or reefer
request on a context of another class WRONG_CLASS with the resolved identity; a request on a head is refused BAD_OPTION for
an index above 23 and any other form; and one on the part is refused BAD_OPTION for any other form. -/
def Obligations.OptionFaultsComeBeforeTargetFaults : Prop :=
  ∀ (k : ReqKind) (r : Request) (s : State),
    let refused (res : Result) : Prop :=
      exec (k.command r) s = .next (s.reply (replyTo k r res false (.asGiven r.target) []))
    (∀ e, checkOptions k r.opts = .error e → refused e) ∧
    ∀ os, carries k r os →
      (k ∈ [.find, .read, .amend, .retire, .craneStart, .setpoint, .craneStop, .craneResume, .craneRelease, .sideDown,
          .craneRead, .reeferRead, .reeferParams, .page] →
        (r.form = 0x00 → 6144 ≤ r.target.toNat → refused .badOption) ∧
        (r.form = 0x00 → r.target.toNat < 6144 → s.contexts.get? r.target.toNat = none → refused .unknownTarget) ∧
        (r.form = 0x01 → s.findTag r.target = none → refused .unknownTarget) ∧
        (r.form ≠ 0x00 → r.form ≠ 0x01 → refused .badOption) ∧
        (∀ n c, names r s n c →
          (k ∈ [.craneStart, .setpoint, .craneStop, .craneResume, .craneRelease, .sideDown, .craneRead] ∧ c.cls ≠ .crane ∨
            k ∈ [.reeferRead, .reeferParams, .page] ∧ c.cls ≠ .reefer) →
          exec (k.command r) s = .next (s.reply (replyTo k r .wrongClass false (.context n c.tag) [])))) ∧
      (k ∈ [.headConfig, .headRead, .headClear, .sweepSet, .shadowSet, .shadowRead, .pollWindowSet] →
        ¬ (r.form = 0x02 ∧ r.target.toNat < 24) → refused .badOption) ∧
      (k ∈ [.attach, .classParams, .partConfig, .partStatus, .restart] → r.form ≠ 0x03 → refused .badOption)

/-- R157, R160, R173: a request of unknown kind is answered BAD_OPTION with its request tag, its kind code and its
target value as given (in the part form too, log 10), and a message too short for a header is discarded without a reply;
neither has another effect. R169: every event that no owner is found for is counted, the count stopping at 65535, and
discarded; the last unknown tag takes the tag of a terminal event whose tag no context holds and is unchanged in every
other case. -/
def Obligations.UnreadableAndUnmatchedMessages : Prop :=
  (∀ (kind : Byte) (r : Request) (s : State), exec (.unknownRequestKind kind r) s =
    .next (s.reply
      { reqTag := r.reqTag, kind := kind, result := .badOption, clamped := false,
        identity := .asGiven r.target, body := [] })) ∧
  (∀ (msg : List Byte) (s : State), exec (.incompleteRequestHeader msg) s = .next s) ∧
  ∀ (s : State) (tag : Tag) (es : List MeasEntry) (u : UplinkFields) (f : ReportFields) (b st : Byte) (short : Bool)
    (msg : List Byte),
    let n := if s.unmatched < 65535 then s.unmatched + 1 else s.unmatched
    exec (.unknownEventKind msg) s = .next { s with unmatched := n } ∧
    (s.findTag tag = none →
      ∀ i ∈ [Instr.measurementReport tag es, .craneUplink tag u, .reeferReport tag f, .dozeAck tag b st,
          .pageAnswer tag b],
        exec i s = .next { s with unmatched := n, lastUnknown := some tag }) ∧
    (∀ k c, s.findTag tag = some (k, c) → c.cls ≠ .crane →
      exec (.craneUplink tag u) s = .next { s with unmatched := n }) ∧
    (∀ k c, s.findTag tag = some (k, c) → c.cls ≠ .reefer →
      ∀ i ∈ [Instr.reeferReport tag f, .dozeAck tag b st, .pageAnswer tag b],
        exec i s = .next { s with unmatched := n }) ∧
    (24 ≤ b.toNat →
      ∀ i ∈ [Instr.headUp b, .syncLock b, .syncLost b, .lineFault b short], exec i s = .next { s with unmatched := n })

/-! ### Terminal contexts (Chapter 1) and the requests that read -/

/-- FIND, READ, HEAD_READ and SHADOW_READ answer DONE with what the record holds and change nothing (R16, R17, R46,
R79). The bodies are those of Wire.lean: every field the rule lists (log 7), presence bytes and READ's segment byte (log
8), the count byte of HEAD_READ's schedules, the 19 zeros of an absent one and no count byte in SHADOW_READ (log 9), and
HEAD_READ's timers at 0 frames (log 4). -/
def Obligations.ReadingRequestsChangeNothing : Prop :=
  ∀ (r : Request) (s : State), bare r →
    (∀ k c, names r s k c →
      exec (.find r) s = .next (s.reply (replyTo .find r .done false (.context k c.tag)
        (u16 k ++ bytes48 c.tag ++ [c.cls.code] ++ optField 2 u16 c.ext))) ∧
      exec (.read r) s = .next (s.reply (replyTo .read r .done false (.context k c.tag) (readBody k c)))) ∧
    ∀ h, namesHead r h →
      exec (.headRead r) s = .next (s.reply (replyTo .headRead r .done false (.head h)
        (headReadBody h (s.head h)
          [(s.account h).standing, (s.account h).prepared, (s.account h).wreq, (s.account h).wg,
            (s.account h).standing + (s.account h).prepared + (s.account h).wg, (s.account h).polls]))) ∧
      exec (.shadowRead r) s = .next (s.reply (replyTo .shadowRead r .done false (.head h)
        (u8 h.val ++ (s.shadow.get h).toList.flatMap u8)))

/-- R13, R14, R15, Table 1-2: ATTACH is refused by the first owner's check that fails, creating nothing: BAD_OPTION for a
class or a segment value that names nothing, WRONG_CLASS for a CRANE with a segment, DUPLICATE_TAG for a tag held, TABLE_FULL
with no free slot and with no free extension record. Else it creates the context in the lowest free slot, with the lowest
free extension record of its class at the content of R15, in one step, and answers DONE with handle, tag and extension
index; nothing else changes. That a pinned value that names nothing is refused BAD_OPTION, and with the class and segment
values, is the model's (log 13). The layout of the reply body is logs 7 and 8. -/
def Obligations.AttachCreatesTheContext : Prop :=
  ∀ (r : Request) (s : State) (os : Options), namesPart r → carries .attach r os →
    let refused (res : Result) : Prop := exec (.attach r) s = .next (s.reply (replyTo .attach r res false .part []))
    ((os.nat .cls).bind classOf = none ∨ os.readAs .segment none segmentOrNone = none ∨
      os.readAs .pinned false pinnedOf = none → refused .badOption) ∧
    ∀ (cls : Machine.Class) (seg : Option Segment) (pin : Bool), (os.nat .cls).bind classOf = some cls →
      os.readAs .segment none segmentOrNone = some seg → os.readAs .pinned false pinnedOf = some pin →
      let k := s.contexts.lowestFree
      let ctx (ext : Option Nat) : Context :=
        { tag := attachTag os, cls := cls, serving := none, sector := 0, segment := seg, pinned := pin, cands := [],
          ext := ext, lastReport := none }
      let done (ext : Option Nat) : Reply :=
        replyTo .attach r .done false .part (u16 k ++ bytes48 (attachTag os) ++ optField 2 u16 ext)
      (cls = .crane → os.has .segment = true → refused .wrongClass) ∧
      ((cls = .crane → os.has .segment = false) →
        ((s.findTag (attachTag os)).isSome → refused .duplicateTag) ∧
        (s.findTag (attachTag os) = none →
          (6144 ≤ k → refused .tableFull) ∧
          (k < 6144 →
            (cls = .crane → 32 ≤ s.links.lowestFree → refused .tableFull) ∧
            (cls = .reefer → 4096 ≤ s.reefers.lowestFree → refused .tableFull) ∧
            (cls = .vehicle ∨ cls = .handheld →
              exec (.attach r) s = .next (({ s with contexts := s.contexts.set k (ctx none) } : State).reply (done none))) ∧
            (cls = .crane → s.links.lowestFree < 32 →
              exec (.attach r) s = .next
                (({ s with
                    contexts := s.contexts.set k (ctx (some s.links.lowestFree))
                    links := s.links.set s.links.lowestFree
                      { owner := k, state := .idle, cause := none, period := 8, units := 12, holdLimit := 3,
                        missLimit := 4, cycle := none, current := none, next := none, repeats := 0, misses := 0,
                        heard := false, heardLast := false, feedback := none, assembly := none, sideBlock := none,
                        sideErrors := 0, down := none, waiting := none, releasePending := false,
                        phase := .none } } : State).reply
                  (done (some s.links.lowestFree)))) ∧
            (cls = .reefer → s.reefers.lowestFree < 4096 →
              exec (.attach r) s = .next
                (({ s with
                    contexts := s.contexts.set k (ctx (some s.reefers.lowestFree))
                    reefers := s.reefers.set s.reefers.lowestFree
                      { owner := k, supply := none, ret := none, setpoint := none, booked := none, flags := 0,
                        power := .mains, alarm := .none, persist := 0, lastDev := none, interval := 900, grace := 60,
                        age := 0, missed := 0, doze := .awake, pref := .deep, contact := .reachable, ackTimer := none,
                        page := none, poll := .none, overdueDue := false } } : State).reply
                  (done (some s.reefers.lowestFree)))))))

/-- R1, R2, R14: after an ATTACH answered DONE exactly one more slot is occupied. It was free and every slot below it
occupied; it holds the new context, whose tag no context held and which lookup by tag now finds; and every other slot and
every other tag are found as before. -/
def Obligations.AttachTakesTheLowestFreeSlot : Prop :=
  ∀ (r : Request) (s t : State) (a : Reply), s.tablesLaw → exec (.attach r) s = .next t →
    t.replies = s.replies ++ [a] → a.result = .done →
    ∃ k c, k < 6144 ∧ s.contexts.get? k = none ∧ (∀ j, j < k → (s.contexts.get? j).isSome) ∧
      t.contexts.get? k = some c ∧ (∀ j, j ≠ k → t.contexts.get? j = s.contexts.get? j) ∧
      s.findTag c.tag = none ∧ t.findTag c.tag = some (k, c) ∧
      (∀ tag, tag ≠ c.tag → t.findTag tag = s.findTag tag) ∧ t.contexts.length = s.contexts.length + 1

/-- R18, R19: a taken AMEND writes the segment and the pinned flag it carries and answers DONE with the resulting
values; a segment value that names nothing is refused BAD_OPTION, one with neither option MISSING_OPTION, and one with a
segment for a CRANE context WRONG_CLASS, its pinned option not applied either. That a pinned value that names nothing is
refused BAD_OPTION, and with the segment value, is the model's (log 13). The layout of the reply body is logs 7 and 8. -/
def Obligations.AmendWritesSegmentAndPinned : Prop :=
  ∀ (r : Request) (s : State) (k : Nat) (c : Context) (os : Options), names r s k c → carries .amend r os →
    (os.readAs .segment c.segment segmentOrNone = none ∨ os.readAs .pinned c.pinned pinnedOf = none →
      exec (.amend r) s = .next (s.reply (replyTo .amend r .badOption false (.context k c.tag) []))) ∧
    ∀ (seg : Option Segment) (pin : Bool), os.readAs .segment c.segment segmentOrNone = some seg →
      os.readAs .pinned c.pinned pinnedOf = some pin →
      (os = [] → exec (.amend r) s = .next (s.reply (replyTo .amend r .missingOption false (.context k c.tag) []))) ∧
      (c.cls = .crane → os.has .segment = true →
        exec (.amend r) s = .next (s.reply (replyTo .amend r .wrongClass false (.context k c.tag) []))) ∧
      (os ≠ [] → (c.cls = .crane → os.has .segment = false) →
        exec (.amend r) s = .next
          (({ s with
              contexts := s.contexts.modify k fun c => { c with segment := seg, pinned := pin } } : State).reply
            (replyTo .amend r .done false (.context k c.tag)
              (u16 k ++ bytes48 c.tag ++ [segmentByte seg] ++ mark pin))))

/-- R20 to R22: RETIRE removes a context. Of a VEHICLE or HANDHELD the slot is freed; of a CRANE whose link is IDLE
the link record too, its SIDE_DOWNs in flight being answered RETIRED in the order in which they were taken; in each
case DROP goes to the serving head, if any, the context's queued notices are withdrawn, and the reply is DONE with
handle and tag. A CRANE whose link is not IDLE is refused WRONG_STATE. The layout of the reply body is logs 7 and 8.
-/
def Obligations.RetireRemovesTheContext : Prop :=
  ∀ (r : Request) (s : State) (k : Nat) (c : Context), bare r → names r s k c →
    let dropped := s.orders ++ (match c.serving with | some h => [Order.drop h c.tag] | none => [])
    let kept := s.notices.filter fun n => n.subject != .context k
    let done := replyTo .retire r .done false (.context k c.tag) (u16 k ++ bytes48 c.tag)
    (c.cls = .vehicle ∨ c.cls = .handheld →
      exec (.retire r) s = .next
        { s with
          contexts := s.contexts.erase k, orders := dropped, notices := kept, replies := s.replies ++ [done] }) ∧
    ∀ l x, c.cls = .crane → c.ext = some l → s.links.get? l = some x →
      (x.state = .idle →
        exec (.retire r) s = .next
          { s with
            contexts := s.contexts.erase k, links := s.links.erase l, orders := dropped, notices := kept,
            inflight := s.inflight.filter fun e => !(e.kind == .sideDown && e.subject == .context k),
            replies := s.replies ++
              ((s.inflight.filter fun e => e.kind == .sideDown && e.subject == .context k).map fun e =>
                s.endReply e .retired) ++ [done] }) ∧
      (x.state ≠ .idle →
        exec (.retire r) s = .next (s.reply (replyTo .retire r .wrongState false (.context k c.tag) [])))

/-- R21, R22: RETIRE of a REEFER context is taken in every state of its record. A controller page is answered RETIRED; the
record leaves its page queue and its wait list; an outstanding poll's credit returns, which runs the sending head's
wait-list pass; DROP goes to the serving head behind whatever polls the credit allowed; the context's notices are withdrawn;
record and slot are freed; and the last reply is DONE. No other context, no link, head record or setting changes, of another
reefer's record the poll state alone, of another head's queues nothing but this record's place, and of the airtime only the
sending head's credits. The layout of the reply body is logs 7 and 8. -/
def Obligations.RetireEndsTheReefersWork : Prop :=
  ∀ (r : Request) (s : State) (k i : Nat) (c : Context) (x : Reefer), s.pageLaw → bare r → names r s k c →
    c.cls = .reefer → c.ext = some i → s.reefers.get? i = some x →
    let ended := s.endings (s.pageEntry i).toList .retired
    let left : State :=
      { s with
        pageQueues := mapEach (fun q => q.filter (· != i)) s.pageQueues
        pollWaits := mapEach (fun q => q.filter (· != i)) s.pollWaits
        reefers := s.reefers.modify i fun y => { y with page := none, poll := .none }
        inflight := ended.1, replies := ended.2 }
    let passed : State := match x.poll with
      | .outstanding h _ => (left.setAccount h { s.account h with polls := (s.account h).polls - 1 }).waitPass h
      | .none | .waiting => left
    ∃ t, exec (.retire r) s = .next t ∧
      t =
        { passed with
          contexts := s.contexts.erase k, reefers := passed.reefers.erase i
          notices := s.notices.filter fun n => n.subject != .context k
          orders := passed.orders ++ (match c.serving with | some h => [Order.drop h c.tag] | none => [])
          replies := ended.2 ++ [replyTo .retire r .done false (.context k c.tag) (u16 k ++ bytes48 c.tag)] } ∧
      t.reefers.get? i = none ∧
      (∀ h : HeadIx, t.pageQueue h = (s.pageQueue h).filter (· != i) ∧ i ∉ t.pollWait h) ∧
      (∀ j, j ≠ i → (t.reefers.get? j).map (fun y => { y with poll := .none }) =
        (s.reefers.get? j).map fun y => { y with poll := .none }) ∧
      (∀ h : HeadIx, (∀ n, x.poll ≠ .outstanding h n) →
        t.account h = s.account h ∧ t.pollWait h = (s.pollWait h).filter (· != i)) ∧
      (∀ h n, x.poll = .outstanding h n →
        t.account h = { s.account h with polls := (t.account h).polls } ∧
          (t.account h).polls ≤ max ((s.account h).polls - 1) (s.account h).wg) ∧
      t =
        { s with
          contexts := t.contexts, reefers := t.reefers, pageQueues := t.pageQueues, pollWaits := t.pollWaits,
          airtime := t.airtime, notices := t.notices, replies := t.replies, inflight := t.inflight,
          orders := t.orders }

/-! ### Heads (Chapter 2) -/

/-- R32: a head event that Table 2-2 gives no transition for, in the state where it is taken, is ignored: nothing changes
and it is not counted. A SYNC_LOST in STARTING is not ignored: it acts as R29 states. -/
def Obligations.IgnoredHeadEventsChangeNothing : Prop :=
  ∀ (b : Byte) (h : HeadIx) (short : Bool) (s : State), b.toNat = h.val →
    ((s.head h).state = .offline → ∀ i ∈ [Instr.syncLock b, .syncLost b, .lineFault b short], exec i s = .next s) ∧
    ((s.head h).state = .starting → exec (.headUp b) s = .next s ∧
      ((s.head h).locked = true → exec (.syncLock b) s = .next s) ∧
      exec (.syncLost b) s =
        .next (s.setHead h { s.head h with locked := false, lockTimer := some (s.head h).lockLimit })) ∧
    ((s.head h).state = .active → ∀ i ∈ [Instr.headUp b, .syncLock b], exec i s = .next s) ∧
    ((s.head h).state = .holdover → ∀ i ∈ [Instr.headUp b, .syncLost b], exec i s = .next s) ∧
    ((s.head h).state = .faulted →
      ∀ i ∈ [Instr.headUp b, .syncLock b, .syncLost b, .lineFault b short], exec i s = .next s)

/-- R27: HEAD_UP on an OFFLINE head moves it to STARTING, with its timers started; its sweep enters slot 0 (R40), so that
BEAM for slot 0 is the first order and the pages the slot suits follow; HEAD_STATE is posted; and the window is fitted to
⌊C/4⌋, the wait list being passed over when it grew. The only other changes are those pages and polls on this head. -/
def Obligations.HeadUpStartsTheHead : Prop :=
  ∀ (b : Byte) (h : HeadIx) (s : State), b.toNat = h.val → (s.head h).state = .offline →
    let x := s.head h
    let a := s.account h
    let up : Head :=
      { x with
        state := .starting, cause := .none, locked := false, startTimer := some x.startFrames,
        lockTimer := some x.lockLimit, holdoverTimer := none }
    let wg := min a.wreq (x.capacity / 4 - a.standing - a.prepared)
    ∃ t sent, exec (.headUp b) s = .next t ∧
      t = ((((s.setHead h up).enterSlot h 0).post (.head h) (.headState .starting .none (x.capacity / 4))).setAccount h
        { a with wg := wg }).passIfGrown h a.wg ∧
      t.head h = { up with sweep := some { slot := 0, remaining := 2 * x.active.dwell } } ∧
      (∀ g, g ≠ h → t.head g = s.head g ∧ t.account g = s.account g ∧ t.pollWait g = s.pollWait g) ∧
      (t.account h).list = a.list ∧ (t.account h).wreq = a.wreq ∧ (t.account h).wg = wg ∧
      t.orders = s.orders ++ .beam h (x.active.slot 0) :: sent ∧
      (∀ o ∈ sent, ∃ tag, o = .page h tag ∨ o = .poll h tag) ∧
      t.notices = (s.post (.head h) (.headState .starting .none (x.capacity / 4))).notices ∧
      PagesAndPollsOnly s t ∧
      t =
        { s with
          heads := t.heads, airtime := t.airtime, notices := t.notices, overflow := t.overflow, orders := t.orders,
          reefers := t.reefers, pollWaits := t.pollWaits }

/-- R28, R30, R34, R57, R63, R147: a head enters ACTIVE. In STARTING, SYNC_LOCK and the start timer expiry each make the
move when the other condition is met already, and otherwise only mark their own; in HOLDOVER, SYNC_LOCK makes it at once. On
entering, HEAD_STATE is posted, the window is fitted to C, and when it grew the wait list is passed over, so that waiting
polls go out. -/
def Obligations.LockAndStartTimerGiveActive : Prop :=
  ∀ (b : Byte) (h : HeadIx) (s : State), b.toNat = h.val →
    let x := s.head h
    let a := s.account h
    let up : State :=
      (((s.setHead h
          { x with
            state := .active, locked := true, startTimer := none, lockTimer := none, holdoverTimer := none }).post
        (.head h) (.headState .active x.cause x.capacity)).setAccount h
          { a with wg := min a.wreq (x.capacity - a.standing - a.prepared) }).passIfGrown h a.wg
    (x.state = .starting → x.locked = false → x.startTimer = none → exec (.syncLock b) s = .next up) ∧
    (x.state = .starting → x.locked = false → x.startTimer ≠ none →
      exec (.syncLock b) s = .next (s.setHead h { x with locked := true, lockTimer := none })) ∧
    (x.state = .starting → x.startTimer = some 0 → x.locked = true → exec (.startTimerExpiry h) s = .next up) ∧
    (x.state = .starting → x.startTimer = some 0 → x.locked = false →
      exec (.startTimerExpiry h) s = .next (s.setHead h { x with startTimer := none })) ∧
    (x.state = .holdover → exec (.syncLock b) s = .next up)

/-- R30, R35, R57, R121, R123: SYNC_LOST on an ACTIVE head moves it to HOLDOVER with its holdover timer started; every
prepared reservation on it is cancelled, oldest first, and its link's handover ended with the target's count kept and
HANDOVER_FAILED (TARGET_LOST) posted behind HEAD_STATE; standing reservations stay; the window is fitted to ⌊C/2⌋, and when
it grew the wait list is passed over. Nothing else changes. The premises rule out two link records in one slot and two
reservations of one link in one list (R49), which no run reaches. -/
def Obligations.LossOfLockGivesHoldover : Prop :=
  ∀ (b : Byte) (h : HeadIx) (s : State), s.tablesLaw → ((s.account h).list.map (·.owner)).Nodup → b.toNat = h.val →
    (s.head h).state = .active →
    let x := s.head h
    let a := s.account h
    let x' : Head := { x with state := .holdover, locked := false, holdoverTimer := some x.holdoverLimit }
    let standing := a.list.filter fun r => r.kind == .standing
    let wg := min a.wreq (x.capacity / 2 - a.standing)
    let told : State := a.preparedOwners.foldl (s.postFailed .targetLost)
      ((s.setHead h x').post (.head h) (.headState .holdover x.cause (x.capacity / 2)))
    ∃ t, exec (.syncLost b) s = .next t ∧
      t = (({ told with links := s.linksEnded a.preparedOwners } : State).setAccount h
        { a with list := standing, wg := wg }).passIfGrown h a.wg ∧
      t.head h = x' ∧ t.contexts = s.contexts ∧
      (∀ g, g ≠ h → t.head g = s.head g ∧ t.account g = s.account g ∧ t.pollWait g = s.pollWait g) ∧
      (t.account h).list = standing ∧ (t.account h).wreq = a.wreq ∧ (t.account h).wg = wg ∧
      (∀ l, t.links.get? l = (s.links.get? l).map fun k =>
        if l ∈ a.preparedOwners then { k with phase := .none } else k) ∧
      t =
        { s with
          heads := t.heads, airtime := t.airtime, links := t.links, notices := t.notices, overflow := t.overflow,
          orders := t.orders, reefers := t.reefers, pollWaits := t.pollWaits }

/-- The fault of a head (R4, R11, R29 to R31, R35 to R38, R65, R112, R124; Table 2-3): a LINE_FAULT in service, a
lock-wait expiry and a holdover expiry each move the head to FAULTED with their cause, stop its timers and its sweep and
apply a staged schedule; its airtime account is empty but for Wreq. Every context loses its entry for the head; one that
it served is left without a serving head, or, when its crane link is in a handover, is served by the target, where the
prepared reservation becomes standing. A link left behind goes from RUNNING or HOLDING to SAFE_STOP with cause
PATH_LOST; one in SAFE_STOP that held its standing reservation there takes that cause and loses its resume. Pages in the
head's queue end NO_PATH, its wait list is emptied, the polls it sent end. BEAM SILENT is sent, then a SERVE_ORDER for
each rescue. The notices are HEAD_STATE, HANDOVER_FAILED (TARGET_LOST), and for each context served SERVE_LOST with
HANDOVER_DONE (RESCUE) or CRANE_STATE; the replies NO_PATH in queue order, then DONE to a staged SWEEP_SET. The order of
BEAM and the SERVE_ORDERs is log 12's; that a link left behind keeps its heard flag until its next expiry is log 24's.
The premises are the laws that rule out reservations and handovers no run reaches. -/
def Obligations.FaultClearsTheHead : Prop :=
  ∀ (h : HeadIx) (s : State) (i : Instr) (cause : FaultCause), s.tablesLaw → s.ownershipLaw → s.airtimeLaw →
    s.handoverLaw → s.reservationLaw →
    ((∃ b short, b.toNat = h.val ∧ i = .lineFault b short ∧ (s.head h).state.inService = true ∧
        cause = if short then .lineShort else .lineOpen) ∨
      (i = .lockWaitExpiry h ∧ (s.head h).state = .starting ∧ (s.head h).lockTimer = some 0 ∧ cause = .noLock) ∨
      (i = .holdoverExpiry h ∧ (s.head h).state = .holdover ∧ (s.head h).holdoverTimer = some 0 ∧
        cause = .holdoverExpired)) →
    let a := s.account h
    let crane (c : Context) : Option (Nat × CraneLink) :=
      (if c.cls = .crane then c.ext else none).bind fun l => (s.links.get? l).map fun y => (l, y)
    let rescue (c : Context) : Option HeadIx :=
      if c.serving = some h then (crane c).bind fun y => y.2.phase.target? else none
    let stops (l : Nat) (y : CraneLink) : Bool :=
      y.phase == .none &&
        (y.state == .running || y.state == .holding || (y.state == .safeStop && s.holds .standing l h))
    let told (v : State) (e : Nat × Context) : State :=
      if e.2.serving = some h then
        let lost := v.post (.context e.1) .serveLost
        match rescue e.2 with
        | some g => lost.post (.context e.1) (.handoverDone (some h) g .rescue)
        | none =>
          if (crane e.2).any fun y => stops y.1 y.2 then
            lost.post (.context e.1) (.craneState .safeStop (some .pathLost))
          else lost
      else v
    let posted : State := s.contexts.foldl told
      (a.preparedOwners.foldl (s.postFailed .targetLost) (s.post (.head h) (.headState .faulted cause 0)))
    let pages := s.endings ((s.pageQueue h).filterMap s.pageEntry) .noPath
    ∃ t, exec i s = .next t ∧
      t.head h =
        { s.head h with
          state := .faulted, cause := cause, startTimer := none, lockTimer := none, holdoverTimer := none, sweep := none,
          active := (s.head h).staged.getD (s.head h).active, staged := none } ∧
      (∀ g, g ≠ h → t.head g = s.head g) ∧
      t.account h = { list := [], wreq := a.wreq, wg := 0, polls := 0 } ∧
      (∀ g, g ≠ h → t.account g =
        { s.account g with
          list := (s.account g).list.map fun q =>
            if q.kind == .prepared && s.linkServing q.owner == some h then { q with kind := .standing } else q }) ∧
      (∀ e ∈ t.contexts, e.2.serving ≠ some h ∧ ∀ y ∈ e.2.cands, y.head ≠ h) ∧
      t.contexts = s.contexts.map (fun e =>
        let kept := e.2.cands.filter fun y => y.head != h
        (e.1, match rescue e.2 with
          | some g =>
            { e.2 with
              serving := some g
              sector := ((kept.find? fun y => y.head == g).map (·.sector)).getD e.2.sector
              cands := kept.map fun y => { y with ttt := 0, missing := if y.head = g then 0 else y.missing } }
          | none => { e.2 with cands := kept, serving := if e.2.serving = some h then none else e.2.serving })) ∧
      t.links = s.links.map (fun e =>
        (e.1,
          if s.linkServing e.1 = some h ∧ stops e.1 e.2 = true then
            { e.2 with state := .safeStop, cause := some .pathLost, next := none }
          else if s.linkServing e.1 = some h ∨ e.2.phase.target? = some h then { e.2 with phase := .none }
          else e.2)) ∧
      t.pageQueue h = [] ∧ t.pollWait h = [] ∧
      (∀ g, g ≠ h → t.pollWait g = s.pollWait g ∧ (s.pageLaw → t.pageQueue g = s.pageQueue g)) ∧
      (∀ e ∈ t.reefers, ∀ n, e.2.poll ≠ .outstanding h n) ∧
      t.reefers = s.reefers.map (fun e =>
        (e.1,
          { e.2 with
            page := if (s.pageQueue h).contains e.1 then none else e.2.page
            poll := if (s.pollWait h).contains e.1 then .none
              else match e.2.poll with
                | .outstanding g n => if g = h then .none else .outstanding g n
                | q => q })) ∧
      t.orders = s.orders ++ .beam h none :: s.contexts.filterMap (fun e =>
        (rescue e.2).map fun g => Order.serveOrder e.2.tag (some h) g) ∧
      t.notices = posted.notices ∧ t.overflow = posted.overflow ∧
      ((s.pageQueue h).Nodup →
        (t.inflight, t.replies) =
          if (s.head h).staged.isSome then s.ending pages (InFlight.isFor .sweepSet (.head h)) .done else pages) ∧
      t =
        { s with
          heads := t.heads, airtime := t.airtime, contexts := t.contexts, links := t.links, reefers := t.reefers,
          pageQueues := t.pageQueues, pollWaits := t.pollWaits, notices := t.notices, overflow := t.overflow,
          orders := t.orders, inflight := t.inflight, replies := t.replies }

/-- R33: HEAD_CLEAR on a FAULTED head moves it to OFFLINE, keeping the fault cause, posts HEAD_STATE, leaves Wg at
zero and answers DONE with head index and cause; in every other state it is refused WRONG_STATE. The layout of the
reply body is logs 7 and 8. -/
def Obligations.HeadClearReturnsTheHeadToOffline : Prop :=
  ∀ (r : Request) (h : HeadIx) (s : State), bare r → namesHead r h →
    ((s.head h).state = .faulted →
      exec (.headClear r) s = .next
        ((((s.setHead h { s.head h with state := .offline }).post (.head h)
            (.headState .offline (s.head h).cause 0)).setAccount h { s.account h with wg := 0 }).reply
          (replyTo .headClear r .done false (.head h) (u8 h.val ++ [(s.head h).cause.code])))) ∧
    ((s.head h).state ≠ .faulted →
      exec (.headClear r) s = .next (s.reply (replyTo .headClear r .wrongState false (.head h) [])))

/-- R40, R41, R151: at a dwell expiry the sweep enters the next slot; or it wraps: a staged schedule becomes the active one
and its SWEEP_SET is answered DONE, then each page of the head's queue whose reefer is in DEEP_DOZE, in SLOT_WAIT or SENT,
and whose serving sector the active schedule does not cover ends NOT_COVERED, a controller page being answered, and then
slot 0 is entered. The slot entry sends BEAM ahead of the pages released there, and a SILENT slot releases none. -/
def Obligations.DwellExpiryAdvancesTheSweep : Prop :=
  ∀ (h : HeadIx) (s : State) (p : SweepPos), (s.head h).sweep = some p → p.remaining = 0 →
    let x := s.head h
    (p.slot + 1 < x.active.count →
      ∃ t sent, exec (.dwellExpiry h) s = .next t ∧ t = s.enterSlot h (p.slot + 1) ∧
        t.head h = { x with sweep := some { slot := p.slot + 1, remaining := 2 * x.active.dwell } } ∧
        (∀ g, g ≠ h → t.head g = s.head g) ∧
        t.orders = s.orders ++ .beam h (x.active.slot (p.slot + 1)) :: sent ∧
        (∀ o ∈ sent, ∃ tag, o = .page h tag) ∧ (x.active.slot (p.slot + 1) = none → sent = []) ∧
        PagesAndPollsOnly s t ∧ t = { s with heads := t.heads, orders := t.orders, reefers := t.reefers }) ∧
    (x.active.count ≤ p.slot + 1 →
      let d := x.staged.getD x.active
      let gone := (s.pageQueue h).filter fun i => (s.reefers.get? i).any fun r =>
        r.doze == .deep && r.page.any (fun q => q.phase != .ackWait) &&
          (s.contexts.get? r.owner).any fun c => !d.covers c.sector
      let applied := s.endings (if x.staged.isSome then [InFlight.isFor .sweepSet (.head h)] else []) .done
      let ended := (gone.filterMap s.pageEntry).foldl (fun v q => s.ending v q .notCovered) applied
      let wrapped : State :=
        { s.setHead h { x with active := d, staged := none } with
          inflight := ended.1, replies := ended.2
          reefers := s.reefers.map fun e => if gone.contains e.1 then (e.1, { e.2 with page := none }) else e
          pageQueues := mapEach (fun q => q.filter fun i => !gone.contains i) s.pageQueues }
      ∃ t sent, exec (.dwellExpiry h) s = .next t ∧ ((s.pageQueue h).Nodup → t = wrapped.enterSlot h 0) ∧
        t.head h = { x with active := d, staged := none, sweep := some { slot := 0, remaining := 2 * d.dwell } } ∧
        (∀ g, g ≠ h → t.head g = s.head g) ∧
        t.orders = s.orders ++ .beam h (d.slot 0) :: sent ∧ (∀ o ∈ sent, ∃ tag, o = .page h tag) ∧
        (d.slot 0 = none → sent = []) ∧ PagesAndPollsOnly s t ∧
        t =
          { s with
            heads := t.heads, orders := t.orders, reefers := t.reefers, pageQueues := t.pageQueues,
            inflight := t.inflight, replies := t.replies })

/-- R40, R151: a slot entry makes the slot the current one with 2 D frames of dwell and sends BEAM for it; when the slot
names a sector, the pages of the head's queue that wait for a slot are sent, in queue order, when the reefer is in
LIGHT_DOZE, or in DEEP_DOZE with that serving sector: one PAGE order each, phase SENT, the timer at the page-answer limit;
every other page and record is left as it is, and a SILENT slot sends none. -/
def Obligations.SlotEntrySendsTheSuitedPages : Prop :=
  ∀ (s : State) (h : HeadIx),
    (∀ k : Nat,
      let d := (s.head h).active
      let entered : State :=
        { s.setHead h { s.head h with sweep := some { slot := k, remaining := 2 * d.dwell } } with
          orders := s.orders ++ [.beam h (d.slot k)] }
      (∀ sec, d.slot k = some sec → s.enterSlot h k = entered.releasePages h sec) ∧
      (d.slot k = none → s.enterSlot h k = entered)) ∧
    ∀ sec : Sector, (s.pageQueue h).Nodup →
      (∀ i, s.suits i sec = true ↔ ∃ r c p, s.reefers.get? i = some r ∧ s.contexts.get? r.owner = some c ∧
        r.page = some p ∧ p.phase = .slotWait ∧ (r.doze = .light ∨ r.doze = .deep ∧ c.sector = sec)) ∧
      (∀ i, (s.releasePages h sec).reefers.get? i = (s.reefers.get? i).map fun r =>
        if i ∈ s.pageQueue h ∧ s.suits i sec = true then
          { r with page := r.page.map fun p => { p with phase := .sent s.settings.pageLimit } }
        else r) ∧
      (s.releasePages h sec).orders = s.orders ++ ((s.pageQueue h).filter (s.suits · sec)).filterMap (fun i =>
        (s.reeferContext i).map fun c => Order.page h c.tag) ∧
      (s.releasePages h sec) =
        { s with orders := (s.releasePages h sec).orders, reefers := (s.releasePages h sec).reefers }

/-- R44, R45, R61, R62, R57, R123: HEAD_CONFIG is refused BAD_OPTION for a span value that names no segment,
MISSING_OPTION without an option, BAD_OPTION for a resulting span whose first is above its last and for a capacity below
S. Else it writes its settings, clamped, and answers DONE with the resulting C and E. Without a capacity nothing else
changes; with one, where S + P exceeds the new E prepared reservations go, the newest first, until it does not, each
handover ending with HANDOVER_FAILED (CAPACITY) and its counts kept, and Wg is fitted to the new E, the wait list being
passed over when it grew; the premises there rule out two link records in one slot and two reservations of one link in
one list, which no run reaches. The layout of the reply body is logs 7 and 8. -/
def Obligations.HeadConfigWritesTheSettings : Prop :=
  ∀ (r : Request) (h : HeadIx) (s : State) (os : Options), namesHead r h → carries .headConfig r os →
    let x := s.head h
    let a := s.account h
    let refused (res : Result) : Prop :=
      exec (.headConfig r) s = .next (s.reply (replyTo .headConfig r res false (.head h) []))
    (os.readAs .spanFirst x.spanFirst segmentOf = none ∨ os.readAs .spanLast x.spanLast segmentOf = none →
      refused .badOption) ∧
    ∀ first last : Segment, os.readAs .spanFirst x.spanFirst segmentOf = some first →
      os.readAs .spanLast x.spanLast segmentOf = some last →
      (os = [] → refused .missingOption) ∧ (os ≠ [] → last < first → refused .badOption) ∧
      (os ≠ [] → first ≤ last →
        let c := settingOf 16 240 x.capacity (os.nat .capacity)
        let x' : Head :=
          { x with
            capacity := c, startFrames := settingOf 1 65535 x.startFrames (os.nat .startFrames),
            lockLimit := settingOf 1 65535 x.lockLimit (os.nat .lockLimit),
            holdoverLimit := settingOf 1 65535 x.holdoverLimit (os.nat .holdoverLimit), spanFirst := first,
            spanLast := last }
        let clamped := outOf 16 240 (os.nat .capacity) || outOf 1 65535 (os.nat .startFrames) ||
          outOf 1 65535 (os.nat .lockLimit) || outOf 1 65535 (os.nat .holdoverLimit)
        let done := replyTo .headConfig r .done clamped (.head h) (u8 c ++ u8 x'.effective)
        let units := (a.list.filter fun q => q.kind == .prepared).map (·.units)
        (os.has .capacity = false → exec (.headConfig r) s = .next ((s.setHead h x').reply done)) ∧
        (os.has .capacity = true → c < a.standing → refused .badOption) ∧
        (os.has .capacity = true → a.standing ≤ c → s.tablesLaw → (a.list.map (·.owner)).Nodup →
          ∃ t n, exec (.headConfig r) s = .next (t.reply done) ∧
            (a.standing + (units.take n).sum ≤ x'.effective ∨ n = 0) ∧ n ≤ units.length ∧
            (∀ m, n < m → m ≤ units.length → x'.effective < a.standing + (units.take m).sum) ∧
            (let gone := a.preparedOwners.drop n
             let told : State := gone.reverse.foldl (s.postFailed .capacity) (s.setHead h x')
             let wg := min a.wreq (x'.effective - a.standing - (units.take n).sum)
             t = (({ told with links := s.linksEnded gone } : State).setAccount h
               { a with
                 list := a.list.filter fun q => !(q.kind == .prepared && gone.contains q.owner)
                 wg := wg }).passIfGrown h a.wg) ∧
            t.head h = x' ∧ (∀ g, g ≠ h → t.head g = s.head g) ∧
            (t.account h).standingOwners = a.standingOwners ∧ (t.account h).preparedOwners = a.preparedOwners.take n ∧
            t.replies = s.replies ∧ t.contexts = s.contexts))

/-- R42, R43, R161: SWEEP_SET gives a head a new schedule, count and dwell clamped, the slots beyond those given SILENT. On
a head out of service it is the active schedule at once and answered DONE; on one in service it is staged and the request
joins the in-flight list, a request that staged a schedule before being answered REPLACED. A slot value that names nothing
is refused BAD_OPTION, and then a full in-flight list BUSY. -/
def Obligations.SweepSetStagesOrApplies : Prop :=
  ∀ (r : Request) (h : HeadIx) (s : State) (os : Options), namesHead r h → carries .sweepSet r os →
    let x := s.head h
    (slotsOf ((os.bytes .slots).getD []) = none →
      exec (.sweepSet r) s = .next (s.reply (replyTo .sweepSet r .badOption false (.head h) []))) ∧
    ∀ xs, slotsOf ((os.bytes .slots).getD []) = some xs →
      let d : Schedule :=
        { slots := padSlots xs, count := settingOf 1 16 xs.length (os.nat .count),
          dwell := settingOf 1 255 x.active.dwell (os.nat .dwell) }
      let clamped := outOf 1 16 (os.nat .count) || outOf 1 255 (os.nat .dwell)
      let entry : InFlight := { reqTag := r.reqTag, kind := .sweepSet, subject := .head h, clamped := clamped }
      (64 ≤ s.inflight.length →
        exec (.sweepSet r) s = .next (s.reply (replyTo .sweepSet r .busy false (.head h) []))) ∧
      (s.inflight.length < 64 → x.state.inService = false →
        exec (.sweepSet r) s = .next
          ((s.setHead h { x with active := d }).reply (replyTo .sweepSet r .done clamped (.head h) []))) ∧
      (s.inflight.length < 64 → x.state.inService = true → x.staged = none →
        exec (.sweepSet r) s = .next
          { s.setHead h { x with staged := some d } with inflight := s.inflight ++ [entry] }) ∧
      (∀ e, s.inflight.length < 64 → x.state.inService = true → x.staged.isSome →
        s.inflight.find? (InFlight.isFor .sweepSet (.head h)) = some e →
        exec (.sweepSet r) s = .next
          { s.setHead h { x with staged := some d } with
            inflight := (s.inflight.eraseP (InFlight.isFor .sweepSet (.head h))) ++ [entry]
            replies := s.replies ++
              [{ reqTag := e.reqTag, kind := 0x13, result := .replaced, clamped := e.clamped, identity := .head h,
                 body := [] }] })

/-! ### Airtime (Chapter 3) -/

/-- R64, R57, R147: POLL_WINDOW_SET sets Wreq, clamped to 0..240, and fits Wg in the same step; when Wg grew the wait list
is passed over, which sends the polls the window allows; and it answers DONE with Wreq, Wg and the outstanding poll count.
The layout of the reply body is logs 7 and 8. -/
def Obligations.PollWindowSetFitsTheWindow : Prop :=
  ∀ (r : Request) (h : HeadIx) (s : State) (os : Options), namesHead r h → carries .pollWindowSet r os →
    let a := s.account h
    let w := settingOf 0 240 a.wreq (os.nat .window)
    let wg := min w ((s.head h).effective - a.standing - a.prepared)
    let t := (s.setAccount h { a with wreq := w, wg := wg }).passIfGrown h a.wg
    exec (.pollWindowSet r) s = .next (t.reply (replyTo .pollWindowSet r .done (outOf 0 240 (os.nat .window)) (.head h)
      (u8 h.val ++ u8 w ++ u8 wg ++ u8 (t.account h).polls)))

/-- R59, R147: a wait-list pass on a head in service polls its oldest waiting reefers, one credit each, until Wg credits are
out or nobody waits: POLL goes out through the head with the tag of each, in the order of the list, and each becomes
OUTSTANDING with its timer at the poll-answer limit; on a head out of service it polls none. -/
def Obligations.WaitListPassPollsTheOldest : Prop :=
  ∀ (s : State) (h : HeadIx), (s.pollWait h).Nodup → (∀ i ∈ s.pollWait h, (s.reeferContext i).isSome) →
    let t := s.waitPass h
    let n := if (s.head h).state.inService then min (s.pollWait h).length ((s.account h).wg - (s.account h).polls) else 0
    PolledThrough h s t ∧ t.pollWait h = (s.pollWait h).drop n ∧ (t.account h).polls = (s.account h).polls + n ∧
      t.orders = s.orders ++ ((s.pollWait h).take n).filterMap (fun i =>
        (s.reeferContext i).map fun c => Order.poll h c.tag) ∧
      ∀ i ∈ (s.pollWait h).take n, t.reefers.get? i = (s.reefers.get? i).map fun r =>
        { r with poll := .outstanding h s.settings.pollLimit }

/-! ### Measurement (Chapter 4) -/

/-- R71: the filter step. With shift k and Δ = T - F the new F is F plus Δ over 2^k truncated toward zero; with k = 0 it is
T; it never passes T nor leaves 0..3520; it stays exactly when the difference is smaller than 2^k, and comes nearer
otherwise, so that a steady T is approached until it stays; and a new entry starts at F = T. -/
def Obligations.FilterStepApproachesItsTarget : Prop :=
  (∀ k f t : Nat, k ≤ 6 → f ≤ 3520 → t ≤ 3520 →
    (filterStep k f t : Int) = f + ((t : Int) - f).tdiv (2 ^ k) ∧ (k = 0 → filterStep k f t = t) ∧
    min f t ≤ filterStep k f t ∧ filterStep k f t ≤ max f t ∧ filterStep k f t ≤ 3520 ∧
    (filterStep k f t = f ↔ ((t : Int) - f).natAbs < 2 ^ k) ∧
    (2 ^ k ≤ ((t : Int) - f).natAbs →
      ((t : Int) - filterStep k f t).natAbs < ((t : Int) - f).natAbs) ∧
    ∃ n, ((t : Int) - Nat.repeat (fun g => filterStep k g t) n f).natAbs < 2 ^ k) ∧
  ∀ (s : State) (c : Context) (kept : Option HeadIx) (l : List Candidate) (a : Accepted) (e : Candidate),
    e ∈ takeNewHead s c kept l a → e ∈ l ∨
      e = { head := a.head, sector := a.sector, level := a.target, ttt := 0, missing := 0, score := 0 }

/-- Stages 1 and 2 of a report (R69, R72 to R77, R80, R10, R174). The first four entries are read; one is accepted when it
names a head in service, a sector 0..7 and no head accepted before it, with T = 16 min(220, code). Stage 1 filters or ages
every entry of the list and then takes the accepted heads that have none as new heads in report order (which are new is
settled once, log 19). An entry whose head is accepted takes a filter step toward its T, the new sector and absent count 0;
the serving entry, when not accepted, a filter step toward 0; any other its absent count one higher, and at 3 it is removed,
or kept at 2 as the target of a handover (R117). A new head joins a list of fewer than four; in a full one it replaces the
lowest open entry, when its own score is strictly higher. Each score is F - LP - SP + O, not below 0, and the list stands in
list order. -/
def Obligations.ReportsFilterScoreAndOrderTheList : Prop :=
  (∀ (s : State) (es : List MeasEntry),
    acceptedEntries s [] = [] ∧ acceptedEntries s es = acceptedEntries s (es.take 4) ∧
    ∀ e : MeasEntry, es.length < 4 →
      let acc := acceptedEntries s es
      (∀ (h : HeadIx) (x : Sector), e.head.toNat = h.val → e.sector.toNat = x.val →
        (s.head h).state ∈ [HeadState.starting, .active, .holdover] → (∀ a ∈ acc, a.head ≠ h) →
        acceptedEntries s (es ++ [e]) = acc ++ [{ head := h, sector := x, target := 16 * min 220 e.level.toNat }]) ∧
      (24 ≤ e.head.toNat ∨ 8 ≤ e.sector.toNat → acceptedEntries s (es ++ [e]) = acc) ∧
      (∀ h : HeadIx, e.head.toNat = h.val →
        (s.head h).state ∈ [HeadState.offline, .faulted] ∨ (∃ a ∈ acc, a.head = h) →
        acceptedEntries s (es ++ [e]) = acc)) ∧
  (∀ (s : State) (c : Context) (kept : Option HeadIx) (acc : List Accepted),
    let list := c.cands.filterMap (filterEntry (s.params.get c.cls).shift acc c.serving kept)
    stageFilter s c kept acc =
      (acc.filter fun a => list.all fun e => e.head != a.head).foldl (takeNewHead s c kept) list) ∧
  (∀ (k : Nat) (acc : List Accepted) (serving kept : Option HeadIx) (e : Candidate),
    (∀ a, acc.find? (fun a => a.head == e.head) = some a → filterEntry k acc serving kept e =
      some { e with level := filterStep k e.level a.target, sector := a.sector, missing := 0 }) ∧
    ((∀ a ∈ acc, a.head ≠ e.head) →
      (serving = some e.head → filterEntry k acc serving kept e = some { e with level := filterStep k e.level 0 }) ∧
      (serving ≠ some e.head → e.missing < 2 →
        filterEntry k acc serving kept e = some { e with missing := e.missing + 1 }) ∧
      (serving ≠ some e.head → 2 ≤ e.missing →
        filterEntry k acc serving kept e = if kept = some e.head then some { e with missing := 2 } else none))) ∧
  (∀ (s : State) (c : Context) (kept : Option HeadIx) (l : List Candidate) (a : Accepted),
    let new : Candidate :=
      { head := a.head, sector := a.sector, level := a.target, ttt := 0, missing := 0, score := 0 }
    let score (x : Candidate) : Nat := scoreOf s c x.head x.level
    let open_ (x : Candidate) : Prop := c.serving ≠ some x.head ∧ kept ≠ some x.head
    (l.length < 4 → takeNewHead s c kept l a = l ++ [new]) ∧
    (4 ≤ l.length →
      (∀ w ∈ l, open_ w → score w < score new →
        (∀ x ∈ l, open_ x → score w < score x ∨ score w = score x ∧ x.head ≤ w.head) →
        takeNewHead s c kept l a = (l.filter fun x => x.head != w.head) ++ [new]) ∧
      ((∀ w ∈ l, open_ w → score new ≤ score w) → takeNewHead s c kept l a = l))) ∧
  ∀ (s : State) (c : Context) (l : List Candidate),
    let load (h : HeadIx) : Nat :=
      let e := (s.head h).effective
      let u := (s.account h).committed - s.ownUnits h (if c.cls = .crane then c.ext else none)
      if e ≤ u then s.loadWeight else s.loadWeight * u / e
    let shade (h : HeadIx) : Nat := match c.segment with | some g => 64 * (s.shadow.get h).get g | none => 0
    (stageScore s c l).Perm (l.map fun e =>
      { e with
        score := ((e.level : Int) - load e.head - shade e.head + (s.params.get c.cls).offset).toNat }) ∧
    (stageScore s c l).Pairwise fun x y => y.score < x.score ∨ x.score = y.score ∧ x.head ≤ y.head

/-- R83, R4, R5, R8: a report of a context without a serving head makes the first entry of the list after stage 2 its
serving head, whatever class, pinned flag and link state: sector as heard, absent count of that entry 0, every TTT count 0,
SERVE_ORDER sent, HANDOVER_DONE posted with cause ENTRY; with an empty list nothing but the last report frame changes. -/
def Obligations.ReportsServeAContextAgain : Prop :=
  ∀ (tag : Tag) (es : List MeasEntry) (s : State) (k : Nat) (c : Context), s.findTag tag = some (k, c) →
    c.serving = none →
    let scored := stageScore s c (stageFilter s c (s.handoverTarget c) (acceptedEntries s es))
    (scored = [] → exec (.measurementReport tag es) s =
      .next { s with
        contexts := s.contexts.modify k fun c => { c with cands := [], lastReport := some s.frame } }) ∧
    ∀ e rest, scored = e :: rest →
      exec (.measurementReport tag es) s =
        .next (({ s with
            contexts := s.contexts.modify k fun c =>
              { c with
                serving := some e.head, sector := e.sector, lastReport := some s.frame
                cands := scored.map fun x =>
                  { x with ttt := 0, missing := if x.head = e.head then 0 else x.missing } }
            orders := s.orders ++ [.serveOrder tag none e.head] } : State).post (.context k)
          (.handoverDone none e.head .entry))

/-- Stages 4 and 5 of a report of a served context (R84 to R89, R117). Each non-serving entry that beats the serving score
by more than 16 H counts one up, not above TTT, and any other returns to 0. When the context is pinned, its link in a
handover, or no entry on an eligible head stands at TTT, nothing else happens. Else the first such entry is the candidate:
a context without a standing reservation is handed over at once, with HANDOVER_DONE; of a reefer the page moves to the new
head's queue, or ends FAILED (contact becoming UNREACHABLE), NOT_COVERED or NO_PATH, a controller page with its reply, and
the poll wait moves, the new head's wait list being passed over (R88, R89); a crane holding a standing reservation has a
prepared one of the same units admitted there, when the head is ACTIVE and has room, and its phase becomes PREPARED, or
HANDOVER_BLOCKED is posted. -/
def Obligations.ReportsHandServedContextsOver : Prop :=
  ∀ (tag : Tag) (es : List MeasEntry) (s : State) (k : Nat) (c : Context) (h : HeadIx) (sv : Candidate),
    s.tablesLaw → s.ownershipLaw → s.candidateLaw → s.airtimeLaw → s.findTag tag = some (k, c) → c.serving = some h →
    let scored := stageScore s c (stageFilter s c (s.handoverTarget c) (acceptedEntries s es))
    let p := s.params.get c.cls
    let counted := scored.map fun e =>
      { e with
        ttt := if e.head = h then 0 else if sv.score + 16 * p.hysteresis < e.score then min p.ttt (e.ttt + 1) else 0 }
    let filed (c' : Context) : Context :=
      { c' with cands := counted, sector := sv.sector, lastReport := some s.frame }
    let s' : State := { s with contexts := s.contexts.modify k filed }
    let standing := (if c.cls = .crane then c.ext else none).bind fun l =>
      (s.reservation .standing l).map fun r => (l, r.2)
    let atTrigger (e : Candidate) : Bool := e.head != h && e.ttt == p.ttt &&
      if standing.isSome then (s.head e.head).state == .active else (s.head e.head).state.inService
    scored.find? (fun e => e.head == h) = some sv →
    (c.pinned = true ∨ (s.handoverTarget c).isSome ∨ counted.find? atTrigger = none →
      exec (.measurementReport tag es) s = .next s') ∧
    ∀ e, c.pinned = false → s.handoverTarget c = none → counted.find? atTrigger = some e →
      let moved : Table Context := s.contexts.modify k fun c =>
        { filed c with
          serving := some e.head, sector := e.sector
          cands := counted.map fun x => { x with ttt := 0, missing := if x.head = e.head then 0 else x.missing } }
      (c.cls ≠ .reefer → standing = none →
        exec (.measurementReport tag es) s =
          .next (({ s with
              contexts := moved, orders := s.orders ++ [.serveOrder tag (some h) e.head] } : State).post (.context k)
            (.handoverDone (some h) e.head .trigger))) ∧
      (∀ i r, c.cls = .reefer → c.ext = some i → s.reefers.get? i = some r →
        ∃ t : State, exec (.measurementReport tag es) s = .next t ∧ t.contexts = moved ∧
          (∃ polls, t.orders = s.orders ++ .serveOrder tag (some h) e.head :: polls ∧
            ∀ o ∈ polls, ∃ g, o = .poll e.head g) ∧
          (r.page = none → t.pageQueues = s.pageQueues) ∧
          (∀ p, r.page = some p →
            let again := match p.phase with | .sent _ => true | _ => false
            let p' : Page :=
              { p with
                attempts := if again then p.attempts + 1 else p.attempts
                phase := if again then .slotWait else p.phase }
            let moves : Prop := p'.attempts < 2 ∧ (r.doze = .deep → (s.head e.head).covers e.sector) ∧
              (s.pageQueue e.head).length < 32
            (moves → (t.reefers.get? i).map (·.page) = some (some p') ∧
              t.pageQueue e.head = ((s.pageQueue e.head).filter (· != i)) ++ [i]) ∧
            (¬ moves → (t.reefers.get? i).map (·.page) = some none ∧
              t.pageQueue e.head = (s.pageQueue e.head).filter (· != i)) ∧
            ∀ g, g ≠ e.head → t.pageQueue g = (s.pageQueue g).filter (· != i)) ∧
          (r.poll ≠ .waiting → t.pollWaits = s.pollWaits) ∧
          (r.poll = .waiting →
            (∃ n, t.pollWait e.head = (((s.pollWait e.head).filter (· != i)) ++ [i]).drop n) ∧
            ∀ g, g ≠ e.head → t.pollWait g = (s.pollWait g).filter (· != i)) ∧
          t.links = s.links ∧ t.heads = s.heads) ∧
      (∀ i r, c.cls = .reefer → c.ext = some i → s.reefers.get? i = some r →
        let without (q : List Nat) : List Nat := q.filter (· != i)
        let started : State :=
          { s with contexts := moved, orders := s.orders ++ [.serveOrder tag (some h) e.head] }
        /- the page: moved to the tail of the new head's queue, or ended, FAILED making the reefer UNREACHABLE (R88) -/
        let paged : State := match r.page with
          | none => started
          | some p =>
            let again := match p.phase with | .sent _ => true | _ => false
            let attempts := if again then p.attempts + 1 else p.attempts
            let left : State := { started with pageQueues := mapEach without s.pageQueues }
            let ended (res : Result) : State :=
              { left with
                reefers := s.reefers.modify i fun y => { y with page := none }
                inflight := (s.endings (s.pageEntry i).toList res).1
                replies := (s.endings (s.pageEntry i).toList res).2 }
            if 2 ≤ attempts then
              if r.contact = .unreachable then ended .failed
              else ({ ended .failed with
                reefers := s.reefers.modify i fun y => { y with page := none, contact := .unreachable } } : State).post
                (.context k) (.reeferContact .unreachable r.doze)
            else if r.doze = .deep ∧ ¬ (s.head e.head).covers e.sector then ended .notCovered
            else if (s.pageQueue e.head).length < 32 then
              ({ left with
                reefers := s.reefers.modify i fun y =>
                  { y with
                    page := y.page.map fun p =>
                      { p with attempts := attempts, phase := if again then .slotWait else p.phase } } } :
                State).setPageQueue e.head (without (s.pageQueue e.head) ++ [i])
            else ended .noPath
        let passed : State := if r.poll = .waiting
          then (({ paged with pollWaits := mapEach without s.pollWaits } : State).setPollWait e.head
            (without (s.pollWait e.head) ++ [i])).waitPass e.head
          else paged
        exec (.measurementReport tag es) s =
          .next (passed.post (.context k) (.handoverDone (some h) e.head .trigger))) ∧
      ∀ l u, standing = some (l, u) →
        let a := s.account e.head
        let fits : Prop := a.standing + a.prepared + u ≤ (s.head e.head).effective
        let free : Prop := (∀ r, s.reservation .standing l = some r → r.1 ≠ e.head) ∧ s.reservation .prepared l = none
        (fits ∧ free → exec (.measurementReport tag es) s =
          .next (({ s' with links := s.links.modify l fun x => { x with phase := .prepared e.head } } : State).setAccount
            e.head
            { a with
              list := a.list ++ [{ kind := .prepared, units := u, owner := l }]
              wg := min a.wreq ((s.head e.head).effective - a.standing - a.prepared - u) })) ∧
        (¬ (fits ∧ free) → exec (.measurementReport tag es) s =
          .next (s'.post (.context k) (.handoverBlocked e.head)))

/-! ### Settings of the coverage unit and of the part (Chapters 4 and 9) -/

/-- SHADOW_SET writes its run of segments, each value clamped to 15, and no other segment; it is refused BAD_OPTION for
a segment code that names no segment, a run that falls and a list of another length (R78). CLASS_PARAMS writes the four
parameters of the named class and W, clamped, caps the TTT counts of that class's entries at a new TTT and reports the
class; without a class it takes W alone, and is refused MISSING_OPTION with any other option or none, BAD_OPTION for a
class code that names no class (R81, R82). PART_CONFIG writes the eight settings, clamped, when the result is
consistent, and is refused BAD_OPTION otherwise (R135, R155, R164). PART_STATUS reports the status and then clears the
notice-overflow flag and the unmatched-uplink count (R165). The layout of the reply bodies is logs 7 and 8, and that of
CLASS_PARAMS, which has no count byte, log 9. -/
def Obligations.CoverageAndPartSettingsAreWritten : Prop :=
  ∀ (r : Request) (s : State) (os : Options),
    (∀ (h : HeadIx) (first last : Segment) (vs : List Nat), namesHead r h → carries .shadowSet r os →
      os.readAs .firstSegment (s.head h).spanFirst segmentOf = some first →
      os.readAs .lastSegment (s.head h).spanLast segmentOf = some last →
      ((os.bytes .values).getD []).map (·.toNat) = vs →
      let run := last.val - first.val + 1
      (first ≤ last → (vs.length = 1 ∨ vs.length = run) →
        ∃ t : State, exec (.shadowSet r) s = .next (t.reply (replyTo .shadowSet r .done (vs.any (15 < ·)) (.head h)
            (u8 h.val ++ u8 first.val ++ u8 last.val))) ∧
          t = { s with shadow := t.shadow } ∧
          ∀ (g : HeadIx) (x : Segment), t.shadowAt g x =
            if g = h ∧ first ≤ x ∧ x ≤ last then
              min 15 ((vs[if vs.length = 1 then 0 else x.val - first.val]?).getD 0)
            else s.shadowAt g x) ∧
      (last < first ∨ (vs.length ≠ 1 ∧ vs.length ≠ run) →
        exec (.shadowSet r) s = .next (s.reply (replyTo .shadowSet r .badOption false (.head h) [])))) ∧
    (∀ h : HeadIx, namesHead r h → carries .shadowSet r os →
      os.readAs .firstSegment (s.head h).spanFirst segmentOf = none ∨
        os.readAs .lastSegment (s.head h).spanLast segmentOf = none →
      exec (.shadowSet r) s = .next (s.reply (replyTo .shadowSet r .badOption false (.head h) []))) ∧
    (∀ n, namesPart r → carries .classParams r os → os.nat .cls = some n → classOf n = none →
      exec (.classParams r) s = .next (s.reply (replyTo .classParams r .badOption false .part []))) ∧
    (∀ cls, namesPart r → carries .classParams r os → (os.nat .cls).bind classOf = some cls →
      let x := s.params.get cls
      let x' : ClassParams :=
        { shift := settingOf 0 6 x.shift (os.nat .shift), hysteresis := settingOf 0 30 x.hysteresis (os.nat .hysteresis),
          ttt := settingOf 1 15 x.ttt (os.nat .ttt),
          offset := match os.int .offset with | some o => max (-256) (min 255 o) | none => x.offset }
      let w := settingOf 0 255 s.loadWeight (os.nat .loadWeight)
      let clamped := outOf 0 6 (os.nat .shift) || outOf 0 30 (os.nat .hysteresis) || outOf 1 15 (os.nat .ttt) ||
        (match os.int .offset with | some o => o < -256 || 255 < o | none => false) || outOf 0 255 (os.nat .loadWeight)
      exec (.classParams r) s = .next (({ s with
          params := s.params.set cls x', loadWeight := w
          contexts := s.contexts.map fun e =>
            if e.2.cls = cls then
              (e.1, { e.2 with cands := e.2.cands.map fun y => { y with ttt := min x'.ttt y.ttt } })
            else e } : State).reply
        (replyTo .classParams r .done clamped .part
          (u8 x'.shift ++ u8 x'.hysteresis ++ u8 x'.ttt ++ i16 x'.offset ++ u8 w)))) ∧
    (namesPart r → carries .classParams r os → os.has .cls = false →
      let setting := os.has .shift || os.has .hysteresis || os.has .ttt || os.has .offset
      (os = [] ∨ setting = true →
        exec (.classParams r) s = .next (s.reply (replyTo .classParams r .missingOption false .part []))) ∧
      (os ≠ [] → setting = false →
        let w := settingOf 0 255 s.loadWeight (os.nat .loadWeight)
        exec (.classParams r) s = .next (({ s with loadWeight := w } : State).reply
          (replyTo .classParams r .done (outOf 0 255 (os.nat .loadWeight)) .part
            (classParamsBody none s.params w))))) ∧
    (namesPart r → carries .partConfig r os →
      let g := s.settings
      let g' : Settings :=
        { devThreshold := settingOf 5 200 g.devThreshold (os.nat .devThreshold),
          devHysteresis := settingOf 1 50 g.devHysteresis (os.nat .devHysteresis),
          critThreshold := settingOf 10 400 g.critThreshold (os.nat .critThreshold),
          persistence := settingOf 1 15 g.persistence (os.nat .persistence),
          criticalMask := match os.nat .criticalMask with | some m => BitVec.ofNat 16 m | none => g.criticalMask,
          ackLimit := settingOf 1 4095 g.ackLimit (os.nat .ackLimit),
          pageLimit := settingOf 1 4095 g.pageLimit (os.nat .pageLimit),
          pollLimit := settingOf 1 4095 g.pollLimit (os.nat .pollLimit) }
      let clamped := outOf 5 200 (os.nat .devThreshold) || outOf 1 50 (os.nat .devHysteresis) ||
        outOf 10 400 (os.nat .critThreshold) || outOf 1 15 (os.nat .persistence) || outOf 1 4095 (os.nat .ackLimit) ||
        outOf 1 4095 (os.nat .pageLimit) || outOf 1 4095 (os.nat .pollLimit)
      (g'.devThreshold + g'.devHysteresis < g'.critThreshold ∧ g'.devHysteresis < g'.devThreshold →
        exec (.partConfig r) s = .next (({ s with settings := g' } : State).reply
          (replyTo .partConfig r .done clamped .part (partConfigBody g')))) ∧
      (¬ (g'.devThreshold + g'.devHysteresis < g'.critThreshold ∧ g'.devHysteresis < g'.devThreshold) →
        exec (.partConfig r) s = .next (s.reply (replyTo .partConfig r .badOption false .part [])))) ∧
    (namesPart r → bare r →
      exec (.partStatus r) s = .next (({ s with overflow := false, unmatched := 0 } : State).reply
        (replyTo .partStatus r .done false .part
          (u32 s.frame.toNat ++ [s.restartCause.code] ++ mark s.overflow ++ u16 s.unmatched ++
            optField 6 bytes48 s.lastUnknown ++ u8 s.inflight.length ++ u16 s.notices.length))))

/-- R166, R24, R48, R68, R115, R125, R156: RESTART empties the in-flight list and the notice queue and sets the cause
WARM; contexts, orders due, settings and counts are kept. Staged schedules and prepared reservations are discarded;
pages, page queues and poll waits end, outstanding polls are kept; of each link the next setpoint, the side blocks and a
pending release are discarded, a link in RUNNING or HOLDING goes to SAFE_STOP with cause RESTART, and a handover ends.
The notices are, link by link (log 15), CRANE_STATE for each link stopped and HANDOVER_FAILED for each handover ended,
and no others; the notice-overflow flag is kept; and the reply DONE goes out last. -/
def Obligations.RestartKeepsRecordsAndDropsWork : Prop :=
  ∀ (r : Request) (s : State), namesPart r → bare r → s.tablesLaw → s.airtimeLaw →
    ∃ t : State, exec (.restart r) s = .next (t.reply (replyTo .restart r .done false .part [])) ∧
      t.inflight = [] ∧ t.restartCause = .warm ∧ t.contexts = s.contexts ∧
      (∀ h : HeadIx, t.head h = { s.head h with staged := none } ∧ t.pageQueue h = [] ∧ t.pollWait h = [] ∧
        (t.account h).list = ((s.account h).list.filter fun r => r.kind == .standing) ∧
        (t.account h).wreq = (s.account h).wreq ∧ (t.account h).polls = (s.account h).polls ∧
        (t.account h).wg = min (s.account h).wreq ((s.head h).effective - (s.account h).standing)) ∧
      t.links = s.links.map (fun e =>
        let x := { e.2 with next := none, down := none, waiting := none, releasePending := false, phase := .none }
        (e.1, if e.2.state = .running ∨ e.2.state = .holding then
          { x with state := .safeStop, cause := some .restart } else x)) ∧
      t.reefers = s.reefers.map (fun e =>
        (e.1, { e.2 with page := none, poll := match e.2.poll with | .waiting => .none | q => q })) ∧
      (∀ n ∈ t.notices, (∃ e ∈ s.links, n.subject = .context e.2.owner ∧
        (n.content = .craneState .safeStop (some .restart) ∨
          ∃ serving g, n.content = .handoverFailed serving g .restart))) ∧
      (s.ownershipLaw → t.notices = s.links.flatMap fun e =>
        (if e.2.state = .running ∨ e.2.state = .holding then
          [{ subject := .context e.2.owner, content := .craneState .safeStop (some .restart) }] else []) ++
        (match e.2.phase.target? with
          | some g =>
            [{ subject := .context e.2.owner, content := .handoverFailed (s.linkServing e.1) g .restart }]
          | none => [])) ∧
      t =
        { s with
          inflight := [], restartCause := .warm, heads := t.heads, airtime := t.airtime, links := t.links,
          reefers := t.reefers, pageQueues := t.pageQueues, pollWaits := t.pollWaits, notices := t.notices }

/-! ### Crane links and crane handovers (Chapters 5 and 6) -/

/-- R95, R96, R100, R111: CRANE_START of an IDLE link with a serving head where its units fit starts the link:
settings stored, clamped; the standing reservation at the tail of the head's list and the window fitted; the setpoint
current and FRESH; counts, marks, feedback and assembly cleared; RUNNING with the cycle timer at Pc; and the first
downlink, with its side bytes, sent at once, which answers the SIDE_DOWN of a block it completes DONE, ahead of the request's
own reply (log 12; its entry is found as log 16 says). The reply is DONE with link index and settings. Refused WRONG_STATE out
of IDLE, NOT_SERVED without a serving head, and NO_AIRTIME when the head is not ACTIVE or the units do not fit; a
refusal changes nothing. The layout of the reply body is logs 7 and 8. -/
def Obligations.CraneStartStartsTheLink : Prop :=
  ∀ (r : Request) (s : State) (k : Nat) (c : Context) (l : Nat) (x : CraneLink) (os : Options) (p : Setpoint),
    namesCrane r s k c l x → carries .craneStart r os → (os.bytes .setpoint).bind setpointOf = some p →
    let u := settingOf 4 48 x.units (os.nat .units)
    let refused (res : Result) : State := s.reply (replyTo .craneStart r res false (.context k c.tag) [])
    (x.state ≠ .idle → exec (.craneStart r) s = .next (refused .wrongState)) ∧
    (x.state = .idle → c.serving = none → exec (.craneStart r) s = .next (refused .notServed)) ∧
    ∀ h, x.state = .idle → c.serving = some h → s.reservation .standing l = none →
      let a := s.account h
      (¬ ((s.head h).state = .active ∧ a.standing + a.prepared + u ≤ (s.head h).capacity) →
        exec (.craneStart r) s = .next (refused .noAirtime)) ∧
      ((s.head h).state = .active → a.standing + a.prepared + u ≤ (s.head h).capacity → s.airtimeLaw →
        x.owner = k →
        let pc := settingOf 2 64 x.period (os.nat .period)
        let lh := settingOf 1 15 x.holdLimit (os.nat .holdLimit)
        let lu := settingOf 1 15 x.missLimit (os.nat .missLimit)
        let x' : CraneLink :=
          { x with
            period := pc, units := u, holdLimit := lh, missLimit := lu, current := some { sp := p, fresh := true },
            next := none, repeats := 0, misses := 0, heard := false, heardLast := false, feedback := none,
            assembly := none, releasePending := false, phase := .none, state := .running, cycle := some pc }
        let clamped := outOf 2 64 (os.nat .period) || outOf 4 48 (os.nat .units) || outOf 1 15 (os.nat .holdLimit) ||
          outOf 1 15 (os.nat .missLimit)
        ∃ t : State, exec (.craneStart r) s = .next (t.reply
            (replyTo .craneStart r .done clamped (.context k c.tag) (u16 l ++ u8 pc ++ u8 u ++ u8 lh ++ u8 lu))) ∧
          t.links.get? l = some { x' with down := downAfter x true, waiting := waitingAfter x true } ∧
          (∀ j, j ≠ l → t.links.get? j = s.links.get? j) ∧
          t.account h =
            { a with
              list := a.list ++ [{ kind := .standing, units := u, owner := l }]
              wg := min a.wreq ((s.head h).capacity - a.standing - a.prepared - u) } ∧
          (∀ g, g ≠ h → t.account g = s.account g) ∧
          t.orders = s.orders ++ [.craneDownlink h c.tag (some { sp := p, fresh := true }) .setpoint none (sideOf x)] ∧
          (t.inflight, t.replies) = s.endings [completedSide x true] .done ∧
          t =
            { s with
              links := t.links, airtime := t.airtime, orders := t.orders, replies := t.replies,
              inflight := t.inflight })

/-- R97, R103 to R105, R121, R122: SETPOINT writes the next setpoint of a link in RUNNING or HOLDING; CRANE_RESUME writes
one for a stopped link that was heard, gaining a standing reservation, with cause ORDERED, where it held none and its head
has room; each answers REPLACED when one was present. CRANE_STOP takes a running link to SAFE_STOP with cause ORDERED and
withdraws a resume; CRANE_RELEASE marks a stopped link; both cancel a handover, which releases the prepared reservation,
(with the fit and, when the window grew, the wait-list pass of its head), clears the target's TTT count and posts
HANDOVER_FAILED. Each is refused, with nothing changed, in the states its rule
names. -/
def Obligations.LinkOrdersActByTheLinkState : Prop :=
  ∀ (r : Request) (s : State) (k : Nat) (c : Context) (l : Nat) (x : CraneLink),
    namesCrane r s k c l x →
    let answered (q : ReqKind) (t : State) (res : Result) : State :=
      t.reply (replyTo q r res false (.context k c.tag) [])
    let written (t : State) (p : Setpoint) : State :=
      { t with links := t.links.modify l fun y => { y with next := some p } }
    let result : Result := if x.next.isSome then .replaced else .done
    (∀ os p, carries .setpoint r os → (os.bytes .setpoint).bind setpointOf = some p →
      ((x.state = .running ∨ x.state = .holding) →
        exec (.setpoint r) s = .next (answered .setpoint (written s p) result)) ∧
      ((x.state = .idle ∨ x.state = .safeStop) →
        exec (.setpoint r) s = .next (answered .setpoint s .wrongState))) ∧
    (∀ os p, carries .craneResume r os → (os.bytes .setpoint).bind setpointOf = some p →
      (x.state ≠ .safeStop ∨ x.releasePending = true →
        exec (.craneResume r) s = .next (answered .craneResume s .wrongState)) ∧
      (x.state = .safeStop → x.releasePending = false →
        (s.reservation .standing l = none → c.serving = none →
          exec (.craneResume r) s = .next (answered .craneResume s .notServed)) ∧
        ((s.reservation .standing l).isSome ∨ c.serving.isSome → x.heardLast = false →
          exec (.craneResume r) s = .next (answered .craneResume s .notHeard)) ∧
        ((s.reservation .standing l).isSome → x.heardLast = true →
          exec (.craneResume r) s = .next (answered .craneResume (written s p) result)) ∧
        ∀ h, s.reservation .standing l = none → c.serving = some h → x.heardLast = true →
          let a := s.account h
          (¬ ((s.head h).state = .active ∧ a.standing + a.prepared + x.units ≤ (s.head h).capacity) →
            exec (.craneResume r) s = .next (answered .craneResume s .noAirtime)) ∧
          ((s.head h).state = .active → a.standing + a.prepared + x.units ≤ (s.head h).capacity → s.airtimeLaw →
            x.owner = k →
            exec (.craneResume r) s = .next (answered .craneResume
              ((({ s with
                  links := s.links.modify l fun y => { y with cause := some .ordered, next := some p } } :
                    State).setAccount h
                { a with
                  list := a.list ++ [{ kind := .standing, units := x.units, owner := l }]
                  wg := min a.wreq ((s.head h).capacity - a.standing - a.prepared - x.units) }).post (.context k)
                (.craneState .safeStop (some .ordered)))
              result)))) ∧
    (bare r → x.owner = k →
      (x.state = .idle → exec (.craneStop r) s = .next (answered .craneStop s .wrongState)) ∧
      (x.state ≠ .idle →
        let stopped : State := if x.state = .safeStop
          then { s with links := s.links.modify l fun y => { y with next := none } }
          else ({ s with
              links := s.links.modify l fun y =>
                { y with state := .safeStop, cause := some .ordered, next := none } } : State).post (.context k)
            (.craneState .safeStop (some .ordered))
        exec (.craneStop r) s = .next (answered .craneStop (stopped.cancelHandover l .ordered) .done))) ∧
    (bare r →
      (x.state ≠ .safeStop → exec (.craneRelease r) s = .next (answered .craneRelease s .wrongState)) ∧
      (x.state = .safeStop → x.releasePending = true →
        exec (.craneRelease r) s = .next (answered .craneRelease s .inProgress)) ∧
      (x.state = .safeStop → x.releasePending = false → 64 ≤ s.inflight.length →
        exec (.craneRelease r) s = .next (answered .craneRelease s .busy)) ∧
      (x.state = .safeStop → x.releasePending = false → s.inflight.length < 64 →
        let t := ({ s with
            links := s.links.modify l fun y => { y with releasePending := true, next := none } } : State).cancelHandover l
          .released
        exec (.craneRelease r) s = .next
          { t with
            inflight := t.inflight ++
              [{ reqTag := r.reqTag, kind := .craneRelease, subject := .context k, clamped := false }] })) ∧
    (∀ cause : HandoverCause, x.phase.target? = none → s.cancelHandover l cause = s) ∧
    ∀ (cause : HandoverCause) (g : HeadIx), x.phase.target? = some g → x.owner = k →
      let t := s.cancelHandover l cause
      t.links.get? l = some { x with phase := .none } ∧ (∀ j, j ≠ l → t.links.get? j = s.links.get? j) ∧
      (t.account g).list = ((s.account g).list.filter fun q => !(q.kind == .prepared && q.owner == l)) ∧
      (∀ h, h ≠ g → t.account h = s.account h) ∧
      (let a := s.account g
       let list := a.list.filter fun q => !(q.kind == .prepared && q.owner == l)
       let freed : Account := { a with list := list }
       let fitted : State := if s.holds .prepared l g then
           (s.setAccount g { freed with
             wg := min a.wreq ((s.head g).effective - freed.standing - freed.prepared) }).passIfGrown g a.wg
         else s
       t.airtime = fitted.airtime ∧ t.orders = fitted.orders ∧ t.reefers = fitted.reefers ∧
         t.pollWaits = fitted.pollWaits) ∧
      t.contexts = (if cause = .noAnswer ∨ cause = .ordered ∨ cause = .released then
        s.contexts.modify k fun y => { y with cands := y.cands.map fun e => if e.head = g then { e with ttt := 0 } else e }
        else s.contexts) ∧
      t.notices = (s.post (.context k) (.handoverFailed c.serving g cause)).notices ∧
      t =
        { s with
          links := t.links, airtime := t.airtime, contexts := t.contexts, notices := t.notices, overflow := t.overflow,
          orders := t.orders, reefers := t.reefers, pollWaits := t.pollWaits }

/-- R110, R111, R114: SIDE_DOWN puts its block in flight, or pending behind one in flight, or in the place of the
pending block, whose request is answered REPLACED; it stands in the in-flight list, or is refused BUSY when that is
full. A sent downlink moves the block on, and past position 23 answers its SIDE_DOWN DONE and puts the pending block
in flight (State.advanceBlock, which CRANE_START and CYCLE_EXPIRY run; O49 and O52 say with what replies). Of two entries of
one request tag the older is completed and the newer replaced (log 16). CRANE_READ reports the record, a timer at 0 frames
as running (log 4), and sets the side error count to 0. The layout of the reply body is logs 7 and 8. -/
def Obligations.SideBlocksGoDownInOrder : Prop :=
  ∀ (r : Request) (s : State) (k : Nat) (c : Context) (l : Nat) (x : CraneLink),
    namesCrane r s k c l x →
    (∀ os b, carries .sideDown r os → (os.bytes .block).bind (block? 48) = some b →
      let entry : InFlight := { reqTag := r.reqTag, kind := .sideDown, subject := .context k, clamped := false }
      (64 ≤ s.inflight.length →
        exec (.sideDown r) s = .next (s.reply (replyTo .sideDown r .busy false (.context k c.tag) []))) ∧
      (s.inflight.length < 64 → x.down = none → exec (.sideDown r) s = .next
        { s with
          links := s.links.modify l fun y => { y with down := some { bytes := b, pos := 0, req := r.reqTag } }
          inflight := s.inflight ++ [entry] }) ∧
      (s.inflight.length < 64 → x.down.isSome → x.waiting = none → exec (.sideDown r) s = .next
        { s with
          links := s.links.modify l fun y => { y with waiting := some { bytes := b, req := r.reqTag } }
          inflight := s.inflight ++ [entry] }) ∧
      (∀ w before behind e, s.inflight.length < 64 → x.down.isSome → x.waiting = some w →
        s.inflight = before ++ e :: behind → e.kind = .sideDown → e.subject = .context k → e.reqTag = w.req →
        (∀ e' ∈ behind, ¬ (e'.kind = .sideDown ∧ e'.subject = .context k ∧ e'.reqTag = w.req)) →
        exec (.sideDown r) s = .next
          { s with
            links := s.links.modify l fun y => { y with waiting := some { bytes := b, req := r.reqTag } }
            inflight := before ++ behind ++ [entry]
            replies := s.replies ++
              [{ reqTag := e.reqTag, kind := 0x0B, result := .replaced, clamped := e.clamped,
                 identity := s.identity (.context k), body := [] }] })) ∧
    (∀ b, x.down = some b → x.owner = k →
      (s.advanceBlock l).links.get? l = some { x with down := downAfter x true, waiting := waitingAfter x true } ∧
      (∀ j, j ≠ l → (s.advanceBlock l).links.get? j = s.links.get? j) ∧
      (b.pos < 23 → s.advanceBlock l = { s with links := (s.advanceBlock l).links }) ∧
      (23 ≤ b.pos →
        ((s.advanceBlock l).inflight, (s.advanceBlock l).replies) =
          s.endings [InFlight.is .sideDown (.context k) b.req] .done ∧
        (s.advanceBlock l) =
          { s with
            links := (s.advanceBlock l).links, inflight := (s.advanceBlock l).inflight,
            replies := (s.advanceBlock l).replies })) ∧
    (bare r → exec (.craneRead r) s = .next
      (({ s with links := s.links.modify l fun y => { y with sideErrors := 0 } } : State).reply
        (replyTo .craneRead r .done false (.context k c.tag)
          (craneReadBody l x (s.reservation .standing l) (s.reservation .prepared l)))))

/-- R94, R98 to R102, R106, R111, R112, R118, R119, R121, R122: the cycle expiry. In RUNNING and HOLDING: the uplink
check, which stops the link with cause UPLINK_LIMIT when the miss count reaches Lu; else the setpoint stage, which makes
the next setpoint current and FRESH, or marks the current one REPEATED and stops the link with cause HOLD_LIMIT when the
repeat count reaches Lh. In SAFE_STOP: the completion of a pending release, else the resume with a next setpoint. In
each: an active assembly whose cycle was silent is lost and counted; the handover moves on, and at the fourth expiry of
a switch is cancelled with NO_ANSWER; the downlink goes out, through the serving head first (log 12), with its side
bytes, the SIDE_DOWN of a block it completes being answered DONE (its entry as log 16 says); the cycle closes and the
timer starts again. A release cancels a handover with RELEASED, sends the last downlink, releases the standing
reservation, stops the timer, posts CRANE_STATE IDLE and answers the CRANE_RELEASE DONE. With no serving head the mark
becomes clear and an active assembly is lost whatever the heard flag (R112); that a link served again before the expiry
takes the flag as R100 states is the model's choice (log 24). -/
def Obligations.CycleExpiryAdvancesTheLink : Prop :=
  ∀ (l : Fin 32) (s : State) (x : CraneLink) (c : Context), s.links.get? l.val = some x → x.cycle = some 0 →
    s.contexts.get? x.owner = some c → x.state ≠ .idle →
    let served := c.serving.isSome
    let heard := x.heard && served
    let misses := if x.heard then 0 else x.misses + 1
    let closed : CraneLink :=
      { x with
        cycle := some x.period, heardLast := heard, heard := false,
        feedback := x.feedback.map fun f => { f with age := if f.age < 255 then f.age + 1 else f.age },
        assembly := if heard then x.assembly else none,
        sideErrors := if x.assembly.isSome && !heard && x.sideErrors < 255 then x.sideErrors + 1 else x.sideErrors,
        down := downAfter x served, waiting := waitingAfter x served,
        phase := match x.phase with
          | .none => .none
          | .prepared g => .switching g 0
          | .switching g n => if n < 3 then .switching g (n + 1) else .none }
    let running : Prop := x.state = .running ∨ x.state = .holding
    let repeated := x.current.map fun y => { y with fresh := false }
    let failing : Option HeadIx := match x.phase with
      | .switching g n => if n < 3 then none else some g
      | .none | .prepared _ => none
    /- the state with a handover that has come to its end cancelled (O50 says how): what the step does outside the link -/
    let cancelled : State := if failing.isSome then s.cancelHandover l.val .noAnswer else s
    /- the link after the expiry, and the CRANE_STATE notices of its stages -/
    let goesTo (y : CraneLink) (posted : State) : Prop :=
      ∃ t polls, exec (.cycleExpiry l) s = .next t ∧ t.links.get? l.val = some y ∧
        (∀ j, j ≠ l.val → t.links.get? j = s.links.get? j) ∧
        cancelled.orders = s.orders ++ polls ∧ (∀ o ∈ polls, ∃ h tag, o = .poll h tag) ∧
        t.orders = s.orders ++ polls ++ downlinksOf { y with down := x.down } c y.phase.switchTarget ∧
        t.contexts = cancelled.contexts ∧ t.airtime = cancelled.airtime ∧ t.reefers = cancelled.reefers ∧
        t.pollWaits = cancelled.pollWaits ∧ (∀ g, failing = some g → t.holds .prepared l.val g = false) ∧
        (let told := match failing with
          | some g => posted.post (.context x.owner) (.handoverFailed c.serving g .noAnswer)
          | none => posted
         t.notices = told.notices ∧ t.overflow = told.overflow) ∧
        (t.inflight, t.replies) = s.endings [completedSide x served] .done ∧
        t =
          { s with
            links := t.links, contexts := t.contexts, airtime := t.airtime, reefers := t.reefers,
            pollWaits := t.pollWaits, orders := t.orders, notices := t.notices, overflow := t.overflow,
            inflight := t.inflight, replies := t.replies }
    let stops (cause : SafeCause) : State := s.post (.context x.owner) (.craneState .safeStop (some cause))
    (running → x.missLimit ≤ misses →
      goesTo { closed with state := .safeStop, cause := some .uplinkLimit, misses := misses, next := none }
        (stops .uplinkLimit)) ∧
    (running → misses < x.missLimit →
      (∀ p, x.next = some p →
        goesTo { closed with
          misses := misses, current := some { sp := p, fresh := true }, next := none, repeats := 0, state := .running }
          s) ∧
      (x.next = none → x.repeats + 1 < x.holdLimit →
        goesTo { closed with misses := misses, current := repeated, repeats := x.repeats + 1, state := .holding } s) ∧
      (x.next = none → x.holdLimit ≤ x.repeats + 1 →
        goesTo { closed with
          misses := misses, current := repeated, repeats := x.repeats + 1, state := .safeStop,
          cause := some .holdLimit } (stops .holdLimit))) ∧
    (x.state = .safeStop → x.releasePending = false →
      (x.next = none → goesTo closed s) ∧
      ∀ p, x.next = some p →
        goesTo { closed with
          current := some { sp := p, fresh := true }, next := none, repeats := 0, misses := 0, state := .running }
          (s.post (.context x.owner) (.craneState .running x.cause))) ∧
    (x.state = .safeStop → x.releasePending = true → s.tablesLaw → s.ownershipLaw → s.airtimeLaw → s.handoverLaw →
      s.reservationLaw →
      let dropped := s.cancelHandover l.val .released
      let told := match x.phase.target? with
        | some g => s.post (.context x.owner) (.handoverFailed c.serving g .released)
        | none => s
      ∃ t polls polls', exec (.cycleExpiry l) s = .next t ∧
        t.links.get? l.val =
          some { closed with phase := .none, cycle := none, state := .idle, releasePending := false } ∧
        (∀ j, j ≠ l.val → t.links.get? j = s.links.get? j) ∧
        (∀ k h, t.holds k l.val h = false) ∧
        (∀ h : HeadIx, (t.account h).list = (s.account h).list.filter fun q => q.owner != l.val) ∧
        t.contexts = dropped.contexts ∧ dropped.orders = s.orders ++ polls ∧
        t.orders = s.orders ++ polls ++ downlinksOf x c none ++ polls' ∧
        (∀ o ∈ polls ++ polls', ∃ h tag, o = .poll h tag) ∧
        (let idle := told.post (.context x.owner) (.craneState .idle x.cause)
         t.notices = idle.notices ∧ t.overflow = idle.overflow) ∧
        (t.inflight, t.replies) =
          s.endings [completedSide x served, InFlight.isFor .craneRelease (.context x.owner)] .done ∧
        t =
          { s with
            links := t.links, contexts := t.contexts, airtime := t.airtime, reefers := t.reefers,
            pollWaits := t.pollWaits, orders := t.orders, notices := t.notices, overflow := t.overflow,
            inflight := t.inflight, replies := t.replies })

/-- R107 to R109, R120, R6: a crane uplink. Through a head that is neither the serving head nor the target of a
switching link, on an IDLE link or for an unserved context it is ignored whole. Taken, it replaces the feedback; the
first of its cycle is heard and adds its fragment to the side assembly, a start flag losing a partial block, and the
24th fragment completes the block: last side block, quay segment and SIDE_BLOCK. Through the target of a switching link
it then completes the handover, a side block it completes being taken first: the context is served there, the prepared
reservation stands, the old one is released, with the fit and, when the window grew, the wait-list pass of the old head,
SERVE_ORDER goes out and HANDOVER_DONE is posted with cause TRIGGER. -/
def Obligations.CraneUplinksAreTaken : Prop :=
  ∀ (tag : Tag) (u : UplinkFields) (s : State) (k : Nat) (c : Context) (l : Nat) (x : CraneLink),
    s.tablesLaw → s.findTag tag = some (k, c) → c.cls = .crane → c.ext = some l → s.links.get? l = some x →
    x.owner = k →
    let through (h : HeadIx) : Prop := u.head.toNat = h.val
    let switchingTo (h : HeadIx) : Prop := ∃ n, x.phase = .switching h n
    let lost := u.start && x.assembly.isSome
    let fs : Option (List Fragment) :=
      if u.start then some [u.frag] else x.assembly.map fun a => a ++ [u.frag]
    let heard : CraneLink :=
      { x with
        feedback := some { bytes := u.feedback, seq := u.seq, age := 0 }, heard := true,
        assembly := if x.heard then x.assembly else fs,
        sideErrors := if !x.heard && lost && x.sideErrors < 255 then x.sideErrors + 1 else x.sideErrors }
    let complete : Prop := x.heard = false ∧ ∃ a, fs = some a ∧ 24 ≤ a.length
    (x.state = .idle ∨ c.serving = none ∨ (∀ h, through h → c.serving ≠ some h ∧ ¬ switchingTo h) →
      exec (.craneUplink tag u) s = .next s) ∧
    ∀ h, x.state ≠ .idle → c.serving.isSome → through h →
      (c.serving = some h → ¬ switchingTo h → ¬ complete →
        exec (.craneUplink tag u) s = .next { s with links := s.links.modify l fun _ => heard }) ∧
      (∀ (a : List Fragment) (b : Bytes48), c.serving = some h → ¬ switchingTo h → x.heard = false → fs = some a →
        a.length = 24 → b.toList = (a.flatMap fun f => [f.fst, f.snd]) →
        exec (.craneUplink tag u) s = .next
          (({ s with
              links := s.links.modify l fun _ => { heard with assembly := none, sideBlock := some b }
              contexts := s.contexts.modify k fun y =>
                { y with segment := segmentOf (b.toList.headD 0).toNat } } : State).post (.context k) (.sideBlock b))) ∧
      (∀ (old : HeadIx) (block : Option Bytes48), c.serving = some old → old ≠ h → switchingTo h →
        s.holds .prepared l h = true → s.holds .standing l old = true →
        (block = none → ¬ complete) →
        (∀ b, block = some b → x.heard = false ∧
          ∃ a, fs = some a ∧ a.length = 24 ∧ b.toList = a.flatMap fun f => [f.fst, f.snd]) →
        let taken : State := match block with
          | none => s
          | some b => s.post (.context k) (.sideBlock b)
        ∃ t, exec (.craneUplink tag u) s = .next t ∧
          t.links.get? l = some (match block with
            | none => { heard with phase := .none }
            | some b => { heard with phase := .none, assembly := none, sideBlock := some b }) ∧
          (∀ j, j ≠ l → t.links.get? j = s.links.get? j) ∧
          (∀ e, c.entry? h = some e → (t.contexts.get? k) = some
            { c with
              serving := some h, sector := e.sector
              segment := match block with
                | none => c.segment
                | some b => segmentOf (b.toList.headD 0).toNat
              cands := c.cands.map fun y => { y with ttt := 0, missing := if y.head = h then 0 else y.missing } }) ∧
          (∀ j, j ≠ k → t.contexts.get? j = s.contexts.get? j) ∧
          (t.account h).list = ((s.account h).list.map fun q =>
            if q.kind == .prepared && q.owner == l then { q with kind := .standing } else q) ∧
          (t.account old).list = ((s.account old).list.filter fun q => !(q.kind == .standing && q.owner == l)) ∧
          (∃ polls, t.orders = s.orders ++ polls ++ [.serveOrder tag (some old) h] ∧
            ∀ o ∈ polls, ∃ g q, o = .poll g q) ∧
          (let told := taken.post (.context k) (.handoverDone (some old) h .trigger)
           t.notices = told.notices ∧ t.overflow = told.overflow) ∧
          (∀ g, g ≠ h → g ≠ old → t.account g = s.account g) ∧ t.heads = s.heads ∧ t.replies = s.replies ∧
          (s.airtimeLaw →
            let a := s.account old
            let left : Account := { a with list := (t.account old).list }
            let freed : State := (s.setAccount old
              { left with
                wg := min a.wreq ((s.head old).effective - left.standing - left.prepared) }).passIfGrown old a.wg
            t.account old = freed.account old ∧ t.orders = freed.orders ++ [.serveOrder tag (some old) h] ∧
              t.reefers = freed.reefers ∧ t.pollWaits = freed.pollWaits))

/-! ### Reefers (Chapters 7 and 8) -/

/-- R131: the persistence count. At a report, a deviation above T_d raises it by one, saturating at 15, one at or below
T_d - T_h returns it to 0, one between leaves it, and so does a report with no deviation, whatever the class. It is 0 at
allocation, and no other command changes it. -/
def Obligations.PersistenceCountFollowsTheReports : Prop :=
  (∀ (tag : Tag) (f : ReportFields) (s : State) (k : Nat) (c : Context) (i : Nat) (r : Reefer),
    findsReefer tag s k c i r → r.persist ≤ 15 → s.settings.devHysteresis < s.settings.devThreshold →
    let stored (w : BitVec 16) : Int := max (-400) (min 400 w.toInt)
    let p : Option Int := match f.setpoint with | some w => some (stored w) | none => r.booked
    let dev : Option Nat := match f.supply, p with | some w, some p => some (stored w - p).natAbs | _, _ => none
    ∃ t r', exec (.reeferReport tag f) s = .next t ∧ t.reefers.get? i = some r' ∧
      (∀ a, dev = some a → s.settings.devThreshold < a → r'.persist = min 15 (r.persist + 1)) ∧
      (∀ a, dev = some a → a ≤ s.settings.devThreshold - s.settings.devHysteresis → r'.persist = 0) ∧
      (∀ a, dev = some a → s.settings.devThreshold - s.settings.devHysteresis < a → a ≤ s.settings.devThreshold →
        r'.persist = r.persist) ∧
      (dev = none → r'.persist = r.persist)) ∧
  ∀ (i : Instr) (s t : State) (j : Nat) (r' : Reefer), s.tablesLaw → exec i s = .next t → t.reefers.get? j = some r' →
    (s.reefers.get? j = none → r'.persist = 0) ∧
    ∀ r, s.reefers.get? j = some r →
      (∀ tag f k c, i = .reeferReport tag f → s.findTag tag = some (k, c) → c.cls = .reefer → c.ext ≠ some j) →
      r'.persist = r.persist

/-- R127 to R130, R132 to R134, R141, R154: a reefer report. The status fields are replaced, saturated, the age is 0 and
contact REACHABLE; a dozing reefer wakes and its page ends DONE, leaving its queue, a controller page with its reply and its
in-flight entry, an internal page without a reply; its poll ends, its credit returning and the sending head's wait list being
passed over (R60, R147); the class follows R133 with the hysteresis of the old class, a change posting REEFER_CLASS; and a
reefer left awake with no page at this report is ordered to doze when its preference and a serving head allow. -/
def Obligations.ReeferReportsReplaceAndClassify : Prop :=
  ∀ (tag : Tag) (f : ReportFields) (s : State) (k : Nat) (c : Context) (i : Nat) (r : Reefer),
    s.tablesLaw → s.ownershipLaw → s.pollLaw → findsReefer tag s k c i r →
    let g := s.settings
    let stored (w : BitVec 16) : Temp :=
      { value := max (-400) (min 400 w.toInt), clamped := w.toInt < -400 || 400 < w.toInt }
    let supply := f.supply.map stored
    let setpoint := f.setpoint.map stored
    let power : Power :=
      if f.power = 0 then .mains else if f.power = 1 then .genset else if f.power = 2 then .battery else r.power
    let p : Option Int := match setpoint with | some x => some x.value | none => r.booked
    let dev : Option Nat := match supply, p with | some x, some p => some (x.value - p).natAbs | _, _ => none
    let count : Nat := nextPersist g dev r.persist
    let differ : Prop := ∃ x b, setpoint = some x ∧ r.booked = some b ∧ 6 ≤ (x.value - b).natAbs
    let critical : Prop := f.flags &&& g.criticalMask ≠ 0 ∨
      ∃ a, dev = some a ∧ (g.critThreshold ≤ a ∨ r.alarm = .critical ∧ g.critThreshold - g.devHysteresis ≤ a)
    let deviation : Prop :=
      ∃ a, dev = some a ∧ (g.persistence ≤ count ∨ r.alarm = .deviation ∧ g.devThreshold - g.devHysteresis < a)
    let advisory : Prop := f.flags &&& ~~~g.criticalMask ≠ 0 ∨ power = .battery ∨ differ
    let dozing : Bool := r.doze == .light || r.doze == .deep
    let orders : Bool := r.doze != .ordered && r.page.isNone && r.pref != .none && c.serving.isSome
    ∃ t r', exec (.reeferReport tag f) s = .next t ∧ t.reefers.get? i = some r' ∧
      r' =
        { r with
          supply := supply, ret := f.ret.map stored, setpoint := setpoint, flags := f.flags, power := power,
          age := 0, overdueDue := false, contact := .reachable, lastDev := dev, persist := count, alarm := r'.alarm,
          doze := if orders then .ordered else if dozing then .awake else r.doze,
          ackTimer := if orders then some g.ackLimit else r.ackTimer,
          page := if dozing then none else r.page, poll := .none } ∧
      (r'.alarm = .critical ↔ critical) ∧ (r'.alarm = .deviation ↔ ¬ critical ∧ deviation) ∧
      (r'.alarm = .advisory ↔ ¬ critical ∧ ¬ deviation ∧ advisory) ∧
      (∃ polls, (∀ o ∈ polls, ∃ h q, o = .poll h q) ∧ ((∀ h n, r.poll ≠ .outstanding h n) → polls = []) ∧
        t.orders = s.orders ++ polls ++
          (match c.serving with
            | some h => if orders then [.dozeOrder h tag (r.pref == .deep)] else []
            | none => [])) ∧
      (let s1 := if r.contact = .reachable then s
        else s.post (.context k) (.reeferContact .reachable r.doze)
       let s2 := if r'.alarm = r.alarm then s1
        else s1.post (.context k) (.reeferClass r'.alarm r.alarm supply p dev count f.flags)
       t.notices = s2.notices ∧ t.overflow = s2.overflow) ∧
      (∀ h n, r.poll = .outstanding h n →
        (t.account h).polls ≤ max ((s.account h).polls - 1) (s.account h).wg ∧
        let passed : State :=
          (({ s with reefers := s.reefers.modify i fun y => { y with poll := .none } } : State).setAccount h
            { s.account h with polls := (s.account h).polls - 1 }).waitPass h
        t.airtime = passed.airtime ∧ t.pollWaits = passed.pollWaits ∧
          (∃ tail, t.orders = passed.orders ++ tail ∧ ∀ o ∈ tail, ∃ g q d, o = .dozeOrder g q d) ∧
          ∀ j, j ≠ i → t.reefers.get? j = passed.reefers.get? j) ∧
      ((∀ h n, r.poll ≠ .outstanding h n) →
        t.airtime = s.airtime ∧ ∀ j, j ≠ i → t.reefers.get? j = s.reefers.get? j) ∧
      (∀ h : HeadIx, i ∉ t.pollWait h) ∧
      (dozing = true → r.page.isSome →
        (∀ h : HeadIx, t.pageQueue h = (s.pageQueue h).filter (· != i)) ∧
        (t.inflight, t.replies) = s.endings (s.pageEntry i).toList .done) ∧
      (dozing = false ∨ r.page = none →
        t.replies = s.replies ∧ t.inflight = s.inflight ∧ t.pageQueues = s.pageQueues) ∧
      (∀ j, j ≠ i → (t.reefers.get? j).map (fun y => { y with poll := .none }) =
        (s.reefers.get? j).map fun y => { y with poll := .none }) ∧
      t =
        { s with
          reefers := t.reefers, notices := t.notices, overflow := t.overflow, orders := t.orders,
          airtime := t.airtime, pollWaits := t.pollWaits, pageQueues := t.pageQueues, inflight := t.inflight,
          replies := t.replies }

/-- R142, R152, R154: a DOZE_ACK in DOZE_ORDERED adopts the doze state it names, and a page in ACK_WAIT goes to SLOT_WAIT,
or ends NOT_COVERED in DEEP_DOZE when neither schedule covers the serving sector; a PAGE_ANSWER wakes a dozing reefer, ends
its page DONE and polls it when overdue. Every other one is ignored but for contact, which each sets REACHABLE, with
REEFER_CONTACT on a change. That contact comes first is the model's choice (log 14). -/
def Obligations.AcksAndAnswersMoveTheDozeState : Prop :=
  ∀ (tag : Tag) (b st : Byte) (s : State) (k : Nat) (c : Context) (i : Nat) (r : Reefer),
    findsReefer tag s k c i r → r.owner = k →
    let s1 : State := if r.contact = .reachable then s
      else ({ s with reefers := s.reefers.modify i fun y => { y with contact := .reachable } } : State).post (.context k)
        (.reeferContact .reachable r.doze)
    let put (f : Reefer → Reefer) : State := { s1 with reefers := s1.reefers.modify i f }
    (r.doze ≠ .ordered ∨ (st ≠ 1 ∧ st ≠ 2) → exec (.dozeAck tag b st) s = .next s1) ∧
    (∀ d, r.doze = .ordered → (st = 1 ∧ d = .light ∨ st = 2 ∧ d = .deep) →
      let covered : Prop := d = .light ∨ ∃ h, c.serving = some h ∧ (s.head h).covers c.sector
      ((∀ p, r.page = some p → p.phase ≠ .ackWait) →
        exec (.dozeAck tag b st) s = .next (put fun y => { y with doze := d, ackTimer := none })) ∧
      ∀ p, r.page = some p → p.phase = .ackWait →
        (covered → exec (.dozeAck tag b st) s = .next (put fun y =>
          { y with doze := d, ackTimer := none, page := y.page.map fun p => { p with phase := .slotWait } })) ∧
        (¬ covered → exec (.dozeAck tag b st) s = .next
          ((put fun y => { y with doze := d, ackTimer := none }).endPage i .notCovered))) ∧
    ((r.doze = .awake ∨ r.doze = .ordered) → exec (.pageAnswer tag b) s = .next s1) ∧
    ((r.doze = .light ∨ r.doze = .deep) →
      let woken : State := (put fun y => { y with doze := .awake }).endPage i .done
      exec (.pageAnswer tag b) s = .next (if r.interval + r.grace ≤ r.age then woken.makePoll i else woken))

/-- R143 to R149, R153, R154: the expiries of a reefer record that are due. The ack limit gives AWAKE, ends a page in
ACK_WAIT and polls an overdue reefer; the page-answer limit sends the page back to its slot once and then fails it, contact
becoming UNREACHABLE; the poll-answer limit ends the poll and returns its credit, which runs the sending head's wait-list
pass (R60, R147); the second raises every age and marks the
records whose age meets I + G or a multiple of I above it; and the overdue expiry raises the missed count and polls or pages
the reefer. A poll made takes a credit of the serving head or joins its wait list; a page that ends leaves its queue, a
controller page with its reply. That an expiry out of record order waits is log 3's. -/
def Obligations.ReeferExpiriesAreTaken : Prop :=
  (∀ s : State, s.secondDue = true → exec .secondExpiry s = .next
    { s with
      secondDue := false
      reefers := s.reefers.map fun e =>
        (e.1, if e.2.age < 4294967295 then
          { e.2 with
            age := e.2.age + 1
            overdueDue := e.2.overdueDue || (e.2.interval + e.2.grace ≤ e.2.age + 1 &&
              (e.2.age + 1 - (e.2.interval + e.2.grace)) % e.2.interval == 0) } else e.2) }) ∧
  ∀ (j : Fin 4096) (s : State) (r : Reefer) (c : Context), s.reefers.get? j.val = some r →
    s.contexts.get? r.owner = some c →
    let put (s : State) (f : Reefer → Reefer) : State := { s with reefers := s.reefers.modify j.val f }
    let polledIfDue (t : State) : State := if r.interval + r.grace ≤ r.age then t.makePoll j.val else t
    (r.ackTimer = some 0 → (∀ e ∈ s.reefers, e.1 < j.val → e.2.ackTimer ≠ some 0) →
      let t := put s fun y => { y with doze := .awake, ackTimer := none }
      exec (.ackLimitExpiry j) s = .next (polledIfDue
        (if r.page.any (fun p => p.phase == .ackWait) then t.endPage j.val .alreadyAwake else t))) ∧
    (∀ p, r.page = some p → p.phase = .sent 0 →
      (p.attempts = 0 → exec (.pageAnswerExpiry j) s =
        .next (put s fun y =>
          { y with page := y.page.map fun p => { p with attempts := p.attempts + 1, phase := .slotWait } })) ∧
      (1 ≤ p.attempts →
        let t := s.endPage j.val .failed
        exec (.pageAnswerExpiry j) s = .next (if r.contact = .unreachable then t
          else (put t fun y => { y with contact := .unreachable }).post (.context r.owner)
            (.reeferContact .unreachable r.doze)))) ∧
    (∀ h, r.poll = .outstanding h 0 → exec (.pollAnswerExpiry j) s = .next
      (((put s fun y => { y with poll := .none }).setAccount h
        { s.account h with polls := (s.account h).polls - 1 }).waitPass h)) ∧
    (r.overdueDue = true → (∀ e ∈ s.reefers, e.1 < j.val → e.2.overdueDue = false) →
      let t := put s fun y => { y with overdueDue := false, missed := if y.missed < 255 then y.missed + 1 else y.missed }
      (c.serving = none ∨ (r.doze ≠ .awake ∧ r.page.isSome) → exec (.overdueExpiry j) s = .next t) ∧
      (c.serving.isSome → r.doze = .awake → exec (.overdueExpiry j) s = .next (t.makePoll j.val)) ∧
      ∀ h, c.serving = some h → r.doze ≠ .awake → r.page = none →
        let fits : Prop := (r.doze = .deep → (s.head h).covers c.sector) ∧ (s.pageQueue h).length < 32
        (fits → exec (.overdueExpiry j) s = .next
          ((put t fun y => { y with page := some (Page.mk none 0 (if y.doze = .ordered then .ackWait else .slotWait)) }
            ).setPageQueue h (s.pageQueue h ++ [j.val]))) ∧
        (¬ fits → exec (.overdueExpiry j) s = .next t)) ∧
    (∀ h, c.serving = some h → r.poll = .none →
      ((s.head h).state.inService = true → (s.account h).polls < (s.account h).wg →
        s.makePoll j.val =
          ({ put s fun y => { y with poll := .outstanding h s.settings.pollLimit } with
            orders := s.orders ++ [.poll h c.tag] } : State).setAccount h
            { s.account h with polls := (s.account h).polls + 1 }) ∧
      ((s.head h).state.inService = false ∨ (s.account h).wg ≤ (s.account h).polls →
        s.makePoll j.val =
          (put s fun y => { y with poll := .waiting }).setPollWait h (s.pollWait h ++ [j.val]))) ∧
    (c.serving = none ∨ r.poll ≠ .none → s.makePoll j.val = s) ∧
    ∀ p res, r.page = some p →
      let t := s.endPage j.val res
      (∀ h : HeadIx, t.pageQueue h = (s.pageQueue h).filter (· != j.val)) ∧
      t.reefers = s.reefers.modify j.val (fun y => { y with page := none }) ∧
      (p.owner = none → t.inflight = s.inflight ∧ t.replies = s.replies) ∧
      (∀ q, p.owner = some q →
        (t.inflight, t.replies) = s.endings [InFlight.is .page (.context r.owner) q] res) ∧
      t = { s with
        reefers := t.reefers, pageQueues := t.pageQueues, inflight := t.inflight, replies := t.replies }

/-- R150, R136, R137: PAGE is refused BUSY with the in-flight list full and else dealt with by the first of its seven
rows; REEFER_PARAMS writes the interval, grace, doze preference and booked setpoint it carries, clamped; REEFER_READ
reports the record and sets the missed count to 0. The layout of the reply body is logs 7 and 8. -/
def Obligations.ReeferRequestsAreTaken : Prop :=
  ∀ (r : Request) (s : State) (k : Nat) (c : Context) (i : Nat) (x : Reefer), namesReefer r s k c i x →
    let answered (q : ReqKind) (res : Result) : Out :=
      .next (s.reply (replyTo q r res false (.context k c.tag) []))
    let entry : InFlight := { reqTag := r.reqTag, kind := .page, subject := .context k, clamped := false }
    (bare r →
      (64 ≤ s.inflight.length → exec (.page r) s = answered .page .busy) ∧
      (s.inflight.length < 64 →
        (x.doze = .awake → exec (.page r) s = answered .page .alreadyAwake) ∧
        (x.doze ≠ .awake →
          (c.serving = none → exec (.page r) s = answered .page .noPath) ∧
          ∀ h, c.serving = some h →
            (∀ p, x.page = some p →
              (p.owner.isSome → exec (.page r) s = answered .page .inProgress) ∧
              (p.owner = none → exec (.page r) s = .next
                { s with
                  reefers := s.reefers.modify i fun y =>
                    { y with page := y.page.map fun p => { p with owner := some r.reqTag } }
                  inflight := s.inflight ++ [entry] })) ∧
            (x.page = none →
              let covered : Prop := x.doze = .deep → (s.head h).covers c.sector
              (¬ covered → exec (.page r) s = answered .page .notCovered) ∧
              (covered → 32 ≤ (s.pageQueue h).length → exec (.page r) s = answered .page .queueFull) ∧
              (covered → (s.pageQueue h).length < 32 → exec (.page r) s = .next
                (({ s with
                    reefers := s.reefers.modify i fun y =>
                      { y with
                        page := some (Page.mk (some r.reqTag) 0 (if y.doze = .ordered then .ackWait else .slotWait)) }
                    inflight := s.inflight ++ [entry] } : State).setPageQueue h (s.pageQueue h ++ [i]))))))) ∧
    (bare r → exec (.reeferRead r) s = .next
      (({ s with reefers := s.reefers.modify i fun y => { y with missed := 0 } } : State).reply
        (replyTo .reeferRead r .done false (.context k c.tag) (reeferReadBody i c.tag x)))) ∧
    ∀ os, carries .reeferParams r os →
      (os = [] → exec (.reeferParams r) s = answered .reeferParams .missingOption) ∧
      (os.readAs .dozePref x.pref dozePrefOf = none → exec (.reeferParams r) s = answered .reeferParams .badOption) ∧
      ∀ pref, os ≠ [] → os.readAs .dozePref x.pref dozePrefOf = some pref →
        let booked : Option Int := match os.bytes .booked with
          | none => x.booked
          | some [] => none
          | some v => some (max (-400) (min 400 (beInt16 v)))
        let clamped := outOf 10 3600 (os.nat .interval) || outOf 0 600 (os.nat .grace) ||
          match os.bytes .booked with
            | none | some [] => false
            | some v => decide (beInt16 v < -400) || decide (400 < beInt16 v)
        let interval := settingOf 10 3600 x.interval (os.nat .interval)
        let grace := settingOf 0 600 x.grace (os.nat .grace)
        exec (.reeferParams r) s = .next
          (({ s with
              reefers := s.reefers.modify i fun y =>
                { y with interval := interval, grace := grace, pref := pref, booked := booked } } : State).reply
            (replyTo .reeferParams r .done clamped (.context k c.tag)
              (u16 interval ++ u16 grace ++ [pref.code] ++ optField 2 i16 booked)))

/-! ### Time and the outgoing sides (Chapters 9 and 10) -/

/-- R171, R25, R41, R94, R155: a frame strobe with no expiry due counts the frame number and the divider, the 1000th making
a second expiry, and lowers every running timer by one frame; nothing else changes. A strobe that arrives with expiries
still due takes them first, each as its own command does, in the order that log 2 fixes (State.dueOrder), and then counts.
An expiry command whose expiry is not due changes nothing. What happens to a late and to an idle expiry is the model's
choice (logs 2 and 3). -/
def Obligations.StrobesCountAndIdleExpiriesDoNothing : Prop :=
  (let down (n : Option Nat) : Option Nat := n.map (· - 1)
   let counted (s t : State) : Prop :=
      (∀ h : HeadIx, t.head h =
        { s.head h with
          startTimer := down (s.head h).startTimer, lockTimer := down (s.head h).lockTimer,
          holdoverTimer := down (s.head h).holdoverTimer,
          sweep := (s.head h).sweep.map fun p => { p with remaining := p.remaining - 1 } }) ∧
      t.links = s.links.map (fun e => (e.1, { e.2 with cycle := down e.2.cycle })) ∧
      t.reefers = s.reefers.map (fun e => (e.1,
        { e.2 with
          ackTimer := down e.2.ackTimer
          page := e.2.page.map fun p => { p with phase := match p.phase with | .sent n => .sent (n - 1) | q => q }
          poll := match e.2.poll with | .outstanding h n => .outstanding h (n - 1) | q => q })) ∧
      t =
        { s with
          frame := s.frame + 1, divider := if s.divider + 1 < 1000 then s.divider + 1 else 0,
          secondDue := s.secondDue || 1000 ≤ s.divider + 1, heads := t.heads, links := t.links, reefers := t.reefers }
   (∀ s : State, s.quiet → ∃ t, exec .frameStrobe s = .next t ∧ counted s t) ∧
   ∀ s : State, s.tablesLaw → ∃ t, exec .frameStrobe s = .next t ∧ counted (s.after s.dueOrder) t) ∧
  ∀ (s : State) (h : HeadIx) (l : Fin 32) (i : Fin 4096),
    ((s.head h).startTimer ≠ some 0 → exec (.startTimerExpiry h) s = .next s) ∧
    ((s.head h).lockTimer ≠ some 0 → exec (.lockWaitExpiry h) s = .next s) ∧
    ((s.head h).holdoverTimer ≠ some 0 → exec (.holdoverExpiry h) s = .next s) ∧
    ((∀ p, (s.head h).sweep = some p → p.remaining ≠ 0) → exec (.dwellExpiry h) s = .next s) ∧
    ((∀ x, s.links.get? l.val = some x → x.cycle ≠ some 0) → exec (.cycleExpiry l) s = .next s) ∧
    (s.secondDue = false → exec .secondExpiry s = .next s) ∧
    ((∀ r, s.reefers.get? i.val = some r → r.ackTimer ≠ some 0) → exec (.ackLimitExpiry i) s = .next s) ∧
    ((∀ r p, s.reefers.get? i.val = some r → r.page = some p → p.phase ≠ .sent 0) →
      exec (.pageAnswerExpiry i) s = .next s) ∧
    ((∀ r h, s.reefers.get? i.val = some r → r.poll ≠ .outstanding h 0) → exec (.pollAnswerExpiry i) s = .next s) ∧
    ((∀ r, s.reefers.get? i.val = some r → r.overdueDue = false) → exec (.overdueExpiry i) s = .next s)

/-- R160, R162, R163, R170: the oldest reply due goes out next; with none due the oldest queued notice does, leaving the
queue; the oldest order due goes down the quay link. Each line holds the last message begun (log 5), and with nothing
due a free line changes nothing (log 6). A notice posted replaces a queued one of its kind and subject in place, else
joins the tail, else, with 512 queued, is dropped and sets the notice-overflow flag. R173, R174, Tables 9-2, 9-3, 11-3,
11-6 and 11-7: the bytes of each reply header (of a part target, log 10), of each notice (its content by logs 8 and 11)
and of each order. -/
def Obligations.LinesSendTheOldestMessage : Prop :=
  (∀ s : State,
    (∀ a rest, s.replies = a :: rest →
      exec .replySend s = .next { s with replies := rest, portLine := some a.bytes } ∧ exec .noticeSend s = .next s) ∧
    (s.replies = [] → exec .replySend s = .next s) ∧
    (∀ n rest, s.replies = [] → s.notices = n :: rest →
      exec .noticeSend s = .next { s with notices := rest, portLine := some (n.bytes s) }) ∧
    (s.notices = [] → exec .noticeSend s = .next s) ∧
    (∀ o rest, s.orders = o :: rest →
      exec .orderSend s = .next { s with orders := rest, linkLine := some o.bytes }) ∧
    (s.orders = [] → exec .orderSend s = .next s) ∧
    ∀ (sub : Subject) (content : NoticeContent),
      let n : Notice := { subject := sub, content := content }
      let same (m : Notice) : Prop := m.subject = sub ∧ m.content.kind = content.kind
      (∀ before m behind, s.notices = before ++ m :: behind → same m → (∀ m' ∈ before ++ behind, ¬ same m') →
        s.post sub content = { s with notices := before ++ n :: behind }) ∧
      ((∀ m ∈ s.notices, ¬ same m) → s.notices.length < 512 →
        s.post sub content = { s with notices := s.notices ++ [n] }) ∧
      ((∀ m ∈ s.notices, ¬ same m) → 512 ≤ s.notices.length → s.post sub content = { s with overflow := true })) ∧
  let two (v : Nat) : List Byte := [BitVec.ofNat 8 (v / 256), BitVec.ofNat 8 v]
  let six (v : BitVec 48) : List Byte :=
    [v.extractLsb' 40 8, v.extractLsb' 32 8, v.extractLsb' 24 8, v.extractLsb' 16 8, v.extractLsb' 8 8,
      v.extractLsb' 0 8]
  let head (h : HeadIx) : Byte := BitVec.ofNat 8 h.val
  let nth {α : Type} [BEq α] (l : List α) (a : α) : Byte := BitVec.ofNat 8 (l.idxOf a)
  let result (r : Result) : Byte := nth
    [Result.done, .replaced, .busy, .unknownTarget, .duplicateTag, .tableFull, .wrongClass, .wrongState, .badOption,
      .missingOption, .noAirtime, .notServed, .notHeard, .inProgress, .queueFull, .alreadyAwake, .notCovered, .noPath,
      .failed, .retired] r
  let notice (k : NoticeKind) : Byte := 1 + nth
    [NoticeKind.handoverDone, .handoverFailed, .handoverBlocked, .serveLost, .craneState, .sideBlock, .reeferClass,
      .reeferContact, .headState] k
  let ending (c : HandoverCause) : Byte := nth
    [HandoverCause.entry, .trigger, .rescue, .noAnswer, .ordered, .released, .targetLost, .capacity, .restart] c
  let safe (c : Option SafeCause) : Byte := nth
    [none, some SafeCause.holdLimit, some .uplinkLimit, some .pathLost, some .ordered, some .restart] c
  let doze (d : Doze) : Byte := nth [Doze.awake, .light, .deep, .ordered] d
  let alarm (c : AlarmClass) : Byte := nth [AlarmClass.none, .advisory, .deviation, .critical] c
  (∀ a : Reply, a.bytes =
    [0x01, a.kind] ++ two a.reqTag.toNat ++
      [result a.result, (if a.clamped then 1 else 0) + (match a.identity with
        | .context _ _ | .head _ => 2
        | .part | .asGiven _ => 0)] ++
      (match a.identity with
        | .context k tag => two k ++ six tag
        | .head h => [0, head h] ++ six 0
        | .part => [0xFF, 0xFF] ++ six 0
        | .asGiven v => [0xFF, 0xFF] ++ six v) ++ a.body) ∧
  (∀ (m : Notice) (s : State), m.bytes s =
    [0x02, notice m.content.kind] ++
      (match m.subject with
        | .context k => two k ++ [0, 0, 0, 0] ++ six (((s.contexts.get? k).map (·.tag)).getD 0)
        | .head h => [0, head h] ++ [2, 0, 0, 0] ++ six 0) ++
      (match m.content with
        | .handoverDone old new cause =>
          (match old with | some h => [1, head h] | none => [0, 0]) ++ [head new, ending cause]
        | .handoverFailed serving target cause =>
          [(match serving with | some h => head h | none => 0xFF), head target, ending cause]
        | .handoverBlocked h => [head h]
        | .serveLost => []
        | .craneState st cause => [nth [LinkState.idle, .running, .holding, .safeStop] st, safe cause]
        | .sideBlock b => b.toList
        | .reeferClass new old supply used dev persist flags =>
          [alarm new, alarm old] ++
            (match supply with
              | some x => 1 :: two (BitVec.ofInt 16 x.value).toNat ++ [if x.clamped then 1 else 0]
              | none => [0, 0, 0, 0]) ++
            (match used with | some x => 1 :: two (BitVec.ofInt 16 x).toNat | none => [0, 0, 0]) ++
            (match dev with | some x => 1 :: two x | none => [0, 0, 0]) ++
            [BitVec.ofNat 8 persist] ++ two flags.toNat
        | .reeferContact contact d => [nth [Contact.reachable, .unreachable] contact, doze d]
        | .headState st cause e =>
          [nth [HeadState.offline, .starting, .active, .holdover, .faulted] st,
            nth [FaultCause.none, .lineOpen, .lineShort, .noLock, .holdoverExpired] cause, BitVec.ofNat 8 e])) ∧
  ∀ (h new : HeadIx) (tag : Tag) (current : Option Current) (switchTo from_ : Option HeadIx)
    (side : Option SideBytes) (body : DownBody) (x : Sector) (deep : Bool),
    (Order.craneDownlink h tag current body switchTo side).bytes =
      [0x40, head h] ++ six tag ++
        [(match body with
            | .stop _ => 1
            | .setpoint => if current.any fun y => !y.fresh then 8 else 0) +
          (if switchTo.isSome then 2 else 0) + (if side.isSome then 4 else 0)] ++
        (match current with
          | some y => two y.sp.seq.toNat ++ y.sp.bytes.toList
          | none => List.replicate 18 0) ++
        [(match body with | .stop cause => safe cause | .setpoint => 0),
          (match switchTo with | some g => head g | none => 0xFF)] ++
        (match side with
          | some y => [BitVec.ofNat 8 y.pos, y.frag.fst, y.frag.snd]
          | none => [0, 0, 0]) ∧
    (Order.serveOrder tag from_ new).bytes =
      [0x41] ++ six tag ++ [(match from_ with | some g => head g | none => 0xFF), head new] ∧
    (Order.drop h tag).bytes = [0x42, head h] ++ six tag ∧
    (Order.beam h none).bytes = [0x43, head h, 0xFF] ∧
    (Order.beam h (some x)).bytes = [0x43, head h, BitVec.ofNat 8 x.val] ∧
    (Order.page h tag).bytes = [0x44, head h] ++ six tag ∧ (Order.poll h tag).bytes = [0x45, head h] ++ six tag ∧
    (Order.dozeOrder h tag deep).bytes = [0x46, head h] ++ six tag ++ [if deep then 2 else 1]
end

