-- ==== Sys2Proof/Laws/State.lean ====
section
/-! SUPPORT. What each update of State leaves of each field, one lemma per field per update, and what the per-head
accessors read after an update. No later proof unfolds a record update. -/

namespace Sys2Proof.Machine

/-- An item of a bank of 24 after a write of one item. -/
theorem bank_get_set {α : Type} (v : Vector α 24) (h g : HeadIx) (x : α) :
    (v.set h.val x h.isLt).get g = if g = h then x else v.get g := by
  have e : ∀ (w : Vector α 24), w.get g = w[g.val] := fun _ => rfl
  rw [e, e, Vector.getElem_set]
  by_cases d : g = h
  · subst d; simp
  · rw [if_neg d, if_neg fun d' => d (Fin.ext d'.symm)]

/-- Writing an item of a bank as it stands changes nothing. -/
theorem bank_set_get {α : Type} (v : Vector α 24) (h : HeadIx) : v.set h.val (v.get h) h.isLt = v := by
  have e : v.get h = v[h.val] := rfl
  rw [e]; simp

variable (s : State)

/-! ### setHead -/

@[simp] theorem State.setHead_inflight (h : HeadIx) (x : Head) : (s.setHead h x).inflight = s.inflight := rfl
@[simp] theorem State.setHead_notices (h : HeadIx) (x : Head) : (s.setHead h x).notices = s.notices := rfl
@[simp] theorem State.setHead_replies (h : HeadIx) (x : Head) : (s.setHead h x).replies = s.replies := rfl
@[simp] theorem State.setHead_portLine (h : HeadIx) (x : Head) : (s.setHead h x).portLine = s.portLine := rfl
@[simp] theorem State.setHead_overflow (h : HeadIx) (x : Head) : (s.setHead h x).overflow = s.overflow := rfl
@[simp] theorem State.setHead_restartCause (h : HeadIx) (x : Head) : (s.setHead h x).restartCause = s.restartCause := rfl
@[simp] theorem State.setHead_unmatched (h : HeadIx) (x : Head) : (s.setHead h x).unmatched = s.unmatched := rfl
@[simp] theorem State.setHead_lastUnknown (h : HeadIx) (x : Head) : (s.setHead h x).lastUnknown = s.lastUnknown := rfl
@[simp] theorem State.setHead_orders (h : HeadIx) (x : Head) : (s.setHead h x).orders = s.orders := rfl
@[simp] theorem State.setHead_linkLine (h : HeadIx) (x : Head) : (s.setHead h x).linkLine = s.linkLine := rfl
@[simp] theorem State.setHead_frame (h : HeadIx) (x : Head) : (s.setHead h x).frame = s.frame := rfl
@[simp] theorem State.setHead_divider (h : HeadIx) (x : Head) : (s.setHead h x).divider = s.divider := rfl
@[simp] theorem State.setHead_secondDue (h : HeadIx) (x : Head) : (s.setHead h x).secondDue = s.secondDue := rfl
@[simp] theorem State.setHead_contexts (h : HeadIx) (x : Head) : (s.setHead h x).contexts = s.contexts := rfl
@[simp] theorem State.setHead_shadow (h : HeadIx) (x : Head) : (s.setHead h x).shadow = s.shadow := rfl
@[simp] theorem State.setHead_params (h : HeadIx) (x : Head) : (s.setHead h x).params = s.params := rfl
@[simp] theorem State.setHead_loadWeight (h : HeadIx) (x : Head) : (s.setHead h x).loadWeight = s.loadWeight := rfl
@[simp] theorem State.setHead_airtime (h : HeadIx) (x : Head) : (s.setHead h x).airtime = s.airtime := rfl
@[simp] theorem State.setHead_links (h : HeadIx) (x : Head) : (s.setHead h x).links = s.links := rfl
@[simp] theorem State.setHead_reefers (h : HeadIx) (x : Head) : (s.setHead h x).reefers = s.reefers := rfl
@[simp] theorem State.setHead_pageQueues (h : HeadIx) (x : Head) : (s.setHead h x).pageQueues = s.pageQueues := rfl
@[simp] theorem State.setHead_pollWaits (h : HeadIx) (x : Head) : (s.setHead h x).pollWaits = s.pollWaits := rfl
@[simp] theorem State.setHead_settings (h : HeadIx) (x : Head) : (s.setHead h x).settings = s.settings := rfl
@[simp] theorem State.setHead_pending (h : HeadIx) (x : Head) : (s.setHead h x).pending = s.pending := rfl

/-! ### modHead -/

@[simp] theorem State.modHead_inflight (h : HeadIx) (f : Head → Head) : (s.modHead h f).inflight = s.inflight := rfl
@[simp] theorem State.modHead_notices (h : HeadIx) (f : Head → Head) : (s.modHead h f).notices = s.notices := rfl
@[simp] theorem State.modHead_replies (h : HeadIx) (f : Head → Head) : (s.modHead h f).replies = s.replies := rfl
@[simp] theorem State.modHead_portLine (h : HeadIx) (f : Head → Head) : (s.modHead h f).portLine = s.portLine := rfl
@[simp] theorem State.modHead_overflow (h : HeadIx) (f : Head → Head) : (s.modHead h f).overflow = s.overflow := rfl
@[simp] theorem State.modHead_restartCause (h : HeadIx) (f : Head → Head) : (s.modHead h f).restartCause = s.restartCause := rfl
@[simp] theorem State.modHead_unmatched (h : HeadIx) (f : Head → Head) : (s.modHead h f).unmatched = s.unmatched := rfl
@[simp] theorem State.modHead_lastUnknown (h : HeadIx) (f : Head → Head) : (s.modHead h f).lastUnknown = s.lastUnknown := rfl
@[simp] theorem State.modHead_orders (h : HeadIx) (f : Head → Head) : (s.modHead h f).orders = s.orders := rfl
@[simp] theorem State.modHead_linkLine (h : HeadIx) (f : Head → Head) : (s.modHead h f).linkLine = s.linkLine := rfl
@[simp] theorem State.modHead_frame (h : HeadIx) (f : Head → Head) : (s.modHead h f).frame = s.frame := rfl
@[simp] theorem State.modHead_divider (h : HeadIx) (f : Head → Head) : (s.modHead h f).divider = s.divider := rfl
@[simp] theorem State.modHead_secondDue (h : HeadIx) (f : Head → Head) : (s.modHead h f).secondDue = s.secondDue := rfl
@[simp] theorem State.modHead_contexts (h : HeadIx) (f : Head → Head) : (s.modHead h f).contexts = s.contexts := rfl
@[simp] theorem State.modHead_shadow (h : HeadIx) (f : Head → Head) : (s.modHead h f).shadow = s.shadow := rfl
@[simp] theorem State.modHead_params (h : HeadIx) (f : Head → Head) : (s.modHead h f).params = s.params := rfl
@[simp] theorem State.modHead_loadWeight (h : HeadIx) (f : Head → Head) : (s.modHead h f).loadWeight = s.loadWeight := rfl
@[simp] theorem State.modHead_airtime (h : HeadIx) (f : Head → Head) : (s.modHead h f).airtime = s.airtime := rfl
@[simp] theorem State.modHead_links (h : HeadIx) (f : Head → Head) : (s.modHead h f).links = s.links := rfl
@[simp] theorem State.modHead_reefers (h : HeadIx) (f : Head → Head) : (s.modHead h f).reefers = s.reefers := rfl
@[simp] theorem State.modHead_pageQueues (h : HeadIx) (f : Head → Head) : (s.modHead h f).pageQueues = s.pageQueues := rfl
@[simp] theorem State.modHead_pollWaits (h : HeadIx) (f : Head → Head) : (s.modHead h f).pollWaits = s.pollWaits := rfl
@[simp] theorem State.modHead_settings (h : HeadIx) (f : Head → Head) : (s.modHead h f).settings = s.settings := rfl
@[simp] theorem State.modHead_pending (h : HeadIx) (f : Head → Head) : (s.modHead h f).pending = s.pending := rfl

/-! ### setAccount -/

@[simp] theorem State.setAccount_inflight (h : HeadIx) (a : Account) : (s.setAccount h a).inflight = s.inflight := rfl
@[simp] theorem State.setAccount_notices (h : HeadIx) (a : Account) : (s.setAccount h a).notices = s.notices := rfl
@[simp] theorem State.setAccount_replies (h : HeadIx) (a : Account) : (s.setAccount h a).replies = s.replies := rfl
@[simp] theorem State.setAccount_portLine (h : HeadIx) (a : Account) : (s.setAccount h a).portLine = s.portLine := rfl
@[simp] theorem State.setAccount_overflow (h : HeadIx) (a : Account) : (s.setAccount h a).overflow = s.overflow := rfl
@[simp] theorem State.setAccount_restartCause (h : HeadIx) (a : Account) : (s.setAccount h a).restartCause = s.restartCause := rfl
@[simp] theorem State.setAccount_unmatched (h : HeadIx) (a : Account) : (s.setAccount h a).unmatched = s.unmatched := rfl
@[simp] theorem State.setAccount_lastUnknown (h : HeadIx) (a : Account) : (s.setAccount h a).lastUnknown = s.lastUnknown := rfl
@[simp] theorem State.setAccount_orders (h : HeadIx) (a : Account) : (s.setAccount h a).orders = s.orders := rfl
@[simp] theorem State.setAccount_linkLine (h : HeadIx) (a : Account) : (s.setAccount h a).linkLine = s.linkLine := rfl
@[simp] theorem State.setAccount_frame (h : HeadIx) (a : Account) : (s.setAccount h a).frame = s.frame := rfl
@[simp] theorem State.setAccount_divider (h : HeadIx) (a : Account) : (s.setAccount h a).divider = s.divider := rfl
@[simp] theorem State.setAccount_secondDue (h : HeadIx) (a : Account) : (s.setAccount h a).secondDue = s.secondDue := rfl
@[simp] theorem State.setAccount_contexts (h : HeadIx) (a : Account) : (s.setAccount h a).contexts = s.contexts := rfl
@[simp] theorem State.setAccount_heads (h : HeadIx) (a : Account) : (s.setAccount h a).heads = s.heads := rfl
@[simp] theorem State.setAccount_shadow (h : HeadIx) (a : Account) : (s.setAccount h a).shadow = s.shadow := rfl
@[simp] theorem State.setAccount_params (h : HeadIx) (a : Account) : (s.setAccount h a).params = s.params := rfl
@[simp] theorem State.setAccount_loadWeight (h : HeadIx) (a : Account) : (s.setAccount h a).loadWeight = s.loadWeight := rfl
@[simp] theorem State.setAccount_links (h : HeadIx) (a : Account) : (s.setAccount h a).links = s.links := rfl
@[simp] theorem State.setAccount_reefers (h : HeadIx) (a : Account) : (s.setAccount h a).reefers = s.reefers := rfl
@[simp] theorem State.setAccount_pageQueues (h : HeadIx) (a : Account) : (s.setAccount h a).pageQueues = s.pageQueues := rfl
@[simp] theorem State.setAccount_pollWaits (h : HeadIx) (a : Account) : (s.setAccount h a).pollWaits = s.pollWaits := rfl
@[simp] theorem State.setAccount_settings (h : HeadIx) (a : Account) : (s.setAccount h a).settings = s.settings := rfl
@[simp] theorem State.setAccount_pending (h : HeadIx) (a : Account) : (s.setAccount h a).pending = s.pending := rfl

/-! ### modAccount -/

@[simp] theorem State.modAccount_inflight (h : HeadIx) (f : Account → Account) : (s.modAccount h f).inflight = s.inflight := rfl
@[simp] theorem State.modAccount_notices (h : HeadIx) (f : Account → Account) : (s.modAccount h f).notices = s.notices := rfl
@[simp] theorem State.modAccount_replies (h : HeadIx) (f : Account → Account) : (s.modAccount h f).replies = s.replies := rfl
@[simp] theorem State.modAccount_portLine (h : HeadIx) (f : Account → Account) : (s.modAccount h f).portLine = s.portLine := rfl
@[simp] theorem State.modAccount_overflow (h : HeadIx) (f : Account → Account) : (s.modAccount h f).overflow = s.overflow := rfl
@[simp] theorem State.modAccount_restartCause (h : HeadIx) (f : Account → Account) : (s.modAccount h f).restartCause = s.restartCause := rfl
@[simp] theorem State.modAccount_unmatched (h : HeadIx) (f : Account → Account) : (s.modAccount h f).unmatched = s.unmatched := rfl
@[simp] theorem State.modAccount_lastUnknown (h : HeadIx) (f : Account → Account) : (s.modAccount h f).lastUnknown = s.lastUnknown := rfl
@[simp] theorem State.modAccount_orders (h : HeadIx) (f : Account → Account) : (s.modAccount h f).orders = s.orders := rfl
@[simp] theorem State.modAccount_linkLine (h : HeadIx) (f : Account → Account) : (s.modAccount h f).linkLine = s.linkLine := rfl
@[simp] theorem State.modAccount_frame (h : HeadIx) (f : Account → Account) : (s.modAccount h f).frame = s.frame := rfl
@[simp] theorem State.modAccount_divider (h : HeadIx) (f : Account → Account) : (s.modAccount h f).divider = s.divider := rfl
@[simp] theorem State.modAccount_secondDue (h : HeadIx) (f : Account → Account) : (s.modAccount h f).secondDue = s.secondDue := rfl
@[simp] theorem State.modAccount_contexts (h : HeadIx) (f : Account → Account) : (s.modAccount h f).contexts = s.contexts := rfl
@[simp] theorem State.modAccount_heads (h : HeadIx) (f : Account → Account) : (s.modAccount h f).heads = s.heads := rfl
@[simp] theorem State.modAccount_shadow (h : HeadIx) (f : Account → Account) : (s.modAccount h f).shadow = s.shadow := rfl
@[simp] theorem State.modAccount_params (h : HeadIx) (f : Account → Account) : (s.modAccount h f).params = s.params := rfl
@[simp] theorem State.modAccount_loadWeight (h : HeadIx) (f : Account → Account) : (s.modAccount h f).loadWeight = s.loadWeight := rfl
@[simp] theorem State.modAccount_links (h : HeadIx) (f : Account → Account) : (s.modAccount h f).links = s.links := rfl
@[simp] theorem State.modAccount_reefers (h : HeadIx) (f : Account → Account) : (s.modAccount h f).reefers = s.reefers := rfl
@[simp] theorem State.modAccount_pageQueues (h : HeadIx) (f : Account → Account) : (s.modAccount h f).pageQueues = s.pageQueues := rfl
@[simp] theorem State.modAccount_pollWaits (h : HeadIx) (f : Account → Account) : (s.modAccount h f).pollWaits = s.pollWaits := rfl
@[simp] theorem State.modAccount_settings (h : HeadIx) (f : Account → Account) : (s.modAccount h f).settings = s.settings := rfl
@[simp] theorem State.modAccount_pending (h : HeadIx) (f : Account → Account) : (s.modAccount h f).pending = s.pending := rfl

/-! ### setPageQueue -/

@[simp] theorem State.setPageQueue_inflight (h : HeadIx) (q : List Nat) : (s.setPageQueue h q).inflight = s.inflight := rfl
@[simp] theorem State.setPageQueue_notices (h : HeadIx) (q : List Nat) : (s.setPageQueue h q).notices = s.notices := rfl
@[simp] theorem State.setPageQueue_replies (h : HeadIx) (q : List Nat) : (s.setPageQueue h q).replies = s.replies := rfl
@[simp] theorem State.setPageQueue_portLine (h : HeadIx) (q : List Nat) : (s.setPageQueue h q).portLine = s.portLine := rfl
@[simp] theorem State.setPageQueue_overflow (h : HeadIx) (q : List Nat) : (s.setPageQueue h q).overflow = s.overflow := rfl
@[simp] theorem State.setPageQueue_restartCause (h : HeadIx) (q : List Nat) : (s.setPageQueue h q).restartCause = s.restartCause := rfl
@[simp] theorem State.setPageQueue_unmatched (h : HeadIx) (q : List Nat) : (s.setPageQueue h q).unmatched = s.unmatched := rfl
@[simp] theorem State.setPageQueue_lastUnknown (h : HeadIx) (q : List Nat) : (s.setPageQueue h q).lastUnknown = s.lastUnknown := rfl
@[simp] theorem State.setPageQueue_orders (h : HeadIx) (q : List Nat) : (s.setPageQueue h q).orders = s.orders := rfl
@[simp] theorem State.setPageQueue_linkLine (h : HeadIx) (q : List Nat) : (s.setPageQueue h q).linkLine = s.linkLine := rfl
@[simp] theorem State.setPageQueue_frame (h : HeadIx) (q : List Nat) : (s.setPageQueue h q).frame = s.frame := rfl
@[simp] theorem State.setPageQueue_divider (h : HeadIx) (q : List Nat) : (s.setPageQueue h q).divider = s.divider := rfl
@[simp] theorem State.setPageQueue_secondDue (h : HeadIx) (q : List Nat) : (s.setPageQueue h q).secondDue = s.secondDue := rfl
@[simp] theorem State.setPageQueue_contexts (h : HeadIx) (q : List Nat) : (s.setPageQueue h q).contexts = s.contexts := rfl
@[simp] theorem State.setPageQueue_heads (h : HeadIx) (q : List Nat) : (s.setPageQueue h q).heads = s.heads := rfl
@[simp] theorem State.setPageQueue_shadow (h : HeadIx) (q : List Nat) : (s.setPageQueue h q).shadow = s.shadow := rfl
@[simp] theorem State.setPageQueue_params (h : HeadIx) (q : List Nat) : (s.setPageQueue h q).params = s.params := rfl
@[simp] theorem State.setPageQueue_loadWeight (h : HeadIx) (q : List Nat) : (s.setPageQueue h q).loadWeight = s.loadWeight := rfl
@[simp] theorem State.setPageQueue_airtime (h : HeadIx) (q : List Nat) : (s.setPageQueue h q).airtime = s.airtime := rfl
@[simp] theorem State.setPageQueue_links (h : HeadIx) (q : List Nat) : (s.setPageQueue h q).links = s.links := rfl
@[simp] theorem State.setPageQueue_reefers (h : HeadIx) (q : List Nat) : (s.setPageQueue h q).reefers = s.reefers := rfl
@[simp] theorem State.setPageQueue_pollWaits (h : HeadIx) (q : List Nat) : (s.setPageQueue h q).pollWaits = s.pollWaits := rfl
@[simp] theorem State.setPageQueue_settings (h : HeadIx) (q : List Nat) : (s.setPageQueue h q).settings = s.settings := rfl
@[simp] theorem State.setPageQueue_pending (h : HeadIx) (q : List Nat) : (s.setPageQueue h q).pending = s.pending := rfl

/-! ### setPollWait -/

@[simp] theorem State.setPollWait_inflight (h : HeadIx) (q : List Nat) : (s.setPollWait h q).inflight = s.inflight := rfl
@[simp] theorem State.setPollWait_notices (h : HeadIx) (q : List Nat) : (s.setPollWait h q).notices = s.notices := rfl
@[simp] theorem State.setPollWait_replies (h : HeadIx) (q : List Nat) : (s.setPollWait h q).replies = s.replies := rfl
@[simp] theorem State.setPollWait_portLine (h : HeadIx) (q : List Nat) : (s.setPollWait h q).portLine = s.portLine := rfl
@[simp] theorem State.setPollWait_overflow (h : HeadIx) (q : List Nat) : (s.setPollWait h q).overflow = s.overflow := rfl
@[simp] theorem State.setPollWait_restartCause (h : HeadIx) (q : List Nat) : (s.setPollWait h q).restartCause = s.restartCause := rfl
@[simp] theorem State.setPollWait_unmatched (h : HeadIx) (q : List Nat) : (s.setPollWait h q).unmatched = s.unmatched := rfl
@[simp] theorem State.setPollWait_lastUnknown (h : HeadIx) (q : List Nat) : (s.setPollWait h q).lastUnknown = s.lastUnknown := rfl
@[simp] theorem State.setPollWait_orders (h : HeadIx) (q : List Nat) : (s.setPollWait h q).orders = s.orders := rfl
@[simp] theorem State.setPollWait_linkLine (h : HeadIx) (q : List Nat) : (s.setPollWait h q).linkLine = s.linkLine := rfl
@[simp] theorem State.setPollWait_frame (h : HeadIx) (q : List Nat) : (s.setPollWait h q).frame = s.frame := rfl
@[simp] theorem State.setPollWait_divider (h : HeadIx) (q : List Nat) : (s.setPollWait h q).divider = s.divider := rfl
@[simp] theorem State.setPollWait_secondDue (h : HeadIx) (q : List Nat) : (s.setPollWait h q).secondDue = s.secondDue := rfl
@[simp] theorem State.setPollWait_contexts (h : HeadIx) (q : List Nat) : (s.setPollWait h q).contexts = s.contexts := rfl
@[simp] theorem State.setPollWait_heads (h : HeadIx) (q : List Nat) : (s.setPollWait h q).heads = s.heads := rfl
@[simp] theorem State.setPollWait_shadow (h : HeadIx) (q : List Nat) : (s.setPollWait h q).shadow = s.shadow := rfl
@[simp] theorem State.setPollWait_params (h : HeadIx) (q : List Nat) : (s.setPollWait h q).params = s.params := rfl
@[simp] theorem State.setPollWait_loadWeight (h : HeadIx) (q : List Nat) : (s.setPollWait h q).loadWeight = s.loadWeight := rfl
@[simp] theorem State.setPollWait_airtime (h : HeadIx) (q : List Nat) : (s.setPollWait h q).airtime = s.airtime := rfl
@[simp] theorem State.setPollWait_links (h : HeadIx) (q : List Nat) : (s.setPollWait h q).links = s.links := rfl
@[simp] theorem State.setPollWait_reefers (h : HeadIx) (q : List Nat) : (s.setPollWait h q).reefers = s.reefers := rfl
@[simp] theorem State.setPollWait_pageQueues (h : HeadIx) (q : List Nat) : (s.setPollWait h q).pageQueues = s.pageQueues := rfl
@[simp] theorem State.setPollWait_settings (h : HeadIx) (q : List Nat) : (s.setPollWait h q).settings = s.settings := rfl
@[simp] theorem State.setPollWait_pending (h : HeadIx) (q : List Nat) : (s.setPollWait h q).pending = s.pending := rfl

/-! ### modContext -/

@[simp] theorem State.modContext_inflight (k : Nat) (f : Context → Context) : (s.modContext k f).inflight = s.inflight := rfl
@[simp] theorem State.modContext_notices (k : Nat) (f : Context → Context) : (s.modContext k f).notices = s.notices := rfl
@[simp] theorem State.modContext_replies (k : Nat) (f : Context → Context) : (s.modContext k f).replies = s.replies := rfl
@[simp] theorem State.modContext_portLine (k : Nat) (f : Context → Context) : (s.modContext k f).portLine = s.portLine := rfl
@[simp] theorem State.modContext_overflow (k : Nat) (f : Context → Context) : (s.modContext k f).overflow = s.overflow := rfl
@[simp] theorem State.modContext_restartCause (k : Nat) (f : Context → Context) : (s.modContext k f).restartCause = s.restartCause := rfl
@[simp] theorem State.modContext_unmatched (k : Nat) (f : Context → Context) : (s.modContext k f).unmatched = s.unmatched := rfl
@[simp] theorem State.modContext_lastUnknown (k : Nat) (f : Context → Context) : (s.modContext k f).lastUnknown = s.lastUnknown := rfl
@[simp] theorem State.modContext_orders (k : Nat) (f : Context → Context) : (s.modContext k f).orders = s.orders := rfl
@[simp] theorem State.modContext_linkLine (k : Nat) (f : Context → Context) : (s.modContext k f).linkLine = s.linkLine := rfl
@[simp] theorem State.modContext_frame (k : Nat) (f : Context → Context) : (s.modContext k f).frame = s.frame := rfl
@[simp] theorem State.modContext_divider (k : Nat) (f : Context → Context) : (s.modContext k f).divider = s.divider := rfl
@[simp] theorem State.modContext_secondDue (k : Nat) (f : Context → Context) : (s.modContext k f).secondDue = s.secondDue := rfl
@[simp] theorem State.modContext_heads (k : Nat) (f : Context → Context) : (s.modContext k f).heads = s.heads := rfl
@[simp] theorem State.modContext_shadow (k : Nat) (f : Context → Context) : (s.modContext k f).shadow = s.shadow := rfl
@[simp] theorem State.modContext_params (k : Nat) (f : Context → Context) : (s.modContext k f).params = s.params := rfl
@[simp] theorem State.modContext_loadWeight (k : Nat) (f : Context → Context) : (s.modContext k f).loadWeight = s.loadWeight := rfl
@[simp] theorem State.modContext_airtime (k : Nat) (f : Context → Context) : (s.modContext k f).airtime = s.airtime := rfl
@[simp] theorem State.modContext_links (k : Nat) (f : Context → Context) : (s.modContext k f).links = s.links := rfl
@[simp] theorem State.modContext_reefers (k : Nat) (f : Context → Context) : (s.modContext k f).reefers = s.reefers := rfl
@[simp] theorem State.modContext_pageQueues (k : Nat) (f : Context → Context) : (s.modContext k f).pageQueues = s.pageQueues := rfl
@[simp] theorem State.modContext_pollWaits (k : Nat) (f : Context → Context) : (s.modContext k f).pollWaits = s.pollWaits := rfl
@[simp] theorem State.modContext_settings (k : Nat) (f : Context → Context) : (s.modContext k f).settings = s.settings := rfl
@[simp] theorem State.modContext_pending (k : Nat) (f : Context → Context) : (s.modContext k f).pending = s.pending := rfl
@[simp] theorem State.modContext_contexts (k : Nat) (f : Context → Context) : (s.modContext k f).contexts = s.contexts.modify k f := rfl

/-! ### modLink -/

@[simp] theorem State.modLink_inflight (l : Nat) (f : CraneLink → CraneLink) : (s.modLink l f).inflight = s.inflight := rfl
@[simp] theorem State.modLink_notices (l : Nat) (f : CraneLink → CraneLink) : (s.modLink l f).notices = s.notices := rfl
@[simp] theorem State.modLink_replies (l : Nat) (f : CraneLink → CraneLink) : (s.modLink l f).replies = s.replies := rfl
@[simp] theorem State.modLink_portLine (l : Nat) (f : CraneLink → CraneLink) : (s.modLink l f).portLine = s.portLine := rfl
@[simp] theorem State.modLink_overflow (l : Nat) (f : CraneLink → CraneLink) : (s.modLink l f).overflow = s.overflow := rfl
@[simp] theorem State.modLink_restartCause (l : Nat) (f : CraneLink → CraneLink) : (s.modLink l f).restartCause = s.restartCause := rfl
@[simp] theorem State.modLink_unmatched (l : Nat) (f : CraneLink → CraneLink) : (s.modLink l f).unmatched = s.unmatched := rfl
@[simp] theorem State.modLink_lastUnknown (l : Nat) (f : CraneLink → CraneLink) : (s.modLink l f).lastUnknown = s.lastUnknown := rfl
@[simp] theorem State.modLink_orders (l : Nat) (f : CraneLink → CraneLink) : (s.modLink l f).orders = s.orders := rfl
@[simp] theorem State.modLink_linkLine (l : Nat) (f : CraneLink → CraneLink) : (s.modLink l f).linkLine = s.linkLine := rfl
@[simp] theorem State.modLink_frame (l : Nat) (f : CraneLink → CraneLink) : (s.modLink l f).frame = s.frame := rfl
@[simp] theorem State.modLink_divider (l : Nat) (f : CraneLink → CraneLink) : (s.modLink l f).divider = s.divider := rfl
@[simp] theorem State.modLink_secondDue (l : Nat) (f : CraneLink → CraneLink) : (s.modLink l f).secondDue = s.secondDue := rfl
@[simp] theorem State.modLink_contexts (l : Nat) (f : CraneLink → CraneLink) : (s.modLink l f).contexts = s.contexts := rfl
@[simp] theorem State.modLink_heads (l : Nat) (f : CraneLink → CraneLink) : (s.modLink l f).heads = s.heads := rfl
@[simp] theorem State.modLink_shadow (l : Nat) (f : CraneLink → CraneLink) : (s.modLink l f).shadow = s.shadow := rfl
@[simp] theorem State.modLink_params (l : Nat) (f : CraneLink → CraneLink) : (s.modLink l f).params = s.params := rfl
@[simp] theorem State.modLink_loadWeight (l : Nat) (f : CraneLink → CraneLink) : (s.modLink l f).loadWeight = s.loadWeight := rfl
@[simp] theorem State.modLink_airtime (l : Nat) (f : CraneLink → CraneLink) : (s.modLink l f).airtime = s.airtime := rfl
@[simp] theorem State.modLink_reefers (l : Nat) (f : CraneLink → CraneLink) : (s.modLink l f).reefers = s.reefers := rfl
@[simp] theorem State.modLink_pageQueues (l : Nat) (f : CraneLink → CraneLink) : (s.modLink l f).pageQueues = s.pageQueues := rfl
@[simp] theorem State.modLink_pollWaits (l : Nat) (f : CraneLink → CraneLink) : (s.modLink l f).pollWaits = s.pollWaits := rfl
@[simp] theorem State.modLink_settings (l : Nat) (f : CraneLink → CraneLink) : (s.modLink l f).settings = s.settings := rfl
@[simp] theorem State.modLink_pending (l : Nat) (f : CraneLink → CraneLink) : (s.modLink l f).pending = s.pending := rfl
@[simp] theorem State.modLink_links (l : Nat) (f : CraneLink → CraneLink) : (s.modLink l f).links = s.links.modify l f := rfl

/-! ### modReefer -/

@[simp] theorem State.modReefer_inflight (i : Nat) (f : Reefer → Reefer) : (s.modReefer i f).inflight = s.inflight := rfl
@[simp] theorem State.modReefer_notices (i : Nat) (f : Reefer → Reefer) : (s.modReefer i f).notices = s.notices := rfl
@[simp] theorem State.modReefer_replies (i : Nat) (f : Reefer → Reefer) : (s.modReefer i f).replies = s.replies := rfl
@[simp] theorem State.modReefer_portLine (i : Nat) (f : Reefer → Reefer) : (s.modReefer i f).portLine = s.portLine := rfl
@[simp] theorem State.modReefer_overflow (i : Nat) (f : Reefer → Reefer) : (s.modReefer i f).overflow = s.overflow := rfl
@[simp] theorem State.modReefer_restartCause (i : Nat) (f : Reefer → Reefer) : (s.modReefer i f).restartCause = s.restartCause := rfl
@[simp] theorem State.modReefer_unmatched (i : Nat) (f : Reefer → Reefer) : (s.modReefer i f).unmatched = s.unmatched := rfl
@[simp] theorem State.modReefer_lastUnknown (i : Nat) (f : Reefer → Reefer) : (s.modReefer i f).lastUnknown = s.lastUnknown := rfl
@[simp] theorem State.modReefer_orders (i : Nat) (f : Reefer → Reefer) : (s.modReefer i f).orders = s.orders := rfl
@[simp] theorem State.modReefer_linkLine (i : Nat) (f : Reefer → Reefer) : (s.modReefer i f).linkLine = s.linkLine := rfl
@[simp] theorem State.modReefer_frame (i : Nat) (f : Reefer → Reefer) : (s.modReefer i f).frame = s.frame := rfl
@[simp] theorem State.modReefer_divider (i : Nat) (f : Reefer → Reefer) : (s.modReefer i f).divider = s.divider := rfl
@[simp] theorem State.modReefer_secondDue (i : Nat) (f : Reefer → Reefer) : (s.modReefer i f).secondDue = s.secondDue := rfl
@[simp] theorem State.modReefer_contexts (i : Nat) (f : Reefer → Reefer) : (s.modReefer i f).contexts = s.contexts := rfl
@[simp] theorem State.modReefer_heads (i : Nat) (f : Reefer → Reefer) : (s.modReefer i f).heads = s.heads := rfl
@[simp] theorem State.modReefer_shadow (i : Nat) (f : Reefer → Reefer) : (s.modReefer i f).shadow = s.shadow := rfl
@[simp] theorem State.modReefer_params (i : Nat) (f : Reefer → Reefer) : (s.modReefer i f).params = s.params := rfl
@[simp] theorem State.modReefer_loadWeight (i : Nat) (f : Reefer → Reefer) : (s.modReefer i f).loadWeight = s.loadWeight := rfl
@[simp] theorem State.modReefer_airtime (i : Nat) (f : Reefer → Reefer) : (s.modReefer i f).airtime = s.airtime := rfl
@[simp] theorem State.modReefer_links (i : Nat) (f : Reefer → Reefer) : (s.modReefer i f).links = s.links := rfl
@[simp] theorem State.modReefer_pageQueues (i : Nat) (f : Reefer → Reefer) : (s.modReefer i f).pageQueues = s.pageQueues := rfl
@[simp] theorem State.modReefer_pollWaits (i : Nat) (f : Reefer → Reefer) : (s.modReefer i f).pollWaits = s.pollWaits := rfl
@[simp] theorem State.modReefer_settings (i : Nat) (f : Reefer → Reefer) : (s.modReefer i f).settings = s.settings := rfl
@[simp] theorem State.modReefer_pending (i : Nat) (f : Reefer → Reefer) : (s.modReefer i f).pending = s.pending := rfl
@[simp] theorem State.modReefer_reefers (i : Nat) (f : Reefer → Reefer) : (s.modReefer i f).reefers = s.reefers.modify i f := rfl

/-! ### order -/

@[simp] theorem State.order_inflight (o : Order) : (s.order o).inflight = s.inflight := rfl
@[simp] theorem State.order_notices (o : Order) : (s.order o).notices = s.notices := rfl
@[simp] theorem State.order_replies (o : Order) : (s.order o).replies = s.replies := rfl
@[simp] theorem State.order_portLine (o : Order) : (s.order o).portLine = s.portLine := rfl
@[simp] theorem State.order_overflow (o : Order) : (s.order o).overflow = s.overflow := rfl
@[simp] theorem State.order_restartCause (o : Order) : (s.order o).restartCause = s.restartCause := rfl
@[simp] theorem State.order_unmatched (o : Order) : (s.order o).unmatched = s.unmatched := rfl
@[simp] theorem State.order_lastUnknown (o : Order) : (s.order o).lastUnknown = s.lastUnknown := rfl
@[simp] theorem State.order_linkLine (o : Order) : (s.order o).linkLine = s.linkLine := rfl
@[simp] theorem State.order_frame (o : Order) : (s.order o).frame = s.frame := rfl
@[simp] theorem State.order_divider (o : Order) : (s.order o).divider = s.divider := rfl
@[simp] theorem State.order_secondDue (o : Order) : (s.order o).secondDue = s.secondDue := rfl
@[simp] theorem State.order_contexts (o : Order) : (s.order o).contexts = s.contexts := rfl
@[simp] theorem State.order_heads (o : Order) : (s.order o).heads = s.heads := rfl
@[simp] theorem State.order_shadow (o : Order) : (s.order o).shadow = s.shadow := rfl
@[simp] theorem State.order_params (o : Order) : (s.order o).params = s.params := rfl
@[simp] theorem State.order_loadWeight (o : Order) : (s.order o).loadWeight = s.loadWeight := rfl
@[simp] theorem State.order_airtime (o : Order) : (s.order o).airtime = s.airtime := rfl
@[simp] theorem State.order_links (o : Order) : (s.order o).links = s.links := rfl
@[simp] theorem State.order_reefers (o : Order) : (s.order o).reefers = s.reefers := rfl
@[simp] theorem State.order_pageQueues (o : Order) : (s.order o).pageQueues = s.pageQueues := rfl
@[simp] theorem State.order_pollWaits (o : Order) : (s.order o).pollWaits = s.pollWaits := rfl
@[simp] theorem State.order_settings (o : Order) : (s.order o).settings = s.settings := rfl
@[simp] theorem State.order_pending (o : Order) : (s.order o).pending = s.pending := rfl
@[simp] theorem State.order_orders (o : Order) : (s.order o).orders = s.orders ++ [o] := rfl

/-! ### reply -/

@[simp] theorem State.reply_inflight (r : Reply) : (s.reply r).inflight = s.inflight := rfl
@[simp] theorem State.reply_notices (r : Reply) : (s.reply r).notices = s.notices := rfl
@[simp] theorem State.reply_portLine (r : Reply) : (s.reply r).portLine = s.portLine := rfl
@[simp] theorem State.reply_overflow (r : Reply) : (s.reply r).overflow = s.overflow := rfl
@[simp] theorem State.reply_restartCause (r : Reply) : (s.reply r).restartCause = s.restartCause := rfl
@[simp] theorem State.reply_unmatched (r : Reply) : (s.reply r).unmatched = s.unmatched := rfl
@[simp] theorem State.reply_lastUnknown (r : Reply) : (s.reply r).lastUnknown = s.lastUnknown := rfl
@[simp] theorem State.reply_orders (r : Reply) : (s.reply r).orders = s.orders := rfl
@[simp] theorem State.reply_linkLine (r : Reply) : (s.reply r).linkLine = s.linkLine := rfl
@[simp] theorem State.reply_frame (r : Reply) : (s.reply r).frame = s.frame := rfl
@[simp] theorem State.reply_divider (r : Reply) : (s.reply r).divider = s.divider := rfl
@[simp] theorem State.reply_secondDue (r : Reply) : (s.reply r).secondDue = s.secondDue := rfl
@[simp] theorem State.reply_contexts (r : Reply) : (s.reply r).contexts = s.contexts := rfl
@[simp] theorem State.reply_heads (r : Reply) : (s.reply r).heads = s.heads := rfl
@[simp] theorem State.reply_shadow (r : Reply) : (s.reply r).shadow = s.shadow := rfl
@[simp] theorem State.reply_params (r : Reply) : (s.reply r).params = s.params := rfl
@[simp] theorem State.reply_loadWeight (r : Reply) : (s.reply r).loadWeight = s.loadWeight := rfl
@[simp] theorem State.reply_airtime (r : Reply) : (s.reply r).airtime = s.airtime := rfl
@[simp] theorem State.reply_links (r : Reply) : (s.reply r).links = s.links := rfl
@[simp] theorem State.reply_reefers (r : Reply) : (s.reply r).reefers = s.reefers := rfl
@[simp] theorem State.reply_pageQueues (r : Reply) : (s.reply r).pageQueues = s.pageQueues := rfl
@[simp] theorem State.reply_pollWaits (r : Reply) : (s.reply r).pollWaits = s.pollWaits := rfl
@[simp] theorem State.reply_settings (r : Reply) : (s.reply r).settings = s.settings := rfl
@[simp] theorem State.reply_pending (r : Reply) : (s.reply r).pending = s.pending := rfl
@[simp] theorem State.reply_replies (r : Reply) : (s.reply r).replies = s.replies ++ [r] := rfl

/-! ### joinInflight -/

@[simp] theorem State.joinInflight_notices (e : InFlight) : (s.joinInflight e).notices = s.notices := rfl
@[simp] theorem State.joinInflight_replies (e : InFlight) : (s.joinInflight e).replies = s.replies := rfl
@[simp] theorem State.joinInflight_portLine (e : InFlight) : (s.joinInflight e).portLine = s.portLine := rfl
@[simp] theorem State.joinInflight_overflow (e : InFlight) : (s.joinInflight e).overflow = s.overflow := rfl
@[simp] theorem State.joinInflight_restartCause (e : InFlight) : (s.joinInflight e).restartCause = s.restartCause := rfl
@[simp] theorem State.joinInflight_unmatched (e : InFlight) : (s.joinInflight e).unmatched = s.unmatched := rfl
@[simp] theorem State.joinInflight_lastUnknown (e : InFlight) : (s.joinInflight e).lastUnknown = s.lastUnknown := rfl
@[simp] theorem State.joinInflight_orders (e : InFlight) : (s.joinInflight e).orders = s.orders := rfl
@[simp] theorem State.joinInflight_linkLine (e : InFlight) : (s.joinInflight e).linkLine = s.linkLine := rfl
@[simp] theorem State.joinInflight_frame (e : InFlight) : (s.joinInflight e).frame = s.frame := rfl
@[simp] theorem State.joinInflight_divider (e : InFlight) : (s.joinInflight e).divider = s.divider := rfl
@[simp] theorem State.joinInflight_secondDue (e : InFlight) : (s.joinInflight e).secondDue = s.secondDue := rfl
@[simp] theorem State.joinInflight_contexts (e : InFlight) : (s.joinInflight e).contexts = s.contexts := rfl
@[simp] theorem State.joinInflight_heads (e : InFlight) : (s.joinInflight e).heads = s.heads := rfl
@[simp] theorem State.joinInflight_shadow (e : InFlight) : (s.joinInflight e).shadow = s.shadow := rfl
@[simp] theorem State.joinInflight_params (e : InFlight) : (s.joinInflight e).params = s.params := rfl
@[simp] theorem State.joinInflight_loadWeight (e : InFlight) : (s.joinInflight e).loadWeight = s.loadWeight := rfl
@[simp] theorem State.joinInflight_airtime (e : InFlight) : (s.joinInflight e).airtime = s.airtime := rfl
@[simp] theorem State.joinInflight_links (e : InFlight) : (s.joinInflight e).links = s.links := rfl
@[simp] theorem State.joinInflight_reefers (e : InFlight) : (s.joinInflight e).reefers = s.reefers := rfl
@[simp] theorem State.joinInflight_pageQueues (e : InFlight) : (s.joinInflight e).pageQueues = s.pageQueues := rfl
@[simp] theorem State.joinInflight_pollWaits (e : InFlight) : (s.joinInflight e).pollWaits = s.pollWaits := rfl
@[simp] theorem State.joinInflight_settings (e : InFlight) : (s.joinInflight e).settings = s.settings := rfl
@[simp] theorem State.joinInflight_pending (e : InFlight) : (s.joinInflight e).pending = s.pending := rfl
@[simp] theorem State.joinInflight_inflight (e : InFlight) : (s.joinInflight e).inflight = s.inflight ++ [e] := rfl

/-! ### unmatchedEvent -/

@[simp] theorem State.unmatchedEvent_inflight (t : Option Tag) : (s.unmatchedEvent t).inflight = s.inflight := rfl
@[simp] theorem State.unmatchedEvent_notices (t : Option Tag) : (s.unmatchedEvent t).notices = s.notices := rfl
@[simp] theorem State.unmatchedEvent_replies (t : Option Tag) : (s.unmatchedEvent t).replies = s.replies := rfl
@[simp] theorem State.unmatchedEvent_portLine (t : Option Tag) : (s.unmatchedEvent t).portLine = s.portLine := rfl
@[simp] theorem State.unmatchedEvent_overflow (t : Option Tag) : (s.unmatchedEvent t).overflow = s.overflow := rfl
@[simp] theorem State.unmatchedEvent_restartCause (t : Option Tag) : (s.unmatchedEvent t).restartCause = s.restartCause := rfl
@[simp] theorem State.unmatchedEvent_orders (t : Option Tag) : (s.unmatchedEvent t).orders = s.orders := rfl
@[simp] theorem State.unmatchedEvent_linkLine (t : Option Tag) : (s.unmatchedEvent t).linkLine = s.linkLine := rfl
@[simp] theorem State.unmatchedEvent_frame (t : Option Tag) : (s.unmatchedEvent t).frame = s.frame := rfl
@[simp] theorem State.unmatchedEvent_divider (t : Option Tag) : (s.unmatchedEvent t).divider = s.divider := rfl
@[simp] theorem State.unmatchedEvent_secondDue (t : Option Tag) : (s.unmatchedEvent t).secondDue = s.secondDue := rfl
@[simp] theorem State.unmatchedEvent_contexts (t : Option Tag) : (s.unmatchedEvent t).contexts = s.contexts := rfl
@[simp] theorem State.unmatchedEvent_heads (t : Option Tag) : (s.unmatchedEvent t).heads = s.heads := rfl
@[simp] theorem State.unmatchedEvent_shadow (t : Option Tag) : (s.unmatchedEvent t).shadow = s.shadow := rfl
@[simp] theorem State.unmatchedEvent_params (t : Option Tag) : (s.unmatchedEvent t).params = s.params := rfl
@[simp] theorem State.unmatchedEvent_loadWeight (t : Option Tag) : (s.unmatchedEvent t).loadWeight = s.loadWeight := rfl
@[simp] theorem State.unmatchedEvent_airtime (t : Option Tag) : (s.unmatchedEvent t).airtime = s.airtime := rfl
@[simp] theorem State.unmatchedEvent_links (t : Option Tag) : (s.unmatchedEvent t).links = s.links := rfl
@[simp] theorem State.unmatchedEvent_reefers (t : Option Tag) : (s.unmatchedEvent t).reefers = s.reefers := rfl
@[simp] theorem State.unmatchedEvent_pageQueues (t : Option Tag) : (s.unmatchedEvent t).pageQueues = s.pageQueues := rfl
@[simp] theorem State.unmatchedEvent_pollWaits (t : Option Tag) : (s.unmatchedEvent t).pollWaits = s.pollWaits := rfl
@[simp] theorem State.unmatchedEvent_settings (t : Option Tag) : (s.unmatchedEvent t).settings = s.settings := rfl
@[simp] theorem State.unmatchedEvent_pending (t : Option Tag) : (s.unmatchedEvent t).pending = s.pending := rfl

/-! ### What the per-head accessors read -/

/-- Reading after a write of one head: the value written at that head, the old value elsewhere. -/
theorem State.head_setHead (h g : HeadIx) (x : Head) : (s.setHead h x).head g = if g = h then x else s.head g :=
  bank_get_set _ h g x

@[simp] theorem State.head_setHead_self (h : HeadIx) (x : Head) : (s.setHead h x).head h = x := by
  rw [State.head_setHead, if_pos rfl]

theorem State.head_setHead_of_ne {h g : HeadIx} (x : Head) (e : g ≠ h) : (s.setHead h x).head g = s.head g := by
  rw [State.head_setHead, if_neg e]

@[simp] theorem State.head_setAccount (g : HeadIx) (h : HeadIx) (a : Account) : (s.setAccount h a).head g = s.head g := rfl
@[simp] theorem State.head_modAccount (g : HeadIx) (h : HeadIx) (f : Account → Account) : (s.modAccount h f).head g = s.head g := rfl
@[simp] theorem State.head_setPageQueue (g : HeadIx) (h : HeadIx) (q : List Nat) : (s.setPageQueue h q).head g = s.head g := rfl
@[simp] theorem State.head_setPollWait (g : HeadIx) (h : HeadIx) (q : List Nat) : (s.setPollWait h q).head g = s.head g := rfl
@[simp] theorem State.head_modContext (g : HeadIx) (k : Nat) (f : Context → Context) : (s.modContext k f).head g = s.head g := rfl
@[simp] theorem State.head_modLink (g : HeadIx) (l : Nat) (f : CraneLink → CraneLink) : (s.modLink l f).head g = s.head g := rfl
@[simp] theorem State.head_modReefer (g : HeadIx) (i : Nat) (f : Reefer → Reefer) : (s.modReefer i f).head g = s.head g := rfl
@[simp] theorem State.head_order (g : HeadIx) (o : Order) : (s.order o).head g = s.head g := rfl
@[simp] theorem State.head_reply (g : HeadIx) (r : Reply) : (s.reply r).head g = s.head g := rfl
@[simp] theorem State.head_joinInflight (g : HeadIx) (e : InFlight) : (s.joinInflight e).head g = s.head g := rfl
@[simp] theorem State.head_unmatchedEvent (g : HeadIx) (t : Option Tag) : (s.unmatchedEvent t).head g = s.head g := rfl

/-- Reading after a write of one head: the value written at that head, the old value elsewhere. -/
theorem State.account_setAccount (h g : HeadIx) (x : Account) : (s.setAccount h x).account g = if g = h then x else s.account g :=
  bank_get_set _ h g x

@[simp] theorem State.account_setAccount_self (h : HeadIx) (x : Account) : (s.setAccount h x).account h = x := by
  rw [State.account_setAccount, if_pos rfl]

theorem State.account_setAccount_of_ne {h g : HeadIx} (x : Account) (e : g ≠ h) : (s.setAccount h x).account g = s.account g := by
  rw [State.account_setAccount, if_neg e]

@[simp] theorem State.account_setHead (g : HeadIx) (h : HeadIx) (x : Head) : (s.setHead h x).account g = s.account g := rfl
@[simp] theorem State.account_modHead (g : HeadIx) (h : HeadIx) (f : Head → Head) : (s.modHead h f).account g = s.account g := rfl
@[simp] theorem State.account_setPageQueue (g : HeadIx) (h : HeadIx) (q : List Nat) : (s.setPageQueue h q).account g = s.account g := rfl
@[simp] theorem State.account_setPollWait (g : HeadIx) (h : HeadIx) (q : List Nat) : (s.setPollWait h q).account g = s.account g := rfl
@[simp] theorem State.account_modContext (g : HeadIx) (k : Nat) (f : Context → Context) : (s.modContext k f).account g = s.account g := rfl
@[simp] theorem State.account_modLink (g : HeadIx) (l : Nat) (f : CraneLink → CraneLink) : (s.modLink l f).account g = s.account g := rfl
@[simp] theorem State.account_modReefer (g : HeadIx) (i : Nat) (f : Reefer → Reefer) : (s.modReefer i f).account g = s.account g := rfl
@[simp] theorem State.account_order (g : HeadIx) (o : Order) : (s.order o).account g = s.account g := rfl
@[simp] theorem State.account_reply (g : HeadIx) (r : Reply) : (s.reply r).account g = s.account g := rfl
@[simp] theorem State.account_joinInflight (g : HeadIx) (e : InFlight) : (s.joinInflight e).account g = s.account g := rfl
@[simp] theorem State.account_unmatchedEvent (g : HeadIx) (t : Option Tag) : (s.unmatchedEvent t).account g = s.account g := rfl

/-- Reading after a write of one head: the value written at that head, the old value elsewhere. -/
theorem State.pageQueue_setPageQueue (h g : HeadIx) (x : List Nat) : (s.setPageQueue h x).pageQueue g = if g = h then x else s.pageQueue g :=
  bank_get_set _ h g x

@[simp] theorem State.pageQueue_setPageQueue_self (h : HeadIx) (x : List Nat) : (s.setPageQueue h x).pageQueue h = x := by
  rw [State.pageQueue_setPageQueue, if_pos rfl]

theorem State.pageQueue_setPageQueue_of_ne {h g : HeadIx} (x : List Nat) (e : g ≠ h) : (s.setPageQueue h x).pageQueue g = s.pageQueue g := by
  rw [State.pageQueue_setPageQueue, if_neg e]

@[simp] theorem State.pageQueue_setHead (g : HeadIx) (h : HeadIx) (x : Head) : (s.setHead h x).pageQueue g = s.pageQueue g := rfl
@[simp] theorem State.pageQueue_modHead (g : HeadIx) (h : HeadIx) (f : Head → Head) : (s.modHead h f).pageQueue g = s.pageQueue g := rfl
@[simp] theorem State.pageQueue_setAccount (g : HeadIx) (h : HeadIx) (a : Account) : (s.setAccount h a).pageQueue g = s.pageQueue g := rfl
@[simp] theorem State.pageQueue_modAccount (g : HeadIx) (h : HeadIx) (f : Account → Account) : (s.modAccount h f).pageQueue g = s.pageQueue g := rfl
@[simp] theorem State.pageQueue_setPollWait (g : HeadIx) (h : HeadIx) (q : List Nat) : (s.setPollWait h q).pageQueue g = s.pageQueue g := rfl
@[simp] theorem State.pageQueue_modContext (g : HeadIx) (k : Nat) (f : Context → Context) : (s.modContext k f).pageQueue g = s.pageQueue g := rfl
@[simp] theorem State.pageQueue_modLink (g : HeadIx) (l : Nat) (f : CraneLink → CraneLink) : (s.modLink l f).pageQueue g = s.pageQueue g := rfl
@[simp] theorem State.pageQueue_modReefer (g : HeadIx) (i : Nat) (f : Reefer → Reefer) : (s.modReefer i f).pageQueue g = s.pageQueue g := rfl
@[simp] theorem State.pageQueue_order (g : HeadIx) (o : Order) : (s.order o).pageQueue g = s.pageQueue g := rfl
@[simp] theorem State.pageQueue_reply (g : HeadIx) (r : Reply) : (s.reply r).pageQueue g = s.pageQueue g := rfl
@[simp] theorem State.pageQueue_joinInflight (g : HeadIx) (e : InFlight) : (s.joinInflight e).pageQueue g = s.pageQueue g := rfl
@[simp] theorem State.pageQueue_unmatchedEvent (g : HeadIx) (t : Option Tag) : (s.unmatchedEvent t).pageQueue g = s.pageQueue g := rfl

/-- Reading after a write of one head: the value written at that head, the old value elsewhere. -/
theorem State.pollWait_setPollWait (h g : HeadIx) (x : List Nat) : (s.setPollWait h x).pollWait g = if g = h then x else s.pollWait g :=
  bank_get_set _ h g x

@[simp] theorem State.pollWait_setPollWait_self (h : HeadIx) (x : List Nat) : (s.setPollWait h x).pollWait h = x := by
  rw [State.pollWait_setPollWait, if_pos rfl]

theorem State.pollWait_setPollWait_of_ne {h g : HeadIx} (x : List Nat) (e : g ≠ h) : (s.setPollWait h x).pollWait g = s.pollWait g := by
  rw [State.pollWait_setPollWait, if_neg e]

@[simp] theorem State.pollWait_setHead (g : HeadIx) (h : HeadIx) (x : Head) : (s.setHead h x).pollWait g = s.pollWait g := rfl
@[simp] theorem State.pollWait_modHead (g : HeadIx) (h : HeadIx) (f : Head → Head) : (s.modHead h f).pollWait g = s.pollWait g := rfl
@[simp] theorem State.pollWait_setAccount (g : HeadIx) (h : HeadIx) (a : Account) : (s.setAccount h a).pollWait g = s.pollWait g := rfl
@[simp] theorem State.pollWait_modAccount (g : HeadIx) (h : HeadIx) (f : Account → Account) : (s.modAccount h f).pollWait g = s.pollWait g := rfl
@[simp] theorem State.pollWait_setPageQueue (g : HeadIx) (h : HeadIx) (q : List Nat) : (s.setPageQueue h q).pollWait g = s.pollWait g := rfl
@[simp] theorem State.pollWait_modContext (g : HeadIx) (k : Nat) (f : Context → Context) : (s.modContext k f).pollWait g = s.pollWait g := rfl
@[simp] theorem State.pollWait_modLink (g : HeadIx) (l : Nat) (f : CraneLink → CraneLink) : (s.modLink l f).pollWait g = s.pollWait g := rfl
@[simp] theorem State.pollWait_modReefer (g : HeadIx) (i : Nat) (f : Reefer → Reefer) : (s.modReefer i f).pollWait g = s.pollWait g := rfl
@[simp] theorem State.pollWait_order (g : HeadIx) (o : Order) : (s.order o).pollWait g = s.pollWait g := rfl
@[simp] theorem State.pollWait_reply (g : HeadIx) (r : Reply) : (s.reply r).pollWait g = s.pollWait g := rfl
@[simp] theorem State.pollWait_joinInflight (g : HeadIx) (e : InFlight) : (s.joinInflight e).pollWait g = s.pollWait g := rfl
@[simp] theorem State.pollWait_unmatchedEvent (g : HeadIx) (t : Option Tag) : (s.unmatchedEvent t).pollWait g = s.pollWait g := rfl

@[simp] theorem State.modHead_eq (h : HeadIx) (f : Head → Head) : s.modHead h f = s.setHead h (f (s.head h)) := rfl
@[simp] theorem State.modAccount_eq (h : HeadIx) (f : Account → Account) :
    s.modAccount h f = s.setAccount h (f (s.account h)) := rfl

/-! ### Repeated and idle writes -/

@[simp] theorem State.setHead_setHead (h : HeadIx) (x y : Head) : (s.setHead h x).setHead h y = s.setHead h y := by
  simp [State.setHead]

@[simp] theorem State.setAccount_setAccount (h : HeadIx) (x y : Account) :
    (s.setAccount h x).setAccount h y = s.setAccount h y := by
  simp [State.setAccount]

/-- Writing a head's record as it stands changes nothing. -/
@[simp] theorem State.setHead_head (h : HeadIx) : s.setHead h (s.head h) = s := by
  unfold State.setHead State.head
  rw [bank_set_get]

/-- Writing a head's account as it stands changes nothing. -/
@[simp] theorem State.setAccount_account (h : HeadIx) : s.setAccount h (s.account h) = s := by
  unfold State.setAccount State.account
  rw [bank_set_get]

end Sys2Proof.Machine
end

