-- ==== Sys2Proof/Laws/Tables.lean ====
section
/-! SUPPORT. The tables of contexts, crane links and reefer records: what a lookup gives after each update, that every
update keeps the canonical form, and what the lowest free slot is. -/

namespace Sys2Proof.Machine

variable {α : Type}

/-! ### Lookup after an update -/

@[simp] theorem Table.get?_nil (k : Nat) : Table.get? ([] : Table α) k = none := rfl

theorem Table.get?_cons (k j : Nat) (v : α) (t : Table α) :
    Table.get? ((j, v) :: t) k = if k = j then some v else t.get? k := rfl

theorem Table.get?_set (t : Table α) (k j : Nat) (v : α) :
    (t.set k v).get? j = if j = k then some v else t.get? j := by
  induction t with
  | nil => rfl
  | cons e t ih =>
    obtain ⟨k', v'⟩ := e
    simp only [Table.set]
    split
    · simp [Table.get?]
    · split
      · subst k'
        simp only [Table.get?]
        split <;> simp_all
      · simp only [Table.get?, ih]
        split
        · subst j
          rw [if_neg (by omega)]
        · rfl

@[simp] theorem Table.get?_set_self (t : Table α) (k : Nat) (v : α) : (t.set k v).get? k = some v := by
  rw [Table.get?_set, if_pos rfl]

theorem Table.get?_set_of_ne (t : Table α) {k j : Nat} (v : α) (h : j ≠ k) : (t.set k v).get? j = t.get? j := by
  rw [Table.get?_set, if_neg h]

theorem Table.get?_erase (t : Table α) (k j : Nat) : (t.erase k).get? j = if j = k then none else t.get? j := by
  induction t with
  | nil => simp [Table.erase]
  | cons e t ih =>
    obtain ⟨k', v'⟩ := e
    simp only [Table.erase, List.filter_cons] at ih ⊢
    by_cases h : k' = k
    · subst k'
      simp only [bne_self_eq_false, Bool.false_eq_true, if_false, ih, Table.get?]
      split <;> simp_all
    · have h' : (k' != k) = true := by simpa using h
      simp only [h', if_true, Table.get?, ih]
      split
      · subst j
        rw [if_neg h]
      · rfl

theorem Table.get?_modify (t : Table α) (k j : Nat) (f : α → α) :
    (t.modify k f).get? j = if j = k then (t.get? j).map f else t.get? j := by
  induction t with
  | nil => simp [Table.modify]
  | cons e t ih =>
    obtain ⟨k', v'⟩ := e
    simp only [Table.modify, List.map_cons] at ih ⊢
    by_cases h : k' = k
    · subst k'
      simp only [if_true, Table.get?, ih]
      split <;> simp_all
    · simp only [if_neg h, Table.get?, ih]
      split
      · subst j
        rw [if_neg h]
      · rfl

theorem Table.get?_modify_self (t : Table α) (k : Nat) (f : α → α) : (t.modify k f).get? k = (t.get? k).map f := by
  rw [Table.get?_modify, if_pos rfl]

theorem Table.get?_modify_of_ne (t : Table α) {k j : Nat} (f : α → α) (h : j ≠ k) :
    (t.modify k f).get? j = t.get? j := by
  rw [Table.get?_modify, if_neg h]

theorem Table.get?_mapAll (t : Table α) (f : α → α) (j : Nat) : (t.mapAll f).get? j = (t.get? j).map f := by
  induction t with
  | nil => rfl
  | cons e t ih =>
    obtain ⟨k', v'⟩ := e
    simp only [Table.mapAll, List.map_cons, Table.get?] at ih ⊢
    split
    · rfl
    · exact ih

/-- A change of a slot that is not occupied changes nothing. -/
theorem Table.modify_of_get?_none (t : Table α) (k : Nat) (f : α → α) (h : t.get? k = none) : t.modify k f = t := by
  induction t with
  | nil => rfl
  | cons e t ih =>
    obtain ⟨k', v'⟩ := e
    rw [Table.get?_cons] at h
    split at h
    · cases h
    · next d =>
      simp only [Table.modify, List.map_cons] at ih ⊢
      rw [if_neg fun d' => d d'.symm, ih h]

/-- Two changes of one slot are one change. -/
@[simp] theorem Table.modify_modify (t : Table α) (k : Nat) (f g : α → α) :
    (t.modify k f).modify k g = t.modify k (g ∘ f) := by
  simp only [Table.modify, List.map_map]
  apply List.map_congr_left
  intro e _
  by_cases h : e.1 = k <;> simp [h]

/-- Changes of different slots commute. -/
theorem Table.modify_comm (t : Table α) {k j : Nat} (f g : α → α) (h : k ≠ j) :
    (t.modify k f).modify j g = (t.modify j g).modify k f := by
  simp only [Table.modify, List.map_map]
  apply List.map_congr_left
  intro e _
  by_cases hk : e.1 = k
  · have hj : e.1 ≠ j := fun hj => h (hk.symm.trans hj)
    simp [hk, h]
  · by_cases hj : e.1 = j
    · simp [hj, Ne.symm h]
    · simp [hk, hj]

/-! ### The slots in use -/

@[simp] theorem Table.keys_modify (t : Table α) (k : Nat) (f : α → α) : (t.modify k f).keys = t.keys := by
  simp only [Table.keys, Table.modify, List.map_map]
  apply List.map_congr_left
  intro e _
  by_cases h : e.1 = k <;> simp [h]

@[simp] theorem Table.keys_mapAll (t : Table α) (f : α → α) : (t.mapAll f).keys = t.keys := by
  simp [Table.keys, Table.mapAll, Function.comp_def]

/-- A key is that of an occupied slot. -/
theorem Table.mem_keys (t : Table α) (k : Nat) : k ∈ t.keys ↔ (t.get? k).isSome := by
  induction t with
  | nil => simp [Table.keys]
  | cons e t ih =>
    obtain ⟨k', v'⟩ := e
    rw [Table.get?_cons]
    simp only [Table.keys, List.map_cons, List.mem_cons] at ih ⊢
    by_cases h : k = k'
    · simp [h]
    · simp [h, ih]

/-- What a slot holds is an entry of the table. -/
theorem Table.mem_of_get? {t : Table α} {k : Nat} {v : α} (h : t.get? k = some v) : (k, v) ∈ t := by
  induction t with
  | nil => cases h
  | cons e t ih =>
    obtain ⟨k', v'⟩ := e
    rw [Table.get?_cons] at h
    split at h
    · next d => cases h; subst d; exact List.mem_cons_self
    · exact List.mem_cons_of_mem _ (ih h)

/-- In the canonical form an entry is what its slot holds. -/
theorem Table.get?_of_mem {t : Table α} {n k : Nat} {v : α} (w : t.wf n) (h : (k, v) ∈ t) : t.get? k = some v := by
  induction t with
  | nil => cases h
  | cons e t ih =>
    obtain ⟨k', v'⟩ := e
    obtain ⟨p, b⟩ := w
    rw [List.pairwise_cons] at p
    rcases List.mem_cons.mp h with h | h
    · cases h; simp [Table.get?]
    · have lt := p.1 _ h
      rw [Table.get?_cons, if_neg (by simp at lt; omega)]
      exact ih ⟨p.2, fun e he => b e (List.mem_cons_of_mem _ he)⟩ h

/-! ### The canonical form -/

theorem Table.wf_nil (n : Nat) : Table.wf ([] : Table α) n := ⟨List.Pairwise.nil, nofun⟩

theorem Table.mem_set {t : Table α} {k : Nat} {v : α} {e : Nat × α} (h : e ∈ t.set k v) : e = (k, v) ∨ e ∈ t := by
  induction t with
  | nil => simpa [Table.set] using h
  | cons d t ih =>
    obtain ⟨k', v'⟩ := d
    simp only [Table.set] at h
    split at h
    · simpa using h
    · split at h
      · rcases List.mem_cons.mp h with h | h
        · exact .inl h
        · exact .inr (List.mem_cons_of_mem _ h)
      · rcases List.mem_cons.mp h with h | h
        · exact .inr (h ▸ List.mem_cons_self)
        · exact (ih h).imp id (List.mem_cons_of_mem _)

/-- Writing a slot of the pool keeps the canonical form. -/
theorem Table.set_wf {t : Table α} {n k : Nat} (v : α) (w : t.wf n) (hk : k < n) : (t.set k v).wf n := by
  refine ⟨?_, fun e he => ?_⟩
  · obtain ⟨p, -⟩ := w
    induction t with
    | nil => simp [Table.set]
    | cons d t ih =>
      obtain ⟨k', v'⟩ := d
      have q := p
      rw [List.pairwise_cons] at q
      simp only [Table.set]
      split
      · next lt =>
        refine List.pairwise_cons.mpr ⟨fun e he => ?_, p⟩
        rcases List.mem_cons.mp he with he | he
        · subst he; exact lt
        · exact Nat.lt_trans lt (q.1 e he)
      · split
        · next d => subst d; exact List.pairwise_cons.mpr ⟨fun e he => q.1 e he, q.2⟩
        · refine List.pairwise_cons.mpr ⟨fun e he => ?_, ih q.2⟩
          rcases Table.mem_set he with he | he
          · subst he; simp; omega
          · exact q.1 e he
  · rcases Table.mem_set he with he | he
    · subst he; exact hk
    · exact w.2 e he

/-- Freeing a slot keeps the canonical form. -/
theorem Table.erase_wf {t : Table α} {n : Nat} (k : Nat) (w : t.wf n) : (t.erase k).wf n :=
  ⟨w.1.filter _, fun e he => w.2 e (List.mem_filter.mp he).1⟩

/-- Changing records in place keeps the canonical form. -/
theorem Table.map_wf {t : Table α} {n : Nat} {f : Nat × α → Nat × α} (hf : ∀ e, (f e).1 = e.1) (w : t.wf n) :
    Table.wf (t.map f) n := by
  refine ⟨?_, fun e he => ?_⟩
  · exact List.Pairwise.map f (fun a b h => by rw [hf, hf]; exact h) w.1
  · obtain ⟨d, hd, rfl⟩ := List.mem_map.mp he
    rw [hf]
    exact w.2 d hd

theorem Table.modify_wf {t : Table α} {n : Nat} (k : Nat) (f : α → α) (w : t.wf n) : (t.modify k f).wf n :=
  Table.map_wf (fun e => by split <;> rfl) w

theorem Table.mapAll_wf {t : Table α} {n : Nat} (f : α → α) (w : t.wf n) : (t.mapAll f).wf n :=
  Table.map_wf (fun _ => rfl) w

/-! ### The lowest free slot (R1) -/

theorem Table.freeFrom_ge (t : Table α) (n : Nat) : n ≤ t.freeFrom n := by
  induction t generalizing n with
  | nil => exact Nat.le_refl n
  | cons e t ih =>
    obtain ⟨k', v'⟩ := e
    simp only [Table.freeFrom]
    split
    · exact Nat.le_of_succ_le (ih (n + 1))
    · exact Nat.le_refl n

/-- In a table whose keys rise from `n` on, the slot found is free and every slot from `n` to it occupied. -/
theorem Table.freeFrom_spec {t : Table α} (p : t.Pairwise fun a b => a.1 < b.1) (n : Nat) (lo : ∀ e ∈ t, n ≤ e.1) :
    t.get? (t.freeFrom n) = none ∧ ∀ j, n ≤ j → j < t.freeFrom n → (t.get? j).isSome := by
  induction t generalizing n with
  | nil =>
    refine ⟨rfl, fun j h1 h2 => ?_⟩
    simp only [Table.freeFrom] at h2
    omega
  | cons e t ih =>
    obtain ⟨k', v'⟩ := e
    rw [List.pairwise_cons] at p
    simp only [Table.freeFrom]
    split
    · next d =>
      subst d
      obtain ⟨h1, h2⟩ := ih p.2 (k' + 1) fun e he => p.1 e he
      have ge := Table.freeFrom_ge t (k' + 1)
      refine ⟨?_, fun j a b => ?_⟩
      · rw [Table.get?_cons, if_neg (by omega)]; exact h1
      · rw [Table.get?_cons]
        split
        · rfl
        · exact h2 j (by omega) b
    · next d =>
      refine ⟨?_, fun j a b => absurd a (by omega)⟩
      have lt : n < k' := by
        have := lo (k', v') List.mem_cons_self
        simp at this
        omega
      rw [Table.get?_cons, if_neg (by omega)]
      cases g : Table.get? t n with
      | none => rfl
      | some v =>
        have := p.1 _ (Table.mem_of_get? g)
        simp at this
        omega

theorem Table.get?_lowestFree {t : Table α} {n : Nat} (w : t.wf n) : t.get? t.lowestFree = none :=
  (Table.freeFrom_spec w.1 0 fun _ _ => Nat.zero_le _).1

theorem Table.occupied_below_lowestFree {t : Table α} {n : Nat} (w : t.wf n) {j : Nat} (h : j < t.lowestFree) :
    (t.get? j).isSome :=
  (Table.freeFrom_spec w.1 0 fun _ _ => Nat.zero_le _).2 j (Nat.zero_le j) h

end Sys2Proof.Machine
end

