-- ==== Sys2Proof/Laws/Ops.lean ====
section
/-! SUPPORT. One lemma for each shared operation of Ops.lean and Operands.lean that says once what it can do: posting a
notice, ending a long request, finding a tag, and the targets of requests. -/

namespace Sys2Proof.Machine

variable (s : State)

/-! ### Notices (R162) -/

/-- Posting a notice replaces one of its kind and subject in place, or joins the tail, or is dropped with the
notice-overflow flag set; nothing else changes. -/
theorem State.post_cases (sub : Subject) (c : NoticeContent) :
    let n : Notice := { subject := sub, content := c }
    ((∃ m ∈ s.notices, m.matches n) ∧
        s.post sub c = { s with notices := s.notices.map fun m => if m.matches n then n else m }) ∨
      ((∀ m ∈ s.notices, m.matches n = false) ∧ s.notices.length < Config.noticeEntries ∧
        s.post sub c = { s with notices := s.notices ++ [n] }) ∨
      ((∀ m ∈ s.notices, m.matches n = false) ∧ Config.noticeEntries ≤ s.notices.length ∧
        s.post sub c = { s with overflow := true }) := by
  intro n
  unfold State.post
  by_cases h : (s.notices.any (·.matches n)) = true
  · refine .inl ⟨by simpa using h, ?_⟩
    simp only [n] at h ⊢
    rw [if_pos h]
  · have h' : ∀ m ∈ s.notices, m.matches n = false := by simpa using h
    simp only [n] at h h' ⊢
    rw [if_neg h]
    by_cases l : s.notices.length < Config.noticeEntries
    · exact .inr (.inl ⟨h', l, if_pos l⟩)
    · exact .inr (.inr ⟨h', Nat.le_of_not_lt l, if_neg l⟩)

/-- The frame of a notice posted. -/
theorem State.post_frame (sub : Subject) (c : NoticeContent) :
    s.post sub c = { s with notices := (s.post sub c).notices, overflow := (s.post sub c).overflow } := by
  rcases s.post_cases sub c with ⟨-, h⟩ | ⟨-, -, h⟩ | ⟨-, -, h⟩ <;> rw [h]

@[simp] theorem State.post_inflight (sub : Subject) (c : NoticeContent) : (s.post sub c).inflight = s.inflight := by
  rw [s.post_frame]
@[simp] theorem State.post_replies (sub : Subject) (c : NoticeContent) : (s.post sub c).replies = s.replies := by
  rw [s.post_frame]
@[simp] theorem State.post_orders (sub : Subject) (c : NoticeContent) : (s.post sub c).orders = s.orders := by
  rw [s.post_frame]
@[simp] theorem State.post_frameNumber (sub : Subject) (c : NoticeContent) : (s.post sub c).frame = s.frame := by
  rw [s.post_frame]
@[simp] theorem State.post_contexts (sub : Subject) (c : NoticeContent) : (s.post sub c).contexts = s.contexts := by
  rw [s.post_frame]
@[simp] theorem State.post_heads (sub : Subject) (c : NoticeContent) : (s.post sub c).heads = s.heads := by
  rw [s.post_frame]
@[simp] theorem State.post_airtime (sub : Subject) (c : NoticeContent) : (s.post sub c).airtime = s.airtime := by
  rw [s.post_frame]
@[simp] theorem State.post_links (sub : Subject) (c : NoticeContent) : (s.post sub c).links = s.links := by
  rw [s.post_frame]
@[simp] theorem State.post_reefers (sub : Subject) (c : NoticeContent) : (s.post sub c).reefers = s.reefers := by
  rw [s.post_frame]
@[simp] theorem State.post_pageQueues (sub : Subject) (c : NoticeContent) : (s.post sub c).pageQueues = s.pageQueues := by
  rw [s.post_frame]
@[simp] theorem State.post_pollWaits (sub : Subject) (c : NoticeContent) : (s.post sub c).pollWaits = s.pollWaits := by
  rw [s.post_frame]
@[simp] theorem State.post_settings (sub : Subject) (c : NoticeContent) : (s.post sub c).settings = s.settings := by
  rw [s.post_frame]
@[simp] theorem State.post_params (sub : Subject) (c : NoticeContent) : (s.post sub c).params = s.params := by
  rw [s.post_frame]
@[simp] theorem State.post_pending (sub : Subject) (c : NoticeContent) : (s.post sub c).pending = s.pending := by
  rw [s.post_frame]
@[simp] theorem State.head_post (g : HeadIx) (sub : Subject) (c : NoticeContent) : (s.post sub c).head g = s.head g := by
  unfold State.head; rw [s.post_heads]
@[simp] theorem State.account_post (g : HeadIx) (sub : Subject) (c : NoticeContent) :
    (s.post sub c).account g = s.account g := by
  unfold State.account; rw [s.post_airtime]

/-- The queue of notices after one is posted depends on the queue alone. -/
theorem State.post_congr {s t : State} (h : t.notices = s.notices) (sub : Subject) (c : NoticeContent) :
    (t.post sub c).notices = (s.post sub c).notices := by
  unfold State.post
  rw [h]
  dsimp only
  split
  · rfl
  · split <;> simp_all

/-! ### The in-flight list (R161) -/

/-- Ending the oldest request that satisfies `p`: without one nothing changes; with one its reply is made due and its
entry leaves the list. -/
theorem State.endOldest_cases (p : InFlight → Bool) (res : Result) :
    ((∀ e ∈ s.inflight, p e = false) ∧ s.endOldest p res = s) ∨
      ∃ e, s.inflight.find? p = some e ∧
        s.endOldest p res =
          { s with inflight := s.inflight.eraseP p, replies := s.replies ++ [s.endReply e res] } := by
  unfold State.endOldest
  cases h : s.inflight.find? p with
  | none => exact .inl ⟨by simpa using h, rfl⟩
  | some e => exact .inr ⟨e, rfl, rfl⟩

theorem State.endOldest_of_find? {p : InFlight → Bool} {e : InFlight} (h : s.inflight.find? p = some e)
    (res : Result) :
    s.endOldest p res = { s with inflight := s.inflight.eraseP p, replies := s.replies ++ [s.endReply e res] } := by
  simp [State.endOldest, h]

theorem State.endOldest_of_none {p : InFlight → Bool} (h : ∀ e ∈ s.inflight, p e = false) (res : Result) :
    s.endOldest p res = s := by
  rcases s.endOldest_cases p res with ⟨-, h'⟩ | ⟨e, h', -⟩
  · exact h'
  · have := List.mem_of_find?_eq_some h'
    have := List.find?_some h'
    simp_all

/-- The frame of ending a request. -/
theorem State.endOldest_frame (p : InFlight → Bool) (res : Result) :
    s.endOldest p res =
      { s with inflight := (s.endOldest p res).inflight, replies := (s.endOldest p res).replies } := by
  rcases s.endOldest_cases p res with ⟨-, h⟩ | ⟨e, -, h⟩ <;> rw [h]

theorem State.endNewest_frame (p : InFlight → Bool) (res : Result) :
    s.endNewest p res =
      { s with inflight := (s.endNewest p res).inflight, replies := (s.endNewest p res).replies } := by
  unfold State.endNewest
  split <;> rfl

/-- No end of a request makes the in-flight list longer. -/
theorem State.endOldest_length (p : InFlight → Bool) (res : Result) :
    (s.endOldest p res).inflight.length ≤ s.inflight.length := by
  rcases s.endOldest_cases p res with ⟨-, h⟩ | ⟨e, -, h⟩
  · rw [h]
  · rw [h]; exact List.length_eraseP_le

theorem State.endNewest_length (p : InFlight → Bool) (res : Result) :
    (s.endNewest p res).inflight.length ≤ s.inflight.length := by
  unfold State.endNewest
  split
  · exact Nat.le_refl _
  · have h : (s.inflight.reverse.eraseP p).length ≤ s.inflight.reverse.length := List.length_eraseP_le
    simpa using h

theorem State.endAll_length (p : InFlight → Bool) (res : Result) :
    (s.endAll p res).inflight.length ≤ s.inflight.length := List.length_filter_le _ _

/-! ### Routing -/

/-- What the tag lookup finds is an occupied entry of the table that holds the tag (R2). -/
theorem State.findTag_some {s : State} {tag : Tag} {k : Nat} {c : Context} (h : s.findTag tag = some (k, c)) :
    (k, c) ∈ s.contexts ∧ c.tag = tag :=
  ⟨List.mem_of_find?_eq_some h, by simpa using List.find?_some h⟩

/-- In a table in canonical form what the tag lookup finds is what its slot holds. -/
theorem State.get?_of_findTag {s : State} {tag : Tag} {k n : Nat} {c : Context} (w : s.contexts.wf n)
    (h : s.findTag tag = some (k, c)) : s.contexts.get? k = some c :=
  Table.get?_of_mem w (State.findTag_some h).1

theorem headOf_eq_some {b : Byte} {h : HeadIx} : headOf b = some h ↔ b.toNat = h.val := by
  unfold headOf
  constructor
  · intro e
    split at e
    · cases e; rfl
    · cases e
  · intro e
    rw [dif_pos (by have := h.isLt; omega)]
    simp only [Option.some.injEq]
    exact Fin.ext e

theorem headOf_eq_none {b : Byte} : headOf b = none ↔ 24 ≤ b.toNat := by
  unfold headOf
  split
  · simp; omega
  · simp; omega

/-! ### The targets of requests (R12, R25, R158) -/

/-- A request on a context passes its checks exactly when its option list does, its target names the context, and the
class is one that the request serves. -/
theorem contextTarget_ok {k : ReqKind} {cls : Option Class} {r : Request} {s : State} {t : ContextTarget} :
    contextTarget k cls r s = .ok t ↔
      checkOptions k r.opts = .ok t.opts ∧ resolveContext r s = .ok (t.handle, t.ctx) ∧
        cls.all (· == t.ctx.cls) = true := by
  unfold contextTarget
  cases checkOptions k r.opts with
  | error e => simp
  | ok os =>
    cases resolveContext r s with
    | error e => simp
    | ok p =>
      obtain ⟨h, c⟩ := p
      by_cases d : cls.all (· == c.cls) = true
      · simp only [d, if_true, Except.ok.injEq]
        constructor
        · rintro rfl; exact ⟨rfl, rfl, d⟩
        · rintro ⟨rfl, e, -⟩
          cases e
          rfl
      · simp only [d, Bool.false_eq_true, if_false, Except.ok.injEq, Prod.mk.injEq, reduceCtorEq, false_iff]
        rintro ⟨-, ⟨-, rfl⟩, d'⟩
        exact d d'

theorem headTarget_ok {k : ReqKind} {r : Request} {os : Options} {h : HeadIx} :
    headTarget k r = .ok (os, h) ↔ checkOptions k r.opts = .ok os ∧ r.form = 0x02 ∧ r.target.toNat = h.val := by
  unfold headTarget
  cases checkOptions k r.opts with
  | error e => simp
  | ok os' =>
    by_cases d : r.form = 0x02 ∧ r.target.toNat < 24
    · simp only [dif_pos d, Except.ok.injEq, Prod.mk.injEq, Fin.ext_iff]
      exact ⟨fun e => ⟨e.1, d.1, e.2⟩, fun e => ⟨e.1, e.2.2⟩⟩
    · simp only [dif_neg d, reduceCtorEq, false_iff]
      rintro ⟨-, f, e⟩
      exact d ⟨f, by have := h.isLt; omega⟩

theorem partTarget_ok {k : ReqKind} {r : Request} {os : Options} :
    partTarget k r = .ok os ↔ checkOptions k r.opts = .ok os ∧ r.form = 0x03 := by
  unfold partTarget
  cases checkOptions k r.opts with
  | error e => simp
  | ok os' =>
    by_cases d : r.form = 0x03
    · simp [d]
    · simp only [d, if_false, and_false, reduceCtorEq]

/-- The option list of END alone passes the checks of every request that requires no option. -/
theorem checkOptions_bare {k : ReqKind} (h : optionsRequired k = []) : checkOptions k [0x00] = .ok [] := by
  simp [checkOptions, readOptions, nameOptions, h]

/-! ### Answers (R159, R160) -/

/-- A refusal's only effect is its reply. -/
theorem refuse_eq (k : ReqKind) (r : Request) (e : Refused) (s : State) :
    refuse k r e s =
      { s with
        replies := s.replies ++
          [{ reqTag := r.reqTag, kind := k.code, result := e.result, clamped := false, identity := e.identity,
             body := [] }] } := rfl

theorem answer_eq (k : ReqKind) (r : Request) (res : Result) (c : Bool) (i : Identity) (b : List Byte) (s : State) :
    answer k r res c i b s =
      { s with
        replies := s.replies ++
          [{ reqTag := r.reqTag, kind := k.code, result := res, clamped := c, identity := i, body := b }] } := rfl

end Sys2Proof.Machine
end

