-- ==== Sys2Proof/Laws/Frames.lean ====
section
/-! SUPPORT. The frame of each shared operation: which fields of State it can change. Four frames cover them all, each
reflexive and transitive, so that the frame of a chain of operations is the chain of their frames. -/

namespace Sys2Proof.Machine

/-! ### The four frames -/

/-- At most what polls touch: accounts, orders, reefer records and wait lists. -/
def PollFrame (s t : State) : Prop :=
  t = { s with airtime := t.airtime, orders := t.orders, reefers := t.reefers, pollWaits := t.pollWaits }

/-- At most what ends or queues pages: reefer records, page queues, the in-flight list, replies. -/
def PageFrame (s t : State) : Prop :=
  t = { s with reefers := t.reefers, pageQueues := t.pageQueues, inflight := t.inflight, replies := t.replies }

/-- At most what sends pages: orders and reefer records. -/
def SendFrame (s t : State) : Prop := t = { s with orders := t.orders, reefers := t.reefers }

/-- At most what handovers and links touch: contexts, links, accounts, notices with the overflow flag, orders, reefer
records and wait lists. -/
def LinkFrame (s t : State) : Prop :=
  t =
    { s with
      contexts := t.contexts, links := t.links, airtime := t.airtime, notices := t.notices, overflow := t.overflow,
      orders := t.orders, reefers := t.reefers, pollWaits := t.pollWaits }

variable {s t u : State}

theorem PollFrame.refl (s : State) : PollFrame s s := rfl
theorem PageFrame.refl (s : State) : PageFrame s s := rfl
theorem SendFrame.refl (s : State) : SendFrame s s := rfl
theorem LinkFrame.refl (s : State) : LinkFrame s s := rfl

theorem PollFrame.trans (a : PollFrame s t) (b : PollFrame t u) : PollFrame s u := by
  cases s; cases t; cases u
  simp only [PollFrame, State.mk.injEq] at *
  simp_all

theorem PageFrame.trans (a : PageFrame s t) (b : PageFrame t u) : PageFrame s u := by
  cases s; cases t; cases u
  simp only [PageFrame, State.mk.injEq] at *
  simp_all

theorem SendFrame.trans (a : SendFrame s t) (b : SendFrame t u) : SendFrame s u := by
  cases s; cases t; cases u
  simp only [SendFrame, State.mk.injEq] at *
  simp_all

theorem LinkFrame.trans (a : LinkFrame s t) (b : LinkFrame t u) : LinkFrame s u := by
  cases s; cases t; cases u
  simp only [LinkFrame, State.mk.injEq] at *
  simp_all

theorem PollFrame.link (a : PollFrame s t) : LinkFrame s t := by
  cases s; cases t
  simp only [PollFrame, LinkFrame, State.mk.injEq] at *
  simp_all

theorem SendFrame.poll (a : SendFrame s t) : PollFrame s t := by
  cases s; cases t
  simp only [SendFrame, PollFrame, State.mk.injEq] at *
  simp_all

/-! ### Polls and airtime -/

theorem State.sendPoll_frame (s : State) (h : HeadIx) (i : Nat) : PollFrame s (s.sendPoll h i) := by
  unfold State.sendPoll
  split <;> rfl

/-- A pass over nobody, and a pass refused at once, change nothing; a pass given a credit polls the oldest and goes on. -/
theorem waitPassFrom_cases (h : HeadIx) (i : Nat) (rest : List Nat) (s : State) :
    waitPassFrom h [] s = s ∧
      (s.creditGiven h = false → waitPassFrom h (i :: rest) s = s) ∧
      (s.creditGiven h = true →
        waitPassFrom h (i :: rest) s = waitPassFrom h rest ((s.setPollWait h rest).sendPoll h i)) :=
  ⟨rfl, fun c => by simp [waitPassFrom, c], fun c => by simp [waitPassFrom, c]⟩

theorem waitPassFrom_frame (h : HeadIx) (q : List Nat) (s : State) : PollFrame s (waitPassFrom h q s) := by
  induction q generalizing s with
  | nil => exact .refl s
  | cons i rest ih =>
    unfold waitPassFrom
    split
    · have a : PollFrame s (s.setPollWait h rest) := rfl
      exact a.trans ((State.sendPoll_frame _ h i).trans (ih _))
    · exact .refl s

theorem State.waitPass_frame (s : State) (h : HeadIx) : PollFrame s (s.waitPass h) := waitPassFrom_frame h _ s

theorem State.makePoll_frame (s : State) (i : Nat) : PollFrame s (s.makePoll i) := by
  unfold State.makePoll
  split
  · split
    · split
      · exact State.sendPoll_frame s _ i
      · rfl
    · exact .refl s
  · exact .refl s

theorem State.returnCredit_frame (s : State) (h : HeadIx) : PollFrame s (s.returnCredit h) := by
  have a : PollFrame s (s.modAccount h fun a => { a with polls := a.polls - 1 }) := rfl
  exact a.trans (State.waitPass_frame _ h)

theorem State.endPoll_frame (s : State) (i : Nat) : PollFrame s (s.endPoll i) := by
  unfold State.endPoll
  split
  · exact .refl s
  · split
    · exact .refl s
    · next h _ _ =>
      have a : PollFrame s (s.modReefer i fun r => { r with poll := .none }) := rfl
      exact a.trans (State.returnCredit_frame _ h)
    · rfl

/-- The fit sets Wg; when it does not grow nothing else happens, and when it grows the wait list is passed over (R57). -/
theorem State.fit_cases (s : State) (h : HeadIx) :
    let wg := grantedWindow (s.head h) (s.account h)
    let t := s.setAccount h { s.account h with wg := wg }
    (wg ≤ (s.account h).wg → s.fit h = t) ∧ ((s.account h).wg < wg → s.fit h = t.waitPass h) := by
  refine ⟨fun le => ?_, fun lt => ?_⟩
  · exact if_neg (Nat.not_lt.mpr le)
  · exact if_pos lt

theorem State.fit_frame (s : State) (h : HeadIx) : PollFrame s (s.fit h) := by
  have a : ∀ wg, PollFrame s (s.setAccount h { s.account h with wg := wg }) := fun _ => rfl
  obtain ⟨c1, c2⟩ := State.fit_cases s h
  rcases Nat.lt_or_ge (s.account h).wg (grantedWindow (s.head h) (s.account h)) with lt | ge
  · rw [c2 lt]; exact (a _).trans (State.waitPass_frame _ h)
  · rw [c1 ge]; exact a _

theorem State.join_frame (s : State) (h : HeadIx) (k : ResKind) (l n : Nat) : PollFrame s (s.join h k l n) := by
  have a : PollFrame s (s.modAccount h fun a =>
    { a with list := a.list ++ [{ kind := k, units := n, owner := l }] }) := rfl
  exact a.trans (State.fit_frame _ h)

theorem State.joinStanding_frame (s : State) (h : HeadIx) (l n : Nat) : PollFrame s (s.joinStanding h l n) := by
  unfold State.joinStanding
  split
  · exact .refl s
  · exact State.join_frame s h .standing l n

/-- A release of a reservation that the list does not hold changes nothing (R56). -/
theorem State.releaseOn_of_absent {s : State} {h : HeadIx} {k : ResKind} {l : Nat}
    (e : ∀ r ∈ (s.account h).list, ¬ (r.kind = k ∧ r.owner = l)) : s.releaseOn h k l = s := by
  unfold State.releaseOn
  rw [if_neg]
  simpa using e

theorem State.releaseOn_frame (s : State) (h : HeadIx) (k : ResKind) (l : Nat) : PollFrame s (s.releaseOn h k l) := by
  unfold State.releaseOn
  split
  · have a : PollFrame s (s.modAccount h fun a =>
      { a with list := a.list.filter fun r => !(r.kind == k && r.owner == l) }) := rfl
    exact a.trans (State.fit_frame _ h)
  · exact .refl s

theorem State.releaseStanding_frame (s : State) (l : Nat) : PollFrame s (s.releaseStanding l) := by
  unfold State.releaseStanding
  split
  · exact State.releaseOn_frame s _ .standing l
  · exact .refl s

theorem State.convert_frame (s : State) (h : HeadIx) (l : Nat) : PollFrame s (s.convert h l) := by
  have a : PollFrame s (s.modAccount h fun a =>
    { a with list := a.list.map fun r =>
        if r.kind == .prepared && r.owner == l then { r with kind := .standing } else r }) := rfl
  exact a.trans (State.fit_frame _ h)

/-! ### Pages -/

/-- Ending a page: without one nothing changes; with one it leaves every queue, the record holds none, and a controller
page is answered (R151 to R153). -/
theorem State.endPage_cases (s : State) (i : Nat) (res : Result) :
    ((∀ r p, s.reefers.get? i = some r → r.page ≠ some p) ∧ s.endPage i res = s) ∨
      ∃ r p, s.reefers.get? i = some r ∧ r.page = some p ∧
        let t := (s.leavePageQueues i).modReefer i fun r => { r with page := none }
        s.endPage i res =
          match p.owner with
          | some q => t.endOldest (InFlight.is .page (.context r.owner) q) res
          | none => t := by
  unfold State.endPage
  cases e : s.reefers.get? i with
  | none => exact .inl ⟨(by intro r p h; cases h), rfl⟩
  | some r =>
    cases d : r.page with
    | none =>
      refine .inl ⟨fun r' p h => ?_, by simp [d]⟩
      cases h
      simp [d]
    | some p =>
      refine .inr ⟨r, p, rfl, d, ?_⟩
      cases q : p.owner <;> simp only [d, q]

theorem State.endPage_frame (s : State) (i : Nat) (res : Result) : PageFrame s (s.endPage i res) := by
  rcases s.endPage_cases i res with ⟨-, h⟩ | ⟨r, p, -, -, h⟩
  · rw [h]; exact .refl s
  · rw [h]
    have a : PageFrame s ((s.leavePageQueues i).modReefer i fun r => { r with page := none }) := rfl
    split
    · refine a.trans ?_
      rw [PageFrame, State.endOldest_frame]
    · exact a

theorem State.modPage_frame (s : State) (i : Nat) (f : Page → Page) : PageFrame s (s.modPage i f) := rfl

theorem State.queuePage_frame (s : State) (h : HeadIx) (i : Nat) (o : Option ReqTag) :
    PageFrame s (s.queuePage h i o) := rfl

theorem State.internalPage_frame (s : State) (h : HeadIx) (i : Nat) : PageFrame s (s.internalPage h i) := by
  unfold State.internalPage
  split
  · exact .refl s
  · split
    · exact .refl s
    · split
      · exact State.queuePage_frame s h i none
      · exact .refl s

theorem State.releaseAckPage_frame (s : State) (i : Nat) : PageFrame s (s.releaseAckPage i) := by
  unfold State.releaseAckPage
  split
  · exact .refl s
  · split
    · exact .refl s
    · split
      · dsimp only
        split <;> split
        all_goals first | exact State.endPage_frame s i .notCovered | exact State.modPage_frame s i _
      · exact .refl s

theorem wrapFrom_frame (h : HeadIx) (q : List Nat) (s : State) : PageFrame s (wrapFrom h q s) := by
  induction q generalizing s with
  | nil => exact .refl s
  | cons i rest ih =>
    unfold wrapFrom
    split
    · exact (State.endPage_frame s i .notCovered).trans (ih _)
    · exact ih s

theorem State.wrapPages_frame (s : State) (h : HeadIx) : PageFrame s (s.wrapPages h) := wrapFrom_frame h _ s

theorem endPages_frame (res : Result) (q : List Nat) (s : State) : PageFrame s (endPages res q s) := by
  induction q generalizing s with
  | nil => exact .refl s
  | cons i rest ih => exact (State.endPage_frame s i res).trans (ih _)

theorem State.sendPage_frame (s : State) (h : HeadIx) (i : Nat) : SendFrame s (s.sendPage h i) := by
  unfold State.sendPage
  split <;> rfl

theorem releaseFrom_frame (h : HeadIx) (sec : Sector) (q : List Nat) (s : State) :
    SendFrame s (releaseFrom h sec q s) := by
  induction q generalizing s with
  | nil => exact .refl s
  | cons i rest ih =>
    unfold releaseFrom
    split
    · exact (State.sendPage_frame s h i).trans (ih _)
    · exact ih s

theorem State.releasePages_frame (s : State) (h : HeadIx) (sec : Sector) : SendFrame s (s.releasePages h sec) :=
  releaseFrom_frame h sec _ s

/-! ### Contact -/

/-- Setting contact changes nothing where it stands already, and else the record and the notices (R154). -/
theorem State.setContact_cases (s : State) (i : Nat) (c : Contact) :
    (s.setContact i c = s ∧ ∀ r, s.reefers.get? i = some r → r.contact = c) ∨
      ∃ r, s.reefers.get? i = some r ∧ r.contact ≠ c ∧
        s.setContact i c =
          (s.modReefer i fun r => { r with contact := c }).post (.context r.owner) (.reeferContact c r.doze) := by
  unfold State.setContact
  cases e : s.reefers.get? i with
  | none => exact .inl ⟨rfl, by intro r h; cases h⟩
  | some r =>
    by_cases d : r.contact = c
    · exact .inl ⟨if_pos d, fun r' h => by cases h; exact d⟩
    · exact .inr ⟨r, rfl, d, if_neg d⟩

/-! ### Handovers and links -/

theorem State.post_linkFrame (s : State) (sub : Subject) (c : NoticeContent) : LinkFrame s (s.post sub c) := by
  rw [LinkFrame, State.post_frame]

/-- Ending a handover: where the link has none nothing changes; else its phase becomes NONE, the target's count is cleared
or kept by the cause (Table 6-3), and HANDOVER_FAILED is posted (R121). -/
theorem State.endHandover_cases (s : State) (l : Nat) (cause : HandoverCause) :
    (s.endHandover l cause = s ∧ ∀ k, s.links.get? l = some k → k.phase.target? = none) ∨
      ∃ k g, s.links.get? l = some k ∧ k.phase.target? = some g ∧
        s.endHandover l cause =
          let s1 := s.modLink l fun k => { k with phase := .none }
          let s2 := if cause.keepsCount then s1 else s1.modContext k.owner fun c => c.clearCount g
          s2.post (.context k.owner) (.handoverFailed ((s.linkContext l).bind (·.serving)) g cause) := by
  unfold State.endHandover
  cases e : s.links.get? l with
  | none => exact .inl ⟨rfl, by intro r h; cases h⟩
  | some k =>
    cases d : k.phase.target? with
    | none => exact .inl ⟨by simp [d], fun k' h => by cases h; exact d⟩
    | some g => exact .inr ⟨k, g, rfl, d, by simp [d]⟩

theorem State.endHandover_frame (s : State) (l : Nat) (cause : HandoverCause) : LinkFrame s (s.endHandover l cause) := by
  rcases s.endHandover_cases l cause with ⟨h, -⟩ | ⟨k, g, -, -, h⟩
  · rw [h]; exact .refl s
  · rw [h]
    refine LinkFrame.trans ?_ (State.post_linkFrame _ _ _)
    split <;> rfl

theorem State.cancelHandover_frame (s : State) (l : Nat) (cause : HandoverCause) :
    LinkFrame s (s.cancelHandover l cause) := by
  unfold State.cancelHandover
  split
  · exact (State.releaseOn_frame s _ .prepared l).link.trans (State.endHandover_frame _ l cause)
  · exact .refl s

theorem State.dropPrepared_frame (s : State) (h : HeadIx) (l : Nat) : LinkFrame s (s.dropPrepared h l) := rfl

theorem cancelEach_frame (h : HeadIx) (cause : HandoverCause) (ls : List Nat) (s : State) :
    LinkFrame s (cancelEach h cause ls s) := by
  induction ls generalizing s with
  | nil => exact .refl s
  | cons l rest ih =>
    exact (State.dropPrepared_frame s h l).trans ((State.endHandover_frame _ l cause).trans (ih _))

theorem State.cancelPrepared_frame (s : State) (h : HeadIx) : LinkFrame s (s.cancelPrepared h) :=
  cancelEach_frame h .targetLost _ s

theorem cancelUntilFits_frame (h : HeadIx) (ls : List Nat) (s : State) : LinkFrame s (cancelUntilFits h ls s) := by
  induction ls generalizing s with
  | nil => exact .refl s
  | cons l rest ih =>
    unfold cancelUntilFits
    split
    · exact .refl s
    · exact (State.dropPrepared_frame s h l).trans ((State.endHandover_frame _ l .capacity).trans (ih _))

/-- Entering SAFE_STOP writes the state, the cause and the next setpoint of the link and posts CRANE_STATE (R102). -/
theorem State.enterSafeStop_eq {s : State} {l : Nat} {k : CraneLink} (h : s.links.get? l = some k) (cause : SafeCause) :
    s.enterSafeStop l cause =
      (s.modLink l fun k => { k with state := .safeStop, cause := some cause, next := none }).post (.context k.owner)
        (.craneState .safeStop (some cause)) := by
  simp [State.enterSafeStop, h]

theorem State.enterSafeStop_frame (s : State) (l : Nat) (cause : SafeCause) : LinkFrame s (s.enterSafeStop l cause) := by
  unfold State.enterSafeStop
  split
  · exact .refl s
  · refine LinkFrame.trans ?_ (State.post_linkFrame _ _ _)
    rfl

theorem State.completeHandover_frame (s : State) (l : Nat) : LinkFrame s (s.completeHandover l) := by
  unfold State.completeHandover
  split
  · split
    · exact .refl s
    · next k c _ _ _ g _ =>
      refine LinkFrame.trans ?_ (State.post_linkFrame _ _ _)
      have a : LinkFrame s (s.modContext k.owner fun c => c.serveOn g) := rfl
      have b := a.trans (State.convert_frame _ g l).link
      have d : ∀ u f o, LinkFrame u ((State.modLink u l f).order o) := fun _ _ _ => rfl
      refine LinkFrame.trans ?_ (d _ _ _)
      split
      · exact b.trans (State.releaseOn_frame _ _ .standing l).link
      · exact b
  · exact .refl s

theorem State.rescue_frame (s : State) (l : Nat) (h g : HeadIx) : LinkFrame s (s.rescue l h g) := by
  unfold State.rescue
  split
  · next k c _ _ =>
    refine LinkFrame.trans ?_ (State.post_linkFrame _ _ _)
    have a : LinkFrame s (s.modContext k.owner fun c => c.serveOn g) := rfl
    have d : ∀ u f o, LinkFrame u ((State.modLink u l f).order o) := fun _ _ _ => rfl
    exact LinkFrame.trans (a.trans (State.convert_frame _ g l).link) (d _ _ _)
  · exact .refl s

theorem State.losePath_frame (s : State) (l : Nat) (held : Bool) : LinkFrame s (s.losePath l held) := by
  unfold State.losePath
  split
  · exact .refl s
  · split
    · exact State.enterSafeStop_frame s l .pathLost
    · exact State.enterSafeStop_frame s l .pathLost
    · split
      · exact State.enterSafeStop_frame s l .pathLost
      · exact .refl s
    · exact .refl s

theorem State.loseHead_frame (s : State) (l : Nat) (h : HeadIx) (held : Bool) : LinkFrame s (s.loseHead l h held) := by
  unfold State.loseHead
  split
  · exact State.rescue_frame s l h _
  · exact State.losePath_frame s l held

theorem faultContext_frame (h : HeadIx) (held : List Nat) (k : Nat) (s : State) :
    LinkFrame s (faultContext h held k s) := by
  unfold faultContext
  split
  · exact .refl s
  · next c _ =>
    have a : ∀ f, LinkFrame s (s.modContext k f) := fun _ => rfl
    dsimp only
    split
    · have b := fun f => (a f).trans (State.post_linkFrame (s.modContext k f) (.context k) .serveLost)
      split
      · exact (b _).trans (State.loseHead_frame _ _ h _)
      · exact b _
    · exact a _

theorem faultContexts_frame (h : HeadIx) (held ks : List Nat) (s : State) :
    LinkFrame s (faultContexts h held ks s) := by
  induction ks generalizing s with
  | nil => exact .refl s
  | cons k rest ih => exact (faultContext_frame h held k s).trans (ih _)

theorem State.uplinkCheck_frame (s : State) (l : Nat) : LinkFrame s (s.uplinkCheck l) := by
  unfold State.uplinkCheck
  split
  · exact .refl s
  · next k _ =>
    have a : ∀ f, LinkFrame s (s.modLink l f) := fun _ => rfl
    have b : ∀ n, LinkFrame s (if k.missLimit ≤ n
        then (s.modLink l fun k => { k with misses := n }).enterSafeStop l .uplinkLimit
        else s.modLink l fun k => { k with misses := n }) := fun n => by
      split
      · exact (a _).trans (State.enterSafeStop_frame _ l .uplinkLimit)
      · exact a _
    exact b _

theorem State.assemblyCheck_frame (s : State) (l : Nat) : LinkFrame s (s.assemblyCheck l) := rfl

theorem State.setpointStage_frame (s : State) (l : Nat) : LinkFrame s (s.setpointStage l) := by
  have a : ∀ f, LinkFrame s (s.modLink l f) := fun _ => rfl
  unfold State.setpointStage
  split
  · exact .refl s
  · split
    · split
      · exact a _
      · dsimp only
        split
        · exact (a _).trans (State.enterSafeStop_frame _ l .holdLimit)
        · exact a _
    · split
      · exact a _
      · dsimp only
        split
        · exact (a _).trans (State.enterSafeStop_frame _ l .holdLimit)
        · exact a _
    · exact .refl s
    · exact .refl s

theorem State.handoverStep_frame (s : State) (l : Nat) : LinkFrame s (s.handoverStep l) := by
  have a : ∀ f, LinkFrame s (s.modLink l f) := fun _ => rfl
  unfold State.handoverStep
  split
  · exact .refl s
  · split
    · exact .refl s
    · exact a _
    · dsimp only
      split
      · exact a _
      · exact (a _).trans (State.cancelHandover_frame _ l .noAnswer)

theorem State.resume_frame (s : State) (l : Nat) (p : Setpoint) : LinkFrame s (s.resume l p) := by
  unfold State.resume
  split
  · exact .refl s
  · refine LinkFrame.trans ?_ (State.post_linkFrame _ _ _)
    rfl

theorem State.closeCycle_frame (s : State) (l : Nat) : LinkFrame s (s.closeCycle l) := rfl

/-- A downlink sent touches the link, the orders, and, when a block has gone down whole, the in-flight list and the
replies (R100, R111). -/
theorem State.advanceBlock_frame (s : State) (l : Nat) :
    s.advanceBlock l =
      { s with
        links := (s.advanceBlock l).links, inflight := (s.advanceBlock l).inflight,
        replies := (s.advanceBlock l).replies } := by
  unfold State.advanceBlock
  split
  · rfl
  · split
    · rfl
    · split
      · rfl
      · rw [State.endOldest_frame]
        rfl

end Sys2Proof.Machine
end

