-- ==== Sys2Proof/Laws/PerInstr.lean ====
section
/-! SUPPORT. What holds of every command as syntax, one lemma per constructor: the form it has on the wire. -/

namespace Sys2Proof.Laws.WireForm

open Sys2Proof.Machine

/-- A command is a message of at most one of the two links, and a well-formed control-port message is shorter than a
request header exactly when it is an incomplete header (R157). -/
def Statement (i : Instr) : Prop :=
  (requestBytes i = none ∨ eventBytes i = none) ∧
    ∀ b, requestBytes i = some b → i.WellFormed → (b.length < 10 ↔ ∃ msg, i = .incompleteRequestHeader msg)

/-- A request's bytes are a header of 10 bytes and the option list (Table 11-1). -/
theorem length_bytes (k : Byte) (r : Request) : (r.bytes k).length = r.opts.length + 10 := by
  simp [Request.bytes, bytes16, bytes48]

theorem of_request {i : Instr} {k : Byte} {r : Request} (h : requestBytes i = some (r.bytes k))
    (e : eventBytes i = none) (n : ∀ msg, i ≠ .incompleteRequestHeader msg) : Statement i := by
  refine ⟨.inr e, fun b hb _ => ?_⟩
  rw [h] at hb
  cases hb
  rw [length_bytes]
  exact ⟨fun l => absurd l (by omega), fun ⟨msg, hm⟩ => absurd hm (n msg)⟩

theorem of_other {i : Instr} (h : requestBytes i = none) : Statement i :=
  ⟨.inl h, fun b hb _ => by rw [h] at hb; cases hb⟩

theorem attach (r : Request) : Statement (.attach r) :=
  of_request rfl rfl nofun
theorem find (r : Request) : Statement (.find r) :=
  of_request rfl rfl nofun
theorem read (r : Request) : Statement (.read r) :=
  of_request rfl rfl nofun
theorem amend (r : Request) : Statement (.amend r) :=
  of_request rfl rfl nofun
theorem retire (r : Request) : Statement (.retire r) :=
  of_request rfl rfl nofun
theorem craneStart (r : Request) : Statement (.craneStart r) :=
  of_request rfl rfl nofun
theorem setpoint (r : Request) : Statement (.setpoint r) :=
  of_request rfl rfl nofun
theorem craneStop (r : Request) : Statement (.craneStop r) :=
  of_request rfl rfl nofun
theorem craneResume (r : Request) : Statement (.craneResume r) :=
  of_request rfl rfl nofun
theorem craneRelease (r : Request) : Statement (.craneRelease r) :=
  of_request rfl rfl nofun
theorem sideDown (r : Request) : Statement (.sideDown r) :=
  of_request rfl rfl nofun
theorem craneRead (r : Request) : Statement (.craneRead r) :=
  of_request rfl rfl nofun
theorem reeferRead (r : Request) : Statement (.reeferRead r) :=
  of_request rfl rfl nofun
theorem reeferParams (r : Request) : Statement (.reeferParams r) :=
  of_request rfl rfl nofun
theorem page (r : Request) : Statement (.page r) :=
  of_request rfl rfl nofun
theorem headConfig (r : Request) : Statement (.headConfig r) :=
  of_request rfl rfl nofun
theorem headRead (r : Request) : Statement (.headRead r) :=
  of_request rfl rfl nofun
theorem headClear (r : Request) : Statement (.headClear r) :=
  of_request rfl rfl nofun
theorem sweepSet (r : Request) : Statement (.sweepSet r) :=
  of_request rfl rfl nofun
theorem shadowSet (r : Request) : Statement (.shadowSet r) :=
  of_request rfl rfl nofun
theorem shadowRead (r : Request) : Statement (.shadowRead r) :=
  of_request rfl rfl nofun
theorem classParams (r : Request) : Statement (.classParams r) :=
  of_request rfl rfl nofun
theorem pollWindowSet (r : Request) : Statement (.pollWindowSet r) :=
  of_request rfl rfl nofun
theorem partConfig (r : Request) : Statement (.partConfig r) :=
  of_request rfl rfl nofun
theorem partStatus (r : Request) : Statement (.partStatus r) :=
  of_request rfl rfl nofun
theorem restart (r : Request) : Statement (.restart r) :=
  of_request rfl rfl nofun
theorem unknownRequestKind (kind : Byte) (r : Request) : Statement (.unknownRequestKind kind r) :=
  of_request rfl rfl nofun
theorem incompleteRequestHeader (msg : List Byte) : Statement (.incompleteRequestHeader msg) := by
  refine ⟨.inr rfl, fun b hb w => ?_⟩
  cases hb
  exact ⟨fun _ => ⟨msg, rfl⟩, fun _ => by simpa [Instr.WellFormed] using w⟩
theorem measurementReport (tag : Tag) (entries : List MeasEntry) : Statement (.measurementReport tag entries) :=
  of_other rfl
theorem craneUplink (tag : Tag) (u : UplinkFields) : Statement (.craneUplink tag u) :=
  of_other rfl
theorem reeferReport (tag : Tag) (f : ReportFields) : Statement (.reeferReport tag f) :=
  of_other rfl
theorem dozeAck (tag : Tag) (head : Byte) (state : Byte) : Statement (.dozeAck tag head state) :=
  of_other rfl
theorem pageAnswer (tag : Tag) (head : Byte) : Statement (.pageAnswer tag head) :=
  of_other rfl
theorem headUp (head : Byte) : Statement (.headUp head) :=
  of_other rfl
theorem syncLock (head : Byte) : Statement (.syncLock head) :=
  of_other rfl
theorem syncLost (head : Byte) : Statement (.syncLost head) :=
  of_other rfl
theorem lineFault (head : Byte) (short : Bool) : Statement (.lineFault head short) :=
  of_other rfl
theorem unknownEventKind (msg : List Byte) : Statement (.unknownEventKind msg) :=
  of_other rfl
theorem frameStrobe : Statement .frameStrobe :=
  of_other rfl
theorem coldReset : Statement .coldReset :=
  of_other rfl
theorem startTimerExpiry (head : HeadIx) : Statement (.startTimerExpiry head) :=
  of_other rfl
theorem lockWaitExpiry (head : HeadIx) : Statement (.lockWaitExpiry head) :=
  of_other rfl
theorem holdoverExpiry (head : HeadIx) : Statement (.holdoverExpiry head) :=
  of_other rfl
theorem dwellExpiry (head : HeadIx) : Statement (.dwellExpiry head) :=
  of_other rfl
theorem cycleExpiry (link : Fin 32) : Statement (.cycleExpiry link) :=
  of_other rfl
theorem ackLimitExpiry (record : Fin 4096) : Statement (.ackLimitExpiry record) :=
  of_other rfl
theorem pageAnswerExpiry (record : Fin 4096) : Statement (.pageAnswerExpiry record) :=
  of_other rfl
theorem pollAnswerExpiry (record : Fin 4096) : Statement (.pollAnswerExpiry record) :=
  of_other rfl
theorem secondExpiry : Statement .secondExpiry :=
  of_other rfl
theorem overdueExpiry (record : Fin 4096) : Statement (.overdueExpiry record) :=
  of_other rfl
theorem replySend : Statement .replySend :=
  of_other rfl
theorem noticeSend : Statement .noticeSend :=
  of_other rfl
theorem orderSend : Statement .orderSend :=
  of_other rfl

end Sys2Proof.Laws.WireForm
end

