-- ==== Sys2Proof/Tests/Slice0.lean ====
section
/-! SUPPORT. Tests: well-formedness, the messages of both links, one or two small steps of each command, and for every
statement of Obligations.lean that has hypotheses a state that meets them. Expected values are worked by hand from the
examples of the manual, named in each comment, or from the rule cited. -/

namespace Sys2Proof.Tests

open Sys2Proof.Machine

/-! ### Small states -/

/-- The state after a command. -/
def after (i : Instr) (s : State) : State := match exec i s with | .next t => t | _ => s

/-- A request with request tag 0A10H. -/
def req (form : Byte) (target : Nat) (opts : List Byte) : Request :=
  { reqTag := 0x0A10, form := form, target := BitVec.ofNat 48 target, opts := opts }

/-- A request on the context with handle `k`, on head `h`, and on the part. -/
def onCtx (k : Nat) (opts : List Byte) : Request := req 0x00 k opts
def onTag (t : Nat) (opts : List Byte) : Request := req 0x01 t opts
def onTheHead (h : Nat) (opts : List Byte) : Request := req 0x02 h opts
def onPart (opts : List Byte) : Request := req 0x03 0 opts

/-- Sixteen zero bytes as a setpoint option with sequence `n`, and as a setpoint. -/
def spOption (n : Byte) : List Byte := [0x09, 18, 0, n] ++ List.replicate 16 0
def sp (n : Nat) : Setpoint := { seq := BitVec.ofNat 16 n, bytes := Vector.replicate 16 0 }

/-- A sweeping head in slot 3 with 6 frames left (example 2.8). -/
def up : Head := { Head.cold with state := .active, locked := true, sweep := some { slot := 3, remaining := 6 } }

def cand (h : HeadIx) (sec : Sector) (f n : Nat) : Candidate :=
  { head := h, sector := sec, level := f, ttt := n, missing := 0, score := f }

def ctx (tag : Tag) (cls : Machine.Class) (serving : Option HeadIx) (sec : Sector) (ext : Option Nat)
    (cands : List Candidate) : Context :=
  { tag := tag, cls := cls, serving := serving, sector := sec, segment := none, pinned := false, cands := cands,
    ext := ext, lastReport := none }

/-- A link in RUNNING whose cycle timer has run out, with setpoint 100 current. -/
def running (owner : Nat) : CraneLink :=
  { CraneLink.fresh owner with
    state := .running, cycle := some 0, current := some { sp := sp 100, fresh := true } }

def res (k : ResKind) (units owner : Nat) : Reservation := { kind := k, units := units, owner := owner }

/-- Head `h` ACTIVE with the cold window. -/
def activate (s : State) (h : HeadIx) : State := (s.setHead h up).setAccount h { Account.cold with wg := 16 }

/-- A yard: heads 2 to 8 ACTIVE, 9 STARTING, 10 HOLDOVER, 11 OFFLINE, 12 FAULTED. Link 0 runs on head 5; link 1 is IDLE on
head 6; link 2 hands over from head 5 to head 6; link 3 has stopped on head 6 without airtime. Reefer 0 is awake on head
4; reefer 1 is in deep doze there with an internal page waiting; reefer 2 waits for a poll on head 3 behind reefer 3, whose
poll is out. -/
def yard : State :=
  ([2, 3, 4, 5, 6, 7, 8].foldl activate
      { State.reset with
        contexts :=
          [(0, ctx 0xC0 .crane (some 5) 2 (some 0) [cand 6 3 1680 2, cand 5 2 1600 0]),
           (1, ctx 0x00A03C117F02 .reefer (some 4) 5 (some 0) [cand 4 5 1600 0]),
           (2, ctx 0xB0 .vehicle (some 2) 1 none [cand 2 1 1600 0]),
           (3, ctx 0xC1 .crane (some 6) 0 (some 1) [cand 6 0 1500 0]),
           (4, ctx 0xD0 .handheld none 0 none []),
           (5, ctx 0xE5 .reefer (some 4) 5 (some 1) [cand 4 5 1600 0]),
           (6, ctx 0xE6 .reefer (some 3) 1 (some 2) [cand 3 1 1600 0]),
           (7, ctx 0xE7 .reefer (some 3) 1 (some 3) [cand 3 1 1600 0]),
           (8, ctx 0xC2 .crane (some 5) 2 (some 2) [cand 6 3 1680 3, cand 5 2 1600 0]),
           (9, ctx 0xC3 .crane (some 6) 0 (some 3) [cand 6 0 1500 0])]
        links :=
          [(0, running 0), (1, CraneLink.fresh 3), (2, { running 8 with phase := .switching 6 1 }),
           (3, { running 9 with state := .safeStop, cause := some .pathLost, heardLast := true })]
        reefers :=
          [(0, { Reefer.fresh 1 with setpoint := some { value := -180, clamped := false } }),
           (1, { Reefer.fresh 5 with doze := .deep, page := some { owner := none, attempts := 0, phase := .slotWait } }),
           (2, { Reefer.fresh 6 with poll := .waiting }),
           (3, { Reefer.fresh 7 with poll := .outstanding 3 0 })] }
    |>.setHead 9
        { Head.cold with
          state := .starting, startTimer := some 0, lockTimer := some 0, sweep := some { slot := 0, remaining := 0 } }
    |>.setAccount 9 { Account.cold with wg := 16 }
    |>.setHead 10
        { Head.cold with state := .holdover, holdoverTimer := some 0, sweep := some { slot := 7, remaining := 0 } }
    |>.setAccount 10 { Account.cold with wg := 16 }
    |>.setHead 11 { Head.cold with capacity := 160 }
    |>.setHead 12 { Head.cold with state := .faulted, cause := .lineOpen }
    |>.setAccount 3 { list := [], wreq := 1, wg := 1, polls := 1 }
    |>.setAccount 5 { list := [res .standing 12 0, res .standing 12 2], wreq := 20, wg := 20, polls := 0 }
    |>.setAccount 6 { list := [res .prepared 12 2], wreq := 20, wg := 20, polls := 0 }
    |>.setPageQueue 4 [1]
    |>.setPollWait 3 [2])

/-- The yard meets every law. -/
theorem yard_tables : yard.tablesLaw := by unfold State.tablesLaw; decide
theorem yard_ownership : yard.ownershipLaw := by unfold State.ownershipLaw; decide
theorem yard_candidates : yard.candidateLaw := by
  unfold State.candidateLaw ParamSets.inRange candidatesOk; decide
theorem yard_served : yard.servedLaw := by unfold State.servedLaw; decide
theorem yard_heads : yard.headLaw := by unfold State.headLaw Head.ok Schedule.ok; decide
theorem yard_airtime : yard.airtimeLaw := by unfold State.airtimeLaw; decide
theorem yard_handovers : yard.handoverLaw := by unfold State.handoverLaw; decide
theorem yard_reservations : yard.reservationLaw := by unfold State.reservationLaw; decide
theorem yard_links : yard.linkLaw := by unfold State.linkLaw CraneLink.ok; decide
theorem yard_reefers : yard.reeferLaw := by unfold State.reeferLaw Reefer.ok Temp.ok; decide
theorem yard_polls : yard.pollLaw := by unfold State.pollLaw; decide
theorem yard_pages : yard.pageLaw := by unfold State.pageLaw; decide
theorem yard_ports : yard.portLaw := by unfold State.portLaw; decide
theorem yard_settings : yard.settingsLaw := by unfold State.settingsLaw; decide

/-! ### Well-formed commands: each check refuses an ill-formed term -/

/-- R157: a kind code of Table 11-1 is no unknown kind. -/
theorem test_wf_known_kind_is_refused :
    (Instr.unknownRequestKind 0x1A (onPart [0])).WellFormed = false ∧
      (Instr.unknownRequestKind 0x1B (onPart [0])).WellFormed = true := by decide

/-- R157: ten bytes are a whole header. -/
theorem test_wf_whole_header_is_refused :
    (Instr.incompleteRequestHeader (List.replicate 10 0)).WellFormed = false ∧
      (Instr.incompleteRequestHeader (List.replicate 9 0)).WellFormed = true := by decide

/-- Table 11-5: the entry count is one byte. -/
theorem test_wf_long_report_is_refused (tag : Tag) (es : List MeasEntry) (h : es.length = 256) :
    (Instr.measurementReport tag es).WellFormed = false := by simp [Instr.WellFormed, h]

/-- R169: a message of a known kind in full is no unknown event. -/
theorem test_wf_known_event_is_refused :
    (Instr.unknownEventKind [0x20, 3]).WellFormed = false ∧ (Instr.unknownEventKind [0x20]).WellFormed = true := by
  decide

/-! ### Messages -/

/-- Example 11.3, bytes 12H to 02H. -/
theorem test_read_reefer_report :
    readEvent [0x12, 0x00, 0xA0, 0x3C, 0x11, 0x7F, 0x02, 0x07, 0x05, 0xFE, 0x39, 0x00, 0x00, 0xFF, 0x4C, 0x00, 0x04,
        0x02] =
      .reeferReport 0x00A03C117F02
        { head := 7, supply := some 0xFE39, ret := none, setpoint := some 0xFF4C, flags := 0x0004, power := 2 } := by
  decide

/-- Table 11-1: kind 13H, tag 0A10H, target form head, target 4, END. -/
theorem test_read_request :
    readRequest [0x13, 0x0A, 0x10, 0x02, 0, 0, 0, 0, 0, 4, 0x00] = .sweepSet (onTheHead 4 [0x00]) := by decide

/-- R157: nine bytes are no header, and 1BH is no kind. -/
theorem test_read_no_request :
    readRequest [0x13, 0x0A, 0x10, 0x02, 0, 0, 0, 0, 0] =
        .incompleteRequestHeader [0x13, 0x0A, 0x10, 0x02, 0, 0, 0, 0, 0] ∧
      readRequest [0x1B, 0x0A, 0x10, 0x03, 0, 0, 0, 0, 0, 0] = .unknownRequestKind 0x1B (onPart []) := by decide

/-- The rows of the table have no bits (log 23). -/
theorem test_no_word : decodeTableWord 8 0x20 = none := by decide

/-! ### Terminal contexts -/

/-- Step 1 of 1.11: ATTACH with tag 00A03C117F02H, class REEFER, segment 41, where handle 2 and record 1 are the lowest
free. -/
def before1 : State :=
  { State.reset with
    contexts := [(0, ctx 1 .vehicle none 0 none []), (1, ctx 2 .vehicle none 0 none []),
      (3, ctx 3 .reefer none 0 (some 0) []), (4, ctx 4 .reefer none 0 (some 2) [])]
    reefers := [(0, Reefer.fresh 3), (2, Reefer.fresh 4)] }

def attach1 : Request := onPart ([0x01, 6, 0x00, 0xA0, 0x3C, 0x11, 0x7F, 0x02, 0x02, 1, 0x01, 0x03, 1, 41, 0x00])

theorem test_attach :
    let t := after (.attach attach1) before1
    t.contexts.get? 2 = some { ctx 0x00A03C117F02 .reefer none 0 (some 1) [] with segment := some 41 } ∧
      t.reefers.get? 1 = some (Reefer.fresh 2) ∧
      t.replies.map (fun r => (r.result, r.body)) =
        [(.done, [0, 2, 0x00, 0xA0, 0x3C, 0x11, 0x7F, 0x02, 1, 0, 1])] := by decide

/-- R2, R13: a tag that a context holds is refused DUPLICATE_TAG. -/
theorem test_attach_duplicate :
    (after (.attach attach1) yard).replies.map (fun r => (r.result, r.body)) = [(.duplicateTag, [])] := by decide

/-- R12, R16: FIND by tag gives handle, tag, class and extension index. -/
theorem test_find :
    (after (.find (onTag 0x00A03C117F02 [0])) yard).replies.map (fun r => (r.result, r.identity, r.body)) =
      [(.done, .context 1 0x00A03C117F02, [0, 1, 0x00, 0xA0, 0x3C, 0x11, 0x7F, 0x02, 1, 1, 0, 0])] := by decide

/-- R12: a free slot is an unknown target, and 6144 no handle. -/
theorem test_read_refused :
    (after (.read (onCtx 10 [0])) yard).replies.map (·.result) = [.unknownTarget] ∧
      (after (.read (onCtx 6144 [0])) yard).replies.map (·.result) = [.badOption] := by decide

/-- Step 3 of 1.11: AMEND with pinned yes. -/
theorem test_amend :
    (after (.amend (onCtx 2 [0x08, 1, 1, 0])) yard).contexts.get? 2 =
      some { ctx 0xB0 .vehicle (some 2) 1 none [cand 2 1 1600 0] with pinned := true } := by decide

/-- Step 5 of 1.11: the page leaves the queue, DROP goes to the serving head, the slot and the record are free. -/
theorem test_retire_reefer :
    let t := after (.retire (onTag 0xE5 [0])) yard
    t.contexts.get? 5 = none ∧ t.reefers.get? 1 = none ∧ t.pageQueue 4 = [] ∧ t.orders = [.drop 4 0xE5] ∧
      t.replies.map (·.result) = [.done] := by decide

/-- R20: a running link keeps its context. -/
theorem test_retire_running : (after (.retire (onCtx 0 [0])) yard).replies.map (·.result) = [.wrongState] := by decide

/-! ### Heads -/

/-- Example 2.7, frame 50,000: STARTING, BEAM (11, sector 0), E = 40 and Wg = 16. -/
theorem test_head_up :
    let t := after (.headUp 11) yard
    (t.head 11).state = .starting ∧ (t.head 11).startTimer = some 1024 ∧ (t.head 11).lockTimer = some 8192 ∧
      t.orders = [.beam 11 (some 0)] ∧ (t.account 11).wg = 16 ∧
      t.notices = [{ subject := .head 11, content := .headState .starting .none 40 }] := by decide

/-- Example 2.7, frame 51,024: the start timer expires with the head locked. -/
theorem test_start_timer_expiry :
    let s := yard.modHead 9 fun x => { x with locked := true, lockTimer := none }
    ((after (.startTimerExpiry 9) s).head 9).state = .active ∧
      ((after (.startTimerExpiry 9) yard).head 9).state = .starting := by decide

/-- Example 2.7, frames 50,300 and 62,500. -/
theorem test_sync_lock :
    ((after (.syncLock 9) yard).head 9).state = .starting ∧ ((after (.syncLock 9) yard).head 9).lockTimer = none ∧
      ((after (.syncLock 10) yard).head 10).state = .active := by decide

/-- Example 2.7, frame 60,000: S = 72, P = 12, C = 160; HOLDOVER, E = 80, Wg = 8, the handover ends TARGET_LOST. -/
def before60000 : State :=
  (yard.modHead 6 fun x => { x with capacity := 160 }).setAccount 6
    { list := [res .standing 72 9, res .prepared 12 2], wreq := 16, wg := 16, polls := 0 }

theorem test_sync_lost :
    let t := after (.syncLost 6) before60000
    (t.head 6).state = .holdover ∧ (t.head 6).holdoverTimer = some 4000 ∧
      t.account 6 = { list := [res .standing 72 9], wreq := 16, wg := 8, polls := 0 } ∧
      t.notices.map (·.content) = [.headState .holdover .none 80, .handoverFailed (some 5) 6 .targetLost] := by decide

/-- Case b of example 6.8: link 2 is rescued onto head 6, and link 0 stops with cause PATH_LOST. -/
theorem test_line_fault :
    let t := after (.lineFault 5 false) yard
    (t.head 5).cause = .lineOpen ∧ (t.account 5).list = [] ∧ (t.account 6).list = [res .standing 12 2] ∧
      ((t.contexts.get? 8).bind (·.serving)) = some 6 ∧ (t.links.get? 2).map (·.state) = some .running ∧
      (t.links.get? 0).map (fun k => (k.state, k.cause)) = some (.safeStop, some .pathLost) := by decide

/-- R112: a stopped link that held its reservation on the faulted head takes cause PATH_LOST and loses its resume; its heard
flag stays (log 24). SERVE_LOST comes before CRANE_STATE (R38). -/
def stopped6 : State :=
  (yard.modLink 3 fun k => { k with cause := some .ordered, next := some (sp 1), heard := true }).setAccount 6
    { list := [res .prepared 12 2, res .standing 12 3], wreq := 20, wg := 20, polls := 0 }

theorem test_line_fault_stopped :
    let t := after (.lineFault 6 true) stopped6
    ((t.links.get? 3).map fun k => (k.state, k.cause, k.next, k.heard)) = some (.safeStop, some .pathLost, none, true) ∧
      t.orders = [.beam 6 none] ∧
      t.notices.map (fun n => (n.subject, n.content)) =
        [(.head 6, .headState .faulted .lineShort 0), (.context 8, .handoverFailed (some 5) 6 .targetLost),
          (.context 3, .serveLost), (.context 9, .serveLost),
          (.context 9, .craneState .safeStop (some .pathLost))] := by decide

/-- R112: link 0, heard in the cycle in which its head faults, has its mark clear and its assembly lost at the next expiry
with no serving head, and keeps both at an expiry with one. -/
def heard0 : State :=
  yard.modLink 0 fun k => { k with heard := true, assembly := some [⟨1, 2⟩], sideErrors := 3, cycle := some 0 }

def marks (s : State) : Option (Bool × Bool × Option Nat × Nat) :=
  (s.links.get? 0).map fun k => (k.heard, k.heardLast, k.assembly.map (·.length), k.sideErrors)

theorem test_line_fault_mark :
    marks (after (.cycleExpiry 0) (after (.lineFault 5 false) heard0)) = some (false, false, none, 4) ∧
      marks (after (.cycleExpiry 0) heard0) = some (false, true, some 1, 3) := by decide

/-- R46, R173: the staged schedule of a head that has none, behind its presence byte (log 9). -/
theorem test_head_read_unstaged :
    (((headReadBody 4 (yard.head 4) []).reverse.take 20)) = List.replicate 20 0 := by decide

/-- R32: a second LINE_FAULT does not overwrite the cause. -/
theorem test_line_fault_ignored : ((after (.lineFault 12 true) yard).head 12).cause = .lineOpen := by decide

/-- R29, R30: the two limits of lock. -/
theorem test_lock_wait_expiry : ((after (.lockWaitExpiry 9) yard).head 9).cause = .noLock := by decide
theorem test_holdover_expiry : ((after (.holdoverExpiry 10) yard).head 10).cause = .holdoverExpired := by decide

/-- R33: HEAD_CLEAR keeps the cause and is refused on an ACTIVE head. -/
theorem test_head_clear :
    let t := after (.headClear (onTheHead 12 [0])) yard
    (t.head 12).state = .offline ∧ (t.head 12).cause = .lineOpen ∧
      t.replies.map (fun r => (r.result, r.body)) = [(.done, [12, 1])] ∧
      (after (.headClear (onTheHead 5 [0])) yard).replies.map (·.result) = [.wrongState] := by decide

/-- Step 3 of 3.10: capacity 44 with S = 28 cancels the newest prepared reservation alone; Wg = 4. -/
def before44 : State :=
  (yard.modHead 6 fun x => { x with capacity := 60 }).setAccount 6
    { list := [res .standing 12 3, res .standing 16 9, res .prepared 12 14, res .prepared 12 2], wreq := 20, wg := 8,
      polls := 3 }

theorem test_head_config :
    let t := after (.headConfig (onTheHead 6 [0x13, 1, 44, 0])) before44
    (t.account 6).list = [res .standing 12 3, res .standing 16 9, res .prepared 12 14] ∧ (t.account 6).wg = 4 ∧
      t.notices.map (·.content) = [.handoverFailed (some 5) 6 .capacity] ∧
      t.replies.map (fun r => (r.result, r.clamped, r.body)) = [(.done, false, [44, 44])] := by decide

/-- Step 3 of 3.10: capacity 24 is below S = 28. -/
theorem test_head_config_refused :
    (after (.headConfig (onTheHead 6 [0x13, 1, 24, 0])) before44).replies.map (·.result) = [.badOption] := by decide

/-- R46: the figures close the body of HEAD_READ; on head 6, S 0, P 12, Wreq 20, Wg 20, U 32, no poll. -/
theorem test_head_read :
    ((after (.headRead (onTheHead 6 [0])) yard).replies.map fun r => r.body.drop (r.body.length - 6)) =
      [[0, 12, 20, 20, 32, 0]] := by decide

/-- Example 2.8: slots 0, 2, 4, 6 and SILENT, dwell 8, are staged on head 4 with N = 5. -/
def sweep28 : Request := onTheHead 4 [0x0B, 5, 0, 2, 4, 6, 0xFF, 0x12, 1, 8, 0]

theorem test_sweep_set :
    let t := after (.sweepSet sweep28) yard
    ((t.head 4).staged.map fun d => (d.count, d.dwell, d.slots.toList.take 6)) =
        some (5, 8, [some 0, some 2, some 4, some 6, none, none]) ∧
      (t.head 4).active = Schedule.default ∧ t.inflight.map (·.kind) = [.sweepSet] ∧ t.replies = [] := by decide

/-- Example 2.8, frame 70,050: at the wrap the staged schedule is active, SWEEP_SET is answered DONE, the page for sector 5
ends, and slot 0 lasts 16 frames. -/
theorem test_dwell_expiry_wraps :
    let s := (after (.sweepSet sweep28) yard).modHead 4 fun x => { x with sweep := some { slot := 7, remaining := 0 } }
    let t := after (.dwellExpiry 4) s
    (t.head 4).sweep = some { slot := 0, remaining := 16 } ∧ (t.head 4).staged = none ∧ t.pageQueue 4 = [] ∧
      t.orders = [.beam 4 (some 0)] ∧ t.inflight = [] ∧ t.replies.map (·.result) = [.done] := by decide

/-- Example 2.8, frame 70,020: BEAM for sector 5 goes ahead of the page for it. -/
theorem test_dwell_expiry_sends :
    let s := yard.modHead 4 fun x => { x with sweep := some { slot := 4, remaining := 0 } }
    let t := after (.dwellExpiry 4) s
    t.orders = [.beam 4 (some 5), .page 4 0xE5] ∧ t.pageQueue 4 = [1] ∧
      ((t.reefers.get? 1).bind (·.page)).map (·.phase) = some (.sent 64) := by decide

/-! ### Airtime -/

/-- Step 4 of 3.10: Wreq 2 with E = 44 and S + P = 40. -/
theorem test_poll_window_set :
    let s := (yard.modHead 6 fun x => { x with capacity := 44 }).setAccount 6
      { list := [res .standing 28 9, res .prepared 12 14], wreq := 20, wg := 4, polls := 3 }
    let t := after (.pollWindowSet (onTheHead 6 [0x14, 1, 2, 0])) s
    (t.account 6).wg = 2 ∧ t.replies.map (·.body) = [[6, 2, 2, 3]] := by decide

/-- R59, R147: a window of 2 on head 3 polls the reefer that waits. -/
theorem test_poll_window_set_polls :
    let t := after (.pollWindowSet (onTheHead 3 [0x14, 1, 2, 0])) yard
    t.orders = [.poll 3 0xE6] ∧ t.pollWait 3 = [] ∧ (t.account 3).polls = 2 := by decide

/-! ### Measurement -/

/-- Example 4.11.1: head 5 with U = 120, 12 of them the crane's, head 6 with U = 60, shadow(5, 20) = 2. -/
def crane411 : State :=
  let s := (yard.setAccount 5 { list := [res .standing 12 0, res .standing 88 9], wreq := 20, wg := 20, polls := 0 }
    ).setAccount 6 { list := [res .standing 28 9, res .prepared 12 8], wreq := 20, wg := 20, polls := 0 }
  { s.modContext 0 (fun c => { c with segment := some 20 }) with
    shadow := s.shadow.set 5 ((Vector.replicate 64 0).set 20 2) }

theorem test_report_crane :
    let t := after (.measurementReport 0xC0 [⟨5, 2, 96⟩, ⟨6, 3, 110⟩]) crane411
    ((t.contexts.get? 0).map (·.cands)) =
        some [⟨6, 3, 1720, 3, 0, 1701⟩, ⟨5, 2, 1568, 0, 0, 1406⟩] ∧
      (t.links.get? 0).map (·.phase) = some (.prepared 6) ∧
      t.account 6 =
        { list := [res .standing 28 9, res .prepared 12 8, res .prepared 12 0], wreq := 20, wg := 20, polls := 0 } := by
  decide

/-- Example 4.11.3: re-entry with a full list; here heads 3, 4 and 7 stand for 13, 14 and 15, heads 8, 2 and 5 for 16, 17
and 18, and every head has U = 0. -/
def vehicle4113 : State :=
  let bare := allHeads.foldl (fun s h => s.setAccount h { list := [], wreq := 0, wg := 0, polls := 0 }) yard
  bare.modContext 2 fun c =>
    { c with serving := none, cands := [cand 3 0 1400 0, { cand 4 0 1200 0 with missing := 1 },
      { cand 7 0 1100 0 with missing := 2 }] }

theorem test_report_reentry :
    let t := after (.measurementReport 0xB0 [⟨3, 0, 80⟩, ⟨8, 0, 90⟩, ⟨2, 0, 70⟩, ⟨5, 0, 85⟩]) vehicle4113
    ((t.contexts.get? 2).map (·.cands)) =
        some [⟨8, 0, 1440, 0, 0, 1440⟩, ⟨3, 0, 1370, 0, 0, 1370⟩, ⟨5, 0, 1360, 0, 0, 1360⟩,
          ⟨4, 0, 1200, 0, 2, 1200⟩] ∧
      t.orders = [.serveOrder 0xB0 none 8] ∧
      t.notices.map (·.content) = [.handoverDone none 8 .entry] := by decide

/-- Example 4.11.2: the steps of report B and of report C, and k = 2 with a difference of -3 (R71). -/
theorem test_filter_steps :
    filterStep 2 1592 1440 = 1554 ∧ filterStep 2 1541 1792 = 1603 ∧ filterStep 2 1554 0 = 1166 ∧
      filterStep 2 100 97 = 100 := by decide

/-- R78: one value for the whole run, clamped to 15. -/
theorem test_shadow_set :
    let t := after (.shadowSet (onTheHead 5 [0x06, 1, 10, 0x07, 1, 12, 0x0C, 1, 16, 0])) yard
    ((t.shadow.get 5).toList.drop 9).take 5 = [0, 15, 15, 15, 0] ∧
      t.replies.map (fun r => (r.clamped, r.body)) = [(true, [5, 10, 12])] := by decide

/-- R79: the row holds 64 values behind the head index. -/
theorem test_shadow_read :
    ((after (.shadowRead (onTheHead 5 [0])) crane411).replies.map fun r => (r.body.length, r.body[21]?)) =
      [(65, some 2)] := by decide

/-- R81, R82: a TTT of 2 for CRANE caps the count of 3 in context 8's list. -/
theorem test_class_params :
    let t := after (.classParams (onPart [0x02, 1, 0, 0x17, 1, 2, 0])) yard
    t.params.crane = { shift := 1, hysteresis := 6, ttt := 2, offset := 0 } ∧
      ((t.contexts.get? 8).map fun c => c.cands.map (·.ttt)) = some [2, 0] := by decide

/-! ### Crane links -/

/-- Example 5.13, frame 10,000: CRANE_START with setpoint 100 on link 1, served by head 6. -/
theorem test_crane_start :
    let t := after (.craneStart (onCtx 3 (spOption 100 ++ [0]))) yard
    ((t.links.get? 1).map fun k => (k.state, k.cycle, k.current)) =
        some (.running, some 8, some { sp := sp 100, fresh := true }) ∧
      (t.account 6).list = [res .prepared 12 2, res .standing 12 1] ∧
      t.orders = [.craneDownlink 6 0xC1 (some { sp := sp 100, fresh := true }) .setpoint none none] := by decide

/-- R95: a link out of IDLE is refused. -/
theorem test_crane_start_refused :
    (after (.craneStart (onCtx 0 (spOption 100 ++ [0]))) yard).replies.map (·.result) = [.wrongState] := by decide

/-- Example 5.13, frame 10,029: SETPOINT 103 in place of 102 is answered REPLACED. -/
theorem test_setpoint :
    let s := yard.modLink 0 fun k => { k with next := some (sp 102) }
    let t := after (.setpoint (onCtx 0 (spOption 103 ++ [0]))) s
    (t.links.get? 0).bind (·.next) = some (sp 103) ∧ t.replies.map (·.result) = [.replaced] := by decide

/-- Example 5.13, frame 10,056: repeat count 2 and miss count 2 before; HOLD_LIMIT, the stop order, both counts at 3. -/
theorem test_cycle_expiry_stops :
    let s := yard.modLink 0 fun k =>
      { k with state := .holding, repeats := 2, misses := 2, current := some { sp := sp 103, fresh := false } }
    let t := after (.cycleExpiry 0) s
    ((t.links.get? 0).map fun k => (k.state, k.cause, k.repeats, k.misses, k.cycle)) =
        some (.safeStop, some .holdLimit, 3, 3, some 8) ∧
      t.orders =
        [.craneDownlink 5 0xC0 (some { sp := sp 103, fresh := false }) (.stop (some .holdLimit)) none none] := by decide

/-- Example 6.8, case a: at 30,040 the fourth expiry of the switch fails it with NO_ANSWER and clears head 6's count. -/
theorem test_cycle_expiry_no_answer :
    let s := yard.modLink 2 fun k => { k with phase := .switching 6 3 }
    let t := after (.cycleExpiry 2) s
    ((t.links.get? 2).map (·.phase)) = some .none ∧ (t.account 6).list = [] ∧
      ((t.contexts.get? 8).map fun c => c.cands.map (·.ttt)) = some [0, 0] ∧
      t.notices.map (·.content) = [.handoverFailed (some 5) 6 .noAnswer] := by decide

/-- Example 6.8, 30,020: an uplink through head 6 completes the handover. -/
def uplink (h : Byte) (start : Bool) : UplinkFields :=
  { head := h, start := start, seq := 7, feedback := Vector.replicate 16 0, frag := ⟨1, 2⟩ }

theorem test_uplink_completes :
    let t := after (.craneUplink 0xC2 (uplink 6 true)) yard
    ((t.contexts.get? 8).map fun c => (c.serving, c.sector)) = some (some 6, 3) ∧
      (t.account 6).list = [res .standing 12 2] ∧ (t.account 5).list = [res .standing 12 0] ∧
      t.orders = [.serveOrder 0xC2 (some 5) 6] ∧
      t.notices.map (·.content) = [.handoverDone (some 5) 6 .trigger] := by decide

/-- Example 5.14, expiry 4: a fragment without the start flag is ignored by an inactive assembly; with it the assembly
begins. -/
theorem test_uplink_fragments :
    let t := after (.craneUplink 0xC0 (uplink 5 false)) yard
    ((t.links.get? 0).map fun k => (k.assembly, k.heard)) = some (none, true) ∧
      ((after (.craneUplink 0xC0 (uplink 5 true)) yard).links.get? 0).bind (·.assembly) = some [⟨1, 2⟩] := by decide

/-- R103, R122: CRANE_STOP stops the link with cause ORDERED and cancels its handover. -/
theorem test_crane_stop :
    let t := after (.craneStop (onCtx 8 [0])) yard
    ((t.links.get? 2).map fun k => (k.state, k.cause, k.phase)) = some (.safeStop, some .ordered, .none) ∧
      (t.account 6).list = [] ∧
      t.notices.map (·.content) = [.craneState .safeStop (some .ordered), .handoverFailed (some 5) 6 .ordered] := by
  decide

/-- R104: the resume of a heard link without airtime takes a standing reservation; an unheard one is refused. -/
theorem test_crane_resume :
    let t := after (.craneResume (onCtx 9 (spOption 104 ++ [0]))) yard
    let u := yard.modLink 3 fun k => { k with heardLast := false }
    (t.links.get? 3).bind (·.next) = some (sp 104) ∧
      (t.account 6).list = [res .prepared 12 2, res .standing 12 3] ∧ t.replies.map (·.result) = [.done] ∧
      (after (.craneResume (onCtx 9 (spOption 104 ++ [0]))) u).replies.map (·.result) = [.notHeard] := by decide

/-- R105, R106: CRANE_RELEASE waits in the in-flight list; the next cycle expiry brings the link to IDLE and answers. -/
theorem test_crane_release :
    let s := after (.craneRelease (onCtx 9 [0])) yard
    let t := after (.cycleExpiry 3) s
    s.inflight.map (·.kind) = [.craneRelease] ∧ s.replies = [] ∧
      (t.links.get? 3).map (fun k => (k.state, k.cycle)) = some (.idle, none) ∧ t.inflight = [] ∧
      t.replies.map (·.result) = [.done] := by decide

/-- R110: a third SIDE_DOWN takes the place of the pending block, whose request is answered REPLACED. -/
def sideDown (t : ReqTag) (b : Byte) : Instr :=
  .sideDown { onCtx 0 ([0x0A, 48] ++ List.replicate 48 b ++ [0]) with reqTag := t }

theorem test_side_down :
    let t := after (sideDown 0x0A12 3) (after (sideDown 0x0A11 2) (after (sideDown 0x0A10 1) yard))
    ((t.links.get? 0).map fun k => (k.down.map (·.req), k.waiting.map (·.req))) =
        some (some 0x0A10, some 0x0A12) ∧
      t.inflight.map (·.reqTag) = [0x0A10, 0x0A12] ∧
      t.replies.map (fun r => (r.reqTag, r.result)) = [(0x0A11, .replaced)] := by decide

/-- Example 5.14: CRANE_READ sets the side error count to 0. -/
theorem test_crane_read :
    let s := yard.modLink 0 fun k => { k with sideErrors := 1 }
    let t := after (.craneRead (onCtx 0 [0])) s
    (t.links.get? 0).map (·.sideErrors) = some 0 ∧ t.replies.map (·.result) = [.done] := by decide

/-! ### Reefers -/

/-- Example 7.7.1, report 3: supply -152 at setpoint -180 with count 2; a = 28, count 3, DEVIATION. -/
def report (supply : Int) : ReportFields :=
  { head := 4, supply := some (BitVec.ofInt 16 supply), ret := none, setpoint := some (BitVec.ofInt 16 (-180)),
    flags := 0, power := 0 }

theorem test_reefer_report :
    let s := yard.modReefer 0 fun r => { r with persist := 2, pref := .none }
    let t := after (.reeferReport 0x00A03C117F02 (report (-152))) s
    ((t.reefers.get? 0).map fun r => (r.persist, r.lastDev, r.alarm, r.age)) = some (3, some 28, .deviation, 0) ∧
      t.notices.map (·.content) =
        [.reeferClass .deviation .none (some { value := -152, clamped := false }) (some (-180)) (some 28) 3 0] := by
  decide

/-- Example 7.7.2, report 6: supply -455 is stored as -400, clamped; a = 205 at p = -195; flag 2 is critical. -/
theorem test_reefer_report_critical :
    let s := yard.modReefer 0 fun r => { r with booked := some (-200), alarm := .advisory, power := .battery }
    let f : ReportFields :=
      { head := 4, supply := some (BitVec.ofInt 16 (-455)), ret := none, setpoint := some (BitVec.ofInt 16 (-195)),
        flags := 0x0004, power := 2 }
    let t := after (.reeferReport 0x00A03C117F02 f) s
    ((t.reefers.get? 0).map fun r => (r.supply, r.lastDev, r.alarm, r.persist, r.doze)) =
        some (some { value := -400, clamped := true }, some 205, .critical, 1, .ordered) ∧
      t.orders = [.dozeOrder 4 0x00A03C117F02 true] := by decide

/-- Example 8.9, 500,020: DOZE_ACK DEEP_DOZE in DOZE_ORDERED. -/
theorem test_doze_ack :
    let s := yard.modReefer 0 fun r => { r with doze := .ordered, ackTimer := some 30 }
    (((after (.dozeAck 0x00A03C117F02 4 2) s).reefers.get? 0).map fun r => (r.doze, r.ackTimer)) =
        some (.deep, none) ∧
      ((after (.dozeAck 0x00A03C117F02 4 3) s).reefers.get? 0).map (·.doze) = some .ordered := by decide

/-- Example 8.9: the PAGE_ANSWER of an overdue reefer; three polls are out on head 4, the fourth is sent. -/
theorem test_page_answer :
    let s := (yard.modReefer 1 fun r =>
      { r with age := 960, contact := .unreachable, page := some { owner := none, attempts := 0, phase := .sent 44 } }
      ).modAccount 4 fun a => { a with polls := 3 }
    let t := after (.pageAnswer 0xE5 4) s
    ((t.reefers.get? 1).map fun r => (r.doze, r.page, r.poll, r.contact)) =
        some (.awake, none, .outstanding 4 200, .reachable) ∧
      (t.account 4).polls = 4 ∧ t.orders = [.poll 4 0xE5] ∧ t.pageQueue 4 = [] := by decide

/-- R143: at the ack limit the reefer is AWAKE. -/
theorem test_ack_limit_expiry :
    let s := yard.modReefer 0 fun r => { r with doze := .ordered, ackTimer := some 0 }
    ((after (.ackLimitExpiry 0) s).reefers.get? 0).map (fun r => (r.doze, r.ackTimer)) = some (.awake, none) := by
  decide

/-- Example 8.9, 500,114 and 500,194: the first expiry waits for a slot again, the second fails the page. -/
theorem test_page_answer_expiry :
    let s (n : Nat) := yard.modPage 1 fun p => { p with attempts := n, phase := .sent 0 }
    (((after (.pageAnswerExpiry 1) (s 0)).reefers.get? 1).map (·.page)) =
        some (some { owner := none, attempts := 1, phase := .slotWait }) ∧
      (((after (.pageAnswerExpiry 1) (s 1)).reefers.get? 1).map fun r => (r.page, r.contact)) =
        some (none, .unreachable) := by decide

/-- R147: the credit that returns to head 3 polls the reefer that waits there. -/
theorem test_poll_answer_expiry :
    let t := after (.pollAnswerExpiry 3) yard
    ((t.reefers.get? 3).map (·.poll)) = some .none ∧ ((t.reefers.get? 2).map (·.poll)) = some (.outstanding 3 200) ∧
      (t.account 3).polls = 1 ∧ t.orders = [.poll 3 0xE6] := by decide

/-- Example 8.9, age 960: the second raises the age to I + G, and the overdue expiry counts and queues an internal page. -/
theorem test_second_and_overdue_expiry :
    let s := { yard.modReefer 1 (fun r => { r with age := 959, page := none }) with secondDue := true }
    let t := after .secondExpiry (s.setPageQueue 4 [])
    let u := after (.overdueExpiry 1) t
    ((t.reefers.get? 1).map fun r => (r.age, r.overdueDue)) = some (960, true) ∧
      ((u.reefers.get? 1).map fun r => (r.missed, r.page)) =
        some (1, some { owner := none, attempts := 0, phase := .slotWait }) ∧ u.pageQueue 4 = [1] := by decide

/-- R150: PAGE takes over the internal page of reefer 1 and is answered ALREADY_AWAKE on reefer 0. -/
theorem test_page :
    let t := after (.page (onCtx 5 [0])) yard
    ((t.reefers.get? 1).bind (·.page)) = some { owner := some 0x0A10, attempts := 0, phase := .slotWait } ∧
      t.inflight.map (·.kind) = [.page] ∧
      (after (.page (onCtx 1 [0])) yard).replies.map (·.result) = [.alreadyAwake] := by decide

/-- R136: an interval of 5 is clamped to 10, and a booked setpoint of length 0 is none. -/
theorem test_reefer_params :
    let s := yard.modReefer 0 fun r => { r with booked := some (-200) }
    let t := after (.reeferParams (onCtx 1 [0x1D, 2, 0, 5, 0x26, 0, 0])) s
    ((t.reefers.get? 0).map fun r => (r.interval, r.booked)) = some (10, none) ∧
      t.replies.map (·.clamped) = [true] := by decide

/-- R137: REEFER_READ sets the missed count to 0. -/
theorem test_reefer_read :
    let s := yard.modReefer 0 fun r => { r with missed := 3 }
    ((after (.reeferRead (onCtx 1 [0])) s).reefers.get? 0).map (·.missed) = some 0 := by decide

/-! ### The part, its ports and its time -/

/-- R135: T_h = 20 with T_d = 20 is inconsistent; an ack limit of 5000 is clamped to 4095. -/
theorem test_part_config :
    (after (.partConfig (onPart [0x20, 2, 0, 20, 0])) yard).replies.map (·.result) = [.badOption] ∧
      (after (.partConfig (onPart [0x22, 2, 0x13, 0x88, 0])) yard).settings.ackLimit = 4095 := by decide

/-- R165: what PART_STATUS clears, and its body: frame, cause, overflow flag, unmatched count, last unknown tag, queues. -/
def status : State :=
  after (.partStatus (onPart [0])) { yard with overflow := true, unmatched := 2, lastUnknown := some 5 }

theorem test_part_status : status.overflow = false ∧ status.unmatched = 0 ∧ status.lastUnknown = some 5 := by decide

theorem test_part_status_body :
    status.replies.map (fun r => (r.body.take 8, r.body.drop 8)) =
      [([0, 0, 0, 0, 0, 1, 0, 2], [1, 0, 0, 0, 0, 0, 5, 0, 0, 0])] := by decide

/-- R166: links stop with cause RESTART, pages and waits end, the poll stays out. -/
theorem test_restart :
    let t := after (.restart (onPart [0])) yard
    ((t.links.get? 0).map fun k => (k.state, k.cause)) = some (.safeStop, some .restart) ∧
      (t.account 6).list = [] ∧ t.pageQueue 4 = [] ∧ t.pollWait 3 = [] ∧
      ((t.reefers.get? 3).map (·.poll)) = some (.outstanding 3 0) ∧ t.restartCause = .warm := by
  decide +kernel

/-- R157: an unknown kind is answered under its own code; a short message is not. -/
theorem test_no_request :
    ((after (.unknownRequestKind 0x40 (onPart [])) yard).replies.map fun r => (r.kind, r.result)) =
        [(0x40, .badOption)] ∧
      (after (.incompleteRequestHeader [1]) yard).replies = [] := by decide

/-- R12, R160, R173: a target that an earlier check did not reach comes back as given, in the part form too; one that was
reached and then refused is the part (log 10). -/
theorem test_unreached_target :
    ((after (.unknownRequestKind 0x40 (req 0x03 0x123456789ABC [0])) yard).replies.map (·.identity)) =
        [.asGiven 0x123456789ABC] ∧
      ((after (.partStatus (req 0x03 7 [])) yard).replies.map fun r => r.bytes.drop 4) =
        [[0x08, 0, 0xFF, 0xFF, 0, 0, 0, 0, 0, 7]] ∧
      ((after (.read (req 0x03 7 [0])) yard).replies.map (·.identity)) = [.asGiven 7] ∧
      ((after (.partConfig (req 0x03 7 [0x20, 2, 0, 20, 0])) yard).replies.map (·.identity)) = [.part] := by decide

/-- R169: an unknown tag is kept, an unknown kind and a head above 23 are counted alone. -/
theorem test_unmatched :
    let t := after (.pageAnswer 0x99 4) { yard with unmatched := 65534 }
    t.unmatched = 65535 ∧ t.lastUnknown = some 0x99 ∧ (after (.unknownEventKind [0x55]) t).unmatched = 65535 ∧
      (after (.headUp 24) yard).unmatched = 1 ∧ (after (.headUp 24) yard).lastUnknown = none := by decide

/-- R171: the 1000th strobe makes a second expiry and the timers fall by one; the frame number wraps. -/
theorem test_frame_strobe :
    let s := ({ State.reset with frame := 0xFFFFFFFF, divider := 999 } : State).setHead 4 up
    let t := after .frameStrobe s
    t.frame = 0 ∧ t.divider = 0 ∧ t.secondDue = true ∧ (t.head 4).sweep = some { slot := 3, remaining := 5 } := by
  decide +kernel

/-- Log 2: a poll-answer expiry and a cycle expiry still due at a strobe are taken ahead of its counts. -/
theorem test_late_strobe :
    let s : State :=
      { State.reset with
        links := [(0, { CraneLink.fresh 0 with state := .safeStop, cause := some .ordered, cycle := some 0 })]
        reefers := [(0, { Reefer.fresh 1 with poll := .outstanding 3 0 })] }
    let t := after .frameStrobe s
    ((t.links.get? 0).map (·.cycle)) = some (some 7) ∧ ((t.reefers.get? 0).map (·.poll)) = some .none := by
  decide +kernel

theorem test_cold_reset : after .coldReset { yard with pending := [.orderSend] } =
    { State.reset with pending := [.orderSend] } := by decide

/-- R163, R170: the reply goes out ahead of the notice; the bytes of both are those of Tables 11-3 and 11-6; SERVE_ORDER goes down the quay link. -/
theorem test_sends :
    let s := { (yard.post (.head 3) (.headState .active .none 200)).order (.serveOrder 0x00A03C117F02 none 7) with
      replies := [replyTo .page (onCtx 5 [0]) .busy false .part []] }
    let t := after .replySend s
    (after .noticeSend s).notices.length = 1 ∧
      t.portLine = some [0x01, 0x0F, 0x0A, 0x10, 0x02, 0, 0xFF, 0xFF, 0, 0, 0, 0, 0, 0] ∧
      (after .noticeSend t).notices = [] ∧
      (after .orderSend s).linkLine = some [0x41, 0x00, 0xA0, 0x3C, 0x11, 0x7F, 0x02, 0xFF, 0x07] := by decide

/-- Example 9.6, steps 2, 4 and 6 on a small queue: a matching notice is replaced in place. -/
theorem test_post_replaces :
    let s := (yard.post (.context 40) .serveLost).post (.head 3) (.headState .active .none 200)
    (s.post (.head 3) (.headState .faulted .lineOpen 0)).notices =
      [⟨.context 40, .serveLost⟩, ⟨.head 3, .headState .faulted .lineOpen 0⟩] := by decide

/-- A step takes the front command and leaves the rest; the block idles on an empty queue (log 1). -/
theorem test_step_takes_the_front :
    let t := match step { yard with pending := [.headUp 11, .orderSend] } with | .next t => t | _ => yard
    t.pending = [.orderSend] ∧ (t.head 11).state = .starting := by decide

/-! ### Witnesses: states and operands that meet the hypotheses of the statements, clause by clause -/

/-- The yard with one command waiting. -/
def busy : State := { yard with pending := [.lineFault 5 false] }

theorem witness_StepRunsTheFrontCommand :
    busy.pending = .lineFault 5 false :: [] ∧ yard.pending = [] := by decide

theorem witness_EveryStepKeepsTheTables : busy.tablesLaw ∧ busy.ownershipLaw ∧ ∃ t, step busy = .next t :=
  ⟨yard_tables, yard_ownership, _, rfl⟩

theorem witness_EveryStepKeepsTheAirtimeLaw : busy.airtimeLaw ∧ ∃ t, step busy = .next t := ⟨yard_airtime, _, rfl⟩

theorem witness_EveryStepKeepsTheReservationLaw :
    busy.tablesLaw ∧ busy.ownershipLaw ∧ busy.airtimeLaw ∧ busy.handoverLaw ∧ busy.reservationLaw ∧
      ∃ t, step busy = .next t :=
  ⟨yard_tables, yard_ownership, yard_airtime, yard_handovers, yard_reservations, _, rfl⟩

theorem witness_EveryStepKeepsTheCandidateLists : busy.tablesLaw ∧ busy.candidateLaw ∧ ∃ t, step busy = .next t :=
  ⟨yard_tables, yard_candidates, _, rfl⟩

theorem witness_EveryStepKeepsServingHeadsInService :
    busy.tablesLaw ∧ busy.ownershipLaw ∧ busy.airtimeLaw ∧ busy.handoverLaw ∧ busy.candidateLaw ∧ busy.servedLaw ∧
      ∃ t, step busy = .next t :=
  ⟨yard_tables, yard_ownership, yard_airtime, yard_handovers, yard_candidates, yard_served, _, rfl⟩

theorem witness_EveryStepKeepsTheHeadRecords : busy.headLaw ∧ ∃ t, step busy = .next t := ⟨yard_heads, _, rfl⟩

theorem witness_EveryStepKeepsTheLinkRecords : busy.tablesLaw ∧ busy.linkLaw ∧ ∃ t, step busy = .next t :=
  ⟨yard_tables, yard_links, _, rfl⟩

theorem witness_EveryStepKeepsTheReeferRecords : busy.tablesLaw ∧ busy.reeferLaw ∧ ∃ t, step busy = .next t :=
  ⟨yard_tables, yard_reefers, _, rfl⟩

theorem witness_EveryStepKeepsThePollLaw :
    busy.tablesLaw ∧ busy.ownershipLaw ∧ busy.pollLaw ∧ ∃ t, step busy = .next t :=
  ⟨yard_tables, yard_ownership, yard_polls, _, rfl⟩

theorem witness_EveryStepKeepsThePageQueues :
    busy.tablesLaw ∧ busy.ownershipLaw ∧ busy.pageLaw ∧ ∃ t, step busy = .next t :=
  ⟨yard_tables, yard_ownership, yard_pages, _, rfl⟩

theorem witness_EveryStepKeepsThePortsAndSettings :
    busy.portLaw ∧ busy.settingsLaw ∧ ∃ t, step busy = .next t := ⟨yard_ports, yard_settings, _, rfl⟩

theorem witness_OnlyStrobesAdvanceTheFrameCounts :
    (∃ t, exec .frameStrobe yard = .next t) ∧
      ∃ t, exec .orderSend yard = .next t ∧ Instr.orderSend ≠ .frameStrobe ∧ Instr.orderSend ≠ .coldReset :=
  ⟨⟨_, rfl⟩, _, rfl, nofun, nofun⟩

theorem witness_OnlyAttachAndRetireChangeIdentities :
    ∃ t, exec (.headUp 11) yard = .next t ∧ (∀ r, Instr.headUp 11 ≠ .attach r) ∧ (∀ r, Instr.headUp 11 ≠ .retire r) ∧
      Instr.headUp 11 ≠ .coldReset :=
  ⟨_, rfl, nofun, nofun, nofun⟩

theorem witness_SettingsChangeByTheirRequestsAlone :
    ∃ t, exec (.headUp 11) yard = .next t ∧ Instr.headUp 11 ≠ .coldReset ∧ (∀ r, Instr.headUp 11 ≠ .classParams r) ∧
      (∀ r, Instr.headUp 11 ≠ .partConfig r) ∧ (∀ r, Instr.headUp 11 ≠ .shadowSet r) ∧
      (∀ r, Instr.headUp 11 ≠ .pollWindowSet r) ∧ ∀ r, Instr.headUp 11 ≠ .headConfig r :=
  ⟨_, rfl, nofun, nofun, nofun, nofun, nofun, nofun⟩

theorem witness_ControlMessagesReadBack :
    (Instr.sweepSet sweep28).WellFormed = true ∧ (requestBytes (.sweepSet sweep28)).isSome = true := by decide

theorem witness_EventMessagesReadBack :
    (Instr.reeferReport 1 (report 5)).WellFormed = true ∧ (eventBytes (.reeferReport 1 (report 5))).isSome = true := by
  decide

/-- Each of the four failing checks and a list that passes all, of CRANE_START; and an option code that no row has. -/
theorem witness_OptionListsMeetTheChecksInOrder :
    let twice : Options := [(.units, [1]), (.units, [2])]
    let foreign : Options := [(.block, [1])]
    let long : Options := [(.units, [1, 2])]
    let bare : Options := [(.units, [1])]
    let whole : Options := [(.setpoint, List.replicate 18 0)]
    (∀ os ∈ [twice, foreign, long, bare, whole], ∀ e ∈ os, e.2.length < 256) ∧ ¬ (twice.map (·.1)).Nodup ∧
      foreign.any (fun e => !(optionsTaken .craneStart).contains e.1) = true ∧
      long.any (fun e => !e.1.lengthOk e.2.length) = true ∧
      (optionsRequired .craneStart).any (fun o => !(bare.map (·.1)).contains o) = true ∧
      (whole.map (·.1)).Nodup ∧ (optionsRequired .craneStart).any (fun o => !(whole.map (·.1)).contains o) = false ∧
      (0x29 : Byte) ≠ 0 ∧ Opt.ofCode 0x29 = none ∧ ([] : List Byte).length < 256 := by decide

theorem witness_RefusedRequestsChangeNothing :
    ∃ t a, exec (ReqKind.retire.command (onCtx 0 [0])) yard = .next t ∧ t.replies = yard.replies ++ [a] ∧
      a.result ≠ .done ∧ a.result ≠ .replaced :=
  ⟨_, _, rfl, rfl, nofun, nofun⟩

theorem witness_OptionFaultsComeBeforeTargetFaults :
    checkOptions .find [] = .error .badOption ∧ carries .find (onCtx 6144 [0]) [] ∧
      6144 ≤ (onCtx 6144 [0]).target.toNat ∧ (onCtx 6143 [0]).target.toNat < 6144 ∧
      yard.contexts.get? 6143 = none ∧ yard.findTag (onTag 9 [0]).target = none ∧
      (onTheHead 0 [0]).form ≠ 0x00 ∧ (onTheHead 0 [0]).form ≠ 0x01 ∧ (onPart [0]).form ≠ 0x00 ∧
      (onPart [0]).form ≠ 0x01 ∧ ¬ ((onTheHead 24 [0]).form = 0x02 ∧ (onTheHead 24 [0]).target.toNat < 24) ∧
      (onCtx 0 [0]).form ≠ 0x03 :=
  ⟨rfl, rfl, by decide⟩

theorem witness_OptionFaults_wrong_class :
    names (onCtx 2 [0]) yard 2 (ctx 0xB0 .vehicle (some 2) 1 none [cand 2 1 1600 0]) ∧
      carries .craneRead (onCtx 2 [0]) [] ∧ carries .page (onCtx 2 [0]) [] :=
  ⟨by unfold names; decide, rfl, rfl⟩

theorem witness_UnreadableAndUnmatchedMessages :
    yard.findTag 0x99 = none ∧ (yard.findTag 0xB0).map (·.2.cls) = some .vehicle ∧ 24 ≤ (24 : Byte).toNat := by decide

theorem witness_ReadingRequestsChangeNothing :
    bare (onTag 0xB0 [0]) ∧ names (onTag 0xB0 [0]) yard 2 (ctx 0xB0 .vehicle (some 2) 1 none [cand 2 1 1600 0]) ∧
      bare (onTheHead 23 [0]) ∧ namesHead (onTheHead 23 [0]) 23 := by
  unfold bare names namesHead; decide

/-! #### Terminal contexts -/

def os1 : Options := [(.tag, [0x00, 0xA0, 0x3C, 0x11, 0x7F, 0x02]), (.cls, [0x01]), (.segment, [41])]

/-- ATTACH of a tag and a class alone. -/
def attachOf (cls : Byte) : Request := onPart [0x01, 6, 0, 0, 0, 0, 0, 9, 0x02, 1, cls, 0x00]
def osOf (cls : Byte) : Options := [(.tag, [0, 0, 0, 0, 0, 9]), (.cls, [cls])]

theorem witness_AttachCreatesTheContext_reefer :
    namesPart attach1 ∧ carries .attach attach1 os1 ∧ (os1.nat .cls).bind classOf = some .reefer ∧
      os1.readAs .segment none segmentOrNone = some (some 41) ∧ os1.readAs .pinned false pinnedOf = some false ∧
      before1.findTag (attachTag os1) = none ∧ before1.contexts.lowestFree < 6144 ∧
      before1.reefers.lowestFree < 4096 :=
  ⟨rfl, rfl, by decide⟩

theorem witness_AttachCreatesTheContext_crane :
    namesPart (attachOf 0) ∧ carries .attach (attachOf 0) (osOf 0) ∧
      ((osOf 0).nat .cls).bind classOf = some .crane ∧ (osOf 0).readAs .segment none segmentOrNone = some none ∧
      (osOf 0).readAs .pinned false pinnedOf = some false ∧ (osOf 0).has .segment = false ∧
      yard.findTag (attachTag (osOf 0)) = none ∧ yard.contexts.lowestFree < 6144 ∧ yard.links.lowestFree < 32 :=
  ⟨rfl, rfl, by decide⟩

theorem witness_AttachCreatesTheContext_vehicle :
    namesPart (attachOf 2) ∧ carries .attach (attachOf 2) (osOf 2) ∧
      ((osOf 2).nat .cls).bind classOf = some .vehicle ∧ (osOf 2).readAs .segment none segmentOrNone = some none ∧
      (osOf 2).readAs .pinned false pinnedOf = some false ∧ yard.findTag (attachTag (osOf 2)) = none ∧
      yard.contexts.lowestFree < 6144 :=
  ⟨rfl, rfl, by decide⟩

/-- The refusals: class 4, segment 64 and pinned 2; a crane with a segment; a tag held; 32 links. -/
theorem witness_AttachCreatesTheContext_refusals :
    carries .attach (attachOf 4) (osOf 4) ∧ ((osOf 4).nat .cls).bind classOf = none ∧
      Options.readAs [(.segment, [64])] .segment none segmentOrNone = none ∧
      Options.readAs [(.pinned, [2])] .pinned false pinnedOf = none ∧
      carries .attach (onPart [0x01, 6, 0, 0, 0, 0, 0, 9, 0x02, 1, 0, 0x03, 1, 5, 0])
        [(.tag, [0, 0, 0, 0, 0, 9]), (.cls, [0]), (.segment, [5])] ∧
      Options.has [(.tag, [0, 0, 0, 0, 0, 9]), (.cls, [0]), (.segment, [5])] .segment = true ∧
      (yard.findTag (attachTag os1)).isSome = true ∧
      32 ≤ Table.lowestFree ((List.range 32).map fun k => (k, CraneLink.fresh k)) :=
  ⟨rfl, by decide, by decide, by decide, rfl, by decide⟩

/-- The lowest free slot of a table whose first `n` slots hold one record each. -/
theorem lowestFree_range {α : Type} (v : α) (n : Nat) :
    Table.lowestFree ((List.range n).map fun k => (k, v)) = n := by
  have h : ∀ m a, Table.freeFrom ((List.range' a m).map fun k => (k, v)) a = a + m := by
    intro m
    induction m with
    | zero => intro a; rfl
    | succ m ih => intro a; simp only [List.range'_succ, List.map_cons, Table.freeFrom, if_pos]; rw [ih]; omega
  rw [List.range_eq_range']
  simpa [Table.lowestFree] using h n 0

/-- Every slot below `n` is occupied; every reefer record below `n` is. -/
def slotsTo (n : Nat) : State :=
  { State.reset with contexts := (List.range n).map fun k => (k, ctx 1 .vehicle none 0 none []) }
def recordsTo (n : Nat) : State :=
  { State.reset with reefers := (List.range n).map fun k => (k, Reefer.fresh 1) }

theorem slotsTo_lowestFree (n : Nat) : (slotsTo n).contexts.lowestFree = n := lowestFree_range _ n

theorem recordsTo_lowestFree (n : Nat) : (recordsTo n).reefers.lowestFree = n := lowestFree_range _ n

theorem slotsTo_findTag (n : Nat) : (slotsTo n).findTag (attachTag (osOf 2)) = none := by
  refine List.find?_eq_none.mpr fun e he => ?_
  obtain ⟨k, -, rfl⟩ := List.mem_map.mp he
  show ¬ (decide ((1 : BitVec 48) = attachTag (osOf 2)) = true)
  decide

/-- All 6144 slots occupied; all 4096 reefer records occupied with a slot free. -/
theorem witness_AttachCreatesTheContext_full :
    6144 ≤ (slotsTo 6144).contexts.lowestFree ∧ (slotsTo 6144).findTag (attachTag (osOf 2)) = none ∧
      4096 ≤ (recordsTo 4096).reefers.lowestFree ∧ (recordsTo 4096).contexts.lowestFree < 6144 := by
  rw [slotsTo_lowestFree, recordsTo_lowestFree]
  exact ⟨Nat.le_refl _, slotsTo_findTag _, Nat.le_refl _, by simp [recordsTo, State.reset, Table.lowestFree, Table.freeFrom]⟩

theorem witness_AttachTakesTheLowestFreeSlot :
    before1.tablesLaw ∧ ∃ t a, exec (.attach attach1) before1 = .next t ∧ t.replies = before1.replies ++ [a] ∧
      a.result = .done :=
  ⟨by unfold State.tablesLaw; decide, _, _, rfl, rfl, rfl⟩

def vehicle2 : Context := ctx 0xB0 .vehicle (some 2) 1 none [cand 2 1 1600 0]
def crane0 : Context := ctx 0xC0 .crane (some 5) 2 (some 0) [cand 6 3 1680 2, cand 5 2 1600 0]
def crane3 : Context := ctx 0xC1 .crane (some 6) 0 (some 1) [cand 6 0 1500 0]
def crane8 : Context := ctx 0xC2 .crane (some 5) 2 (some 2) [cand 6 3 1680 3, cand 5 2 1600 0]
def crane9 : Context := ctx 0xC3 .crane (some 6) 0 (some 3) [cand 6 0 1500 0]
def reefer1 : Context := ctx 0x00A03C117F02 .reefer (some 4) 5 (some 0) [cand 4 5 1600 0]
def reefer5 : Context := ctx 0xE5 .reefer (some 4) 5 (some 1) [cand 4 5 1600 0]
def reefer7 : Context := ctx 0xE7 .reefer (some 3) 1 (some 3) [cand 3 1 1600 0]

theorem witness_AmendWritesSegmentAndPinned :
    names (onCtx 2 [0]) yard 2 vehicle2 ∧ carries .amend (onCtx 2 [0]) [] ∧
      carries .amend (onCtx 2 [0x03, 1, 63, 0x08, 1, 1, 0]) [(.segment, [63]), (.pinned, [1])] ∧
      Options.readAs [(.segment, [63]), (.pinned, [1])] .segment vehicle2.segment segmentOrNone = some (some 63) ∧
      Options.readAs [(.segment, [63]), (.pinned, [1])] .pinned vehicle2.pinned pinnedOf = some true ∧
      names (onCtx 0 [0x03, 1, 0xFF, 0]) yard 0 crane0 ∧
      carries .amend (onCtx 0 [0x03, 1, 0xFF, 0]) [(.segment, [0xFF])] ∧
      Options.readAs [(.segment, [0xFF])] .segment crane0.segment segmentOrNone = some none ∧
      Options.has [(.segment, [0xFF])] .segment = true ∧
      Options.readAs [(.segment, [64])] .segment vehicle2.segment segmentOrNone = none ∧
      Options.readAs [(.pinned, [2])] .pinned vehicle2.pinned pinnedOf = none :=
  ⟨by unfold names; decide, rfl, rfl, by decide, by decide, by unfold names; decide, rfl, by decide⟩

theorem witness_RetireRemovesTheContext :
    bare (onCtx 2 [0]) ∧ names (onCtx 2 [0]) yard 2 vehicle2 ∧ vehicle2.cls = .vehicle ∧
      names (onCtx 3 [0]) yard 3 crane3 ∧ (yard.links.get? 1).map (·.state) = some .idle ∧
      names (onCtx 0 [0]) yard 0 crane0 ∧ (yard.links.get? 0).map (·.state) = some .running := by
  unfold bare names; decide

/-- The yard after a PAGE took over the internal page of reefer 1. -/
def paged : State := after (.page (onCtx 5 [0])) yard

theorem witness_RetireEndsTheReefersWork :
    paged.pageLaw ∧ bare (onCtx 5 [0]) ∧ names (onCtx 5 [0]) paged 5 reefer5 ∧
      ((paged.reefers.get? 1).bind (·.page)).bind (·.owner) = some 0x0A10 ∧
      (paged.inflight.find? (InFlight.is .page (.context 5) 0x0A10)).isSome = true ∧
      names (onCtx 7 [0]) paged 7 reefer7 ∧ (paged.reefers.get? 3).map (·.poll) = some (.outstanding 3 0) := by
  unfold State.pageLaw bare names; decide

/-! #### Heads -/

/-- Head 9 with lock, and head 9 with its start timer expired. -/
def locked9 : State := yard.modHead 9 fun x => { x with locked := true, lockTimer := none }
def expired9 : State := yard.modHead 9 fun x => { x with startTimer := none }

theorem witness_IgnoredHeadEventsChangeNothing :
    (yard.head 11).state = .offline ∧ (yard.head 9).state = .starting ∧ (locked9.head 9).state = .starting ∧
      (locked9.head 9).locked = true ∧ (yard.head 5).state = .active ∧ (yard.head 10).state = .holdover ∧
      (yard.head 12).state = .faulted ∧ ∀ h : HeadIx, (BitVec.ofNat 8 h.val).toNat = h.val := by decide

theorem witness_HeadUpStartsTheHead : (11 : Byte).toNat = (11 : HeadIx).val ∧ (yard.head 11).state = .offline := by
  decide

theorem witness_LockAndStartTimerGiveActive :
    (9 : Byte).toNat = (9 : HeadIx).val ∧
      ((expired9.head 9).state = .starting ∧ (expired9.head 9).locked = false ∧ (expired9.head 9).startTimer = none) ∧
      ((yard.head 9).state = .starting ∧ (yard.head 9).locked = false ∧ (yard.head 9).startTimer = some 0) ∧
      ((locked9.head 9).startTimer = some 0 ∧ (locked9.head 9).locked = true) ∧
      (10 : Byte).toNat = (10 : HeadIx).val ∧ (yard.head 10).state = .holdover := by decide

theorem witness_LossOfLockGivesHoldover :
    yard.tablesLaw ∧ ((yard.account 6).list.map (·.owner)).Nodup ∧ ((yard.account 5).list.map (·.owner)).Nodup ∧
      (6 : Byte).toNat = (6 : HeadIx).val ∧ (yard.head 6).state = .active ∧
      (yard.account 6).preparedOwners = [2] ∧ (5 : Byte).toNat = (5 : HeadIx).val ∧ (yard.head 5).state = .active ∧
      (yard.account 5).preparedOwners = [] :=
  ⟨yard_tables, by decide⟩

theorem witness_FaultClearsTheHead :
    yard.tablesLaw ∧ yard.ownershipLaw ∧ yard.airtimeLaw ∧ yard.handoverLaw ∧ yard.reservationLaw ∧
      (5 : Byte).toNat = (5 : HeadIx).val ∧ (yard.head 5).state.inService = true ∧
      (yard.head 9).state = .starting ∧ (yard.head 9).lockTimer = some 0 ∧
      (yard.head 10).state = .holdover ∧ (yard.head 10).holdoverTimer = some 0 :=
  ⟨yard_tables, yard_ownership, yard_airtime, yard_handovers, yard_reservations, by decide⟩

/-- Links of contexts served by head 5: 2 in a handover, 0 running without one; and by head 6: 1 IDLE. -/
theorem witness_FaultClearsTheHead_links :
    yard.contexts.get? 8 = some crane8 ∧ (yard.links.get? 2).bind (·.phase.target?) = some 6 ∧
      yard.contexts.get? 0 = some crane0 ∧
      (yard.links.get? 0).map (fun x => (x.phase, x.state)) = some (.none, .running) ∧
      yard.contexts.get? 3 = some crane3 ∧
      (yard.links.get? 1).map (fun x => (x.phase, x.state)) = some (.none, .idle) := by decide

/-- Link 3 stopped on head 6 with its reservation there; the laws hold, and head 4 has a page in its queue. -/
theorem witness_FaultClearsTheHead_stopped :
    stopped6.tablesLaw ∧ stopped6.ownershipLaw ∧ stopped6.airtimeLaw ∧ stopped6.handoverLaw ∧ stopped6.reservationLaw ∧
      stopped6.pageLaw ∧ stopped6.holds .standing 3 6 = true ∧ (stopped6.links.get? 3).map (·.state) = some .safeStop ∧
      (stopped6.pageQueue 4).Nodup := by
  refine ⟨?_, ?_, ?_, ?_, ?_, ?_, by decide⟩
  · unfold State.tablesLaw; decide
  · unfold State.ownershipLaw; decide
  · unfold State.airtimeLaw; decide
  · unfold State.handoverLaw; decide
  · unfold State.reservationLaw; decide
  · unfold State.pageLaw; decide

theorem witness_HeadClearReturnsTheHeadToOffline :
    bare (onTheHead 12 [0]) ∧ namesHead (onTheHead 12 [0]) 12 ∧ (yard.head 12).state = .faulted ∧
      namesHead (onTheHead 5 [0]) 5 ∧ (yard.head 5).state ≠ .faulted := by
  unfold bare namesHead; decide

/-- Head 4 with the schedule of example 2.8 staged, at the end of its last slot. -/
def wrapping : State :=
  (after (.sweepSet sweep28) yard).modHead 4 fun x => { x with sweep := some { slot := 7, remaining := 0 } }

theorem witness_DwellExpiryAdvancesTheSweep :
    (yard.head 9).sweep = some { slot := 0, remaining := 0 } ∧ 0 + 1 < (yard.head 9).active.count ∧
      (yard.head 10).sweep = some { slot := 7, remaining := 0 } ∧ (yard.head 10).active.count ≤ 7 + 1 ∧
      (wrapping.head 4).sweep = some { slot := 7, remaining := 0 } ∧ (wrapping.head 4).staged.isSome = true ∧
      (wrapping.inflight.find? (InFlight.isFor .sweepSet (.head 4))).isSome = true ∧ wrapping.pageQueue 4 = [1] ∧
      (wrapping.pageQueue 4).Nodup := by decide

theorem witness_SlotEntrySendsTheSuitedPages :
    (yard.head 4).active.slot 5 = some 5 ∧ (yard.head 4).active.slot 8 = none ∧ (yard.pageQueue 4).Nodup ∧ 1 ∈ yard.pageQueue 4 ∧ yard.suits 1 5 = true ∧ yard.suits 1 4 = false := by decide

/-- HEAD_CONFIG with start frames alone, and with capacities of 44 and 24 where S = 28. -/
theorem witness_HeadConfigWritesTheSettings :
    namesHead (onTheHead 6 [0x1A, 2, 0, 9, 0]) 6 ∧
      carries .headConfig (onTheHead 6 [0x1A, 2, 0, 9, 0]) [(.startFrames, [0, 9])] ∧
      Options.has [(.startFrames, [0, 9])] .capacity = false ∧
      carries .headConfig (onTheHead 6 [0x13, 1, 44, 0]) [(.capacity, [44])] ∧
      carries .headConfig (onTheHead 6 [0x13, 1, 24, 0]) [(.capacity, [24])] ∧
      before44.tablesLaw ∧ ((before44.account 6).list.map (·.owner)).Nodup ∧ (before44.account 6).standing = 28 ∧
      Options.readAs [(.capacity, [44])] .spanFirst (before44.head 6).spanFirst segmentOf = some 0 ∧
      Options.readAs [(.capacity, [44])] .spanLast (before44.head 6).spanLast segmentOf = some 63 ∧
      (0 : Segment) ≤ 63 ∧ Options.has [(.capacity, [44])] .capacity = true ∧
      settingOf 16 240 60 (Options.nat [(.capacity, [44])] .capacity) = 44 ∧
      settingOf 16 240 60 (Options.nat [(.capacity, [24])] .capacity) = 24 :=
  ⟨by unfold namesHead; decide, rfl, by decide, rfl, rfl, by unfold State.tablesLaw; decide, by decide⟩

/-- The refusals: span first 64, no option, and first 63 above last 0. -/
theorem witness_HeadConfig_refusals :
    carries .headConfig (onTheHead 6 [0x04, 1, 64, 0]) [(.spanFirst, [64])] ∧
      Options.readAs [(.spanFirst, [64])] .spanFirst (yard.head 6).spanFirst segmentOf = none ∧
      carries .headConfig (onTheHead 6 [0]) [] ∧
      carries .headConfig (onTheHead 6 [0x04, 1, 63, 0x05, 1, 0, 0]) [(.spanFirst, [63]), (.spanLast, [0])] ∧
      Options.readAs [(.spanFirst, [63]), (.spanLast, [0])] .spanFirst (yard.head 6).spanFirst segmentOf = some 63 ∧
      Options.readAs [(.spanFirst, [63]), (.spanLast, [0])] .spanLast (yard.head 6).spanLast segmentOf = some 0 :=
  ⟨rfl, by decide, rfl, rfl, by decide, by decide⟩

/-- The in-flight list at its limit. -/
def full : State :=
  { yard with
    inflight := List.replicate 64 { reqTag := 1, kind := .sideDown, subject := .context 0, clamped := false } }

def osSweep : Options := [(.slots, [0, 2, 4, 6, 0xFF]), (.dwell, [8])]

theorem witness_SweepSetStagesOrApplies :
    namesHead sweep28 4 ∧ carries .sweepSet sweep28 osSweep ∧
      slotsOf ((osSweep.bytes .slots).getD []) = some [some 0, some 2, some 4, some 6, none] ∧
      64 ≤ full.inflight.length ∧ (yard.head 4).state.inService = true ∧ (yard.head 4).staged = none ∧
      (wrapping.head 4).state.inService = true ∧ (wrapping.head 4).staged.isSome = true ∧
      (wrapping.inflight.find? (InFlight.isFor .sweepSet (.head 4))).isSome = true ∧ wrapping.inflight.length < 64 ∧
      namesHead (onTheHead 12 [0x0B, 1, 8, 0]) 12 ∧ (yard.head 12).state.inService = false :=
  ⟨by unfold namesHead; decide, rfl, by decide, by decide, by decide, by decide, by decide, by decide, by decide,
    by decide, by unfold namesHead; decide, by decide⟩

/-- Slot value 8 names nothing. -/
theorem witness_SweepSet_bad_slot :
    carries .sweepSet (onTheHead 12 [0x0B, 1, 8, 0]) [(.slots, [8])] ∧ slotsOf [8] = none := ⟨rfl, by decide⟩

/-! #### Airtime and measurement -/

theorem witness_PollWindowSetFitsTheWindow :
    namesHead (onTheHead 3 [0x14, 1, 255, 0]) 3 ∧
      carries .pollWindowSet (onTheHead 3 [0x14, 1, 255, 0]) [(.window, [255])] :=
  ⟨by unfold namesHead; decide, rfl⟩

theorem witness_WaitListPassPollsTheOldest :
    (yard.pollWait 3).Nodup ∧ (∀ i ∈ yard.pollWait 3, (yard.reeferContext i).isSome = true) ∧ yard.pollWait 3 = [2] := by
  decide

/-- The filter at its ends: a difference of 2^k - 1 stays, one of 2^k moves; and a new head. -/
theorem witness_FilterStepApproachesItsTarget :
    (6 ≤ 6 ∧ 0 ≤ 3520 ∧ (3520 : Nat) ≤ 3520) ∧ ((63 : Int) - 0).natAbs < 2 ^ 6 ∧ 2 ^ 6 ≤ ((64 : Int) - 0).natAbs ∧
      cand 6 3 1680 0 ∈ takeNewHead yard crane0 none [cand 6 3 1680 0] ⟨7, 1, 160⟩ := by decide

/-- Four open entries, the lowest of them on head 8. -/
def fourEntries : List Candidate := [cand 4 0 900 0, cand 6 0 800 0, cand 7 0 700 0, cand 8 0 600 0]

theorem witness_ReportsFilterScoreAndOrderTheList :
    ([⟨5, 1, 1536⟩] : List Accepted).find? (fun a => a.head == 5) = some ⟨5, 1, 1536⟩ ∧
      (∀ a ∈ ([] : List Accepted), a.head ≠ (cand 5 2 1600 0).head) ∧ (cand 5 2 1600 0).missing < 2 ∧
      2 ≤ { cand 5 2 1600 0 with missing := 2 }.missing ∧ [cand 5 2 1600 0].length < 4 ∧ 4 ≤ fourEntries.length ∧
      (∀ x ∈ fourEntries, vehicle2.serving ≠ some x.head) ∧
      scoreOf yard vehicle2 8 600 < scoreOf yard vehicle2 3 1000 ∧
      (∀ x ∈ fourEntries, scoreOf yard vehicle2 8 600 < scoreOf yard vehicle2 x.head x.level ∨
        scoreOf yard vehicle2 8 600 = scoreOf yard vehicle2 x.head x.level ∧ x.head ≤ 8) ∧
      ∀ w ∈ fourEntries, scoreOf yard vehicle2 3 100 ≤ scoreOf yard vehicle2 w.head w.level := by decide

/-- Entries accepted and ignored: head 5 in service, and then head 5 again, head 24, sector 8 and head 12, FAULTED. -/
theorem witness_ReportsFilterScoreAndOrderTheList_accepted :
    ([] : List MeasEntry).length < 4 ∧ (5 : Byte).toNat = (5 : HeadIx).val ∧ (7 : Byte).toNat = (7 : Sector).val ∧
      (yard.head 5).state ∈ [HeadState.starting, .active, .holdover] ∧
      acceptedEntries yard [⟨5, 7, 255⟩] = [⟨5, 7, 3520⟩] ∧ 24 ≤ (24 : Byte).toNat ∧ 8 ≤ (8 : Byte).toNat ∧
      (yard.head 12).state ∈ [HeadState.offline, .faulted] ∧
      acceptedEntries yard [⟨24, 0, 9⟩, ⟨5, 8, 9⟩, ⟨12, 0, 9⟩, ⟨5, 0, 1⟩, ⟨6, 0, 1⟩] = [⟨5, 0, 16⟩] := by decide

/-- The list that stages 1 and 2 of a report leave. -/
def scored (s : State) (c : Context) (es : List MeasEntry) : List Candidate :=
  stageScore s c (stageFilter s c (s.handoverTarget c) (acceptedEntries s es))

theorem witness_ReportsServeAContextAgain :
    yard.findTag 0xD0 = some (4, ctx 0xD0 .handheld none 0 none []) ∧
      scored yard (ctx 0xD0 .handheld none 0 none []) [] = [] ∧
      (scored yard (ctx 0xD0 .handheld none 0 none []) [⟨5, 1, 100⟩]).length = 1 := by decide

/-- A vehicle and a reefer with head 7 one report from their trigger. -/
def vehicleAtTrigger : Context := { vehicle2 with cands := [cand 7 4 3000 1, cand 2 1 1600 0] }
def reeferAtTrigger : Context := { reefer5 with cands := [cand 7 4 3000 3, cand 4 5 1600 0] }
def waiterAtTrigger : Context :=
  { ctx 0xE6 .reefer (some 3) 1 (some 2) [] with cands := [cand 7 4 3000 3, cand 3 1 1600 0] }
def triggering : State :=
  ((yard.modContext 2 fun _ => vehicleAtTrigger).modContext 5 fun _ => reeferAtTrigger).modContext 6 fun _ =>
    waiterAtTrigger

/-- The serving entry, and the entry that stands at the trigger after stage 4. -/
def servingEntry (s : State) (c : Context) (es : List MeasEntry) (h : HeadIx) : Option Candidate :=
  (scored s c es).find? fun e => e.head == h
def atTrigger (s : State) (c : Context) (es : List MeasEntry) (h : HeadIx) (sv : Candidate) : Option HeadIx :=
  let p := s.params.get c.cls
  let counted := (scored s c es).map fun e =>
    { e with
      ttt := if e.head = h then 0 else if sv.score + 16 * p.hysteresis < e.score then min p.ttt (e.ttt + 1) else 0 }
  (counted.find? fun e => e.head != h && e.ttt == p.ttt && (s.head e.head).state == .active).map (·.head)

theorem witness_ReportsHandServedContextsOver :
    triggering.tablesLaw ∧ triggering.ownershipLaw ∧ triggering.candidateLaw ∧ triggering.airtimeLaw ∧
      triggering.findTag 0xB0 = some (2, vehicleAtTrigger) ∧
      ((servingEntry triggering vehicleAtTrigger [⟨2, 1, 100⟩, ⟨7, 4, 190⟩] 2).bind
        (atTrigger triggering vehicleAtTrigger [⟨2, 1, 100⟩, ⟨7, 4, 190⟩] 2)) = some 7 := by
  refine ⟨?_, ?_, ?_, ?_, ?_⟩
  · unfold State.tablesLaw; decide
  · unfold State.ownershipLaw; decide
  · unfold State.candidateLaw ParamSets.inRange candidatesOk; decide
  · unfold State.airtimeLaw; decide
  · decide

/-- Reefers with a page and with a wait that move, and a report that only counts. -/
theorem witness_ReportsHandServedContextsOver_reefers :
    triggering.findTag 0xE5 = some (5, reeferAtTrigger) ∧ triggering.findTag 0xE6 = some (6, waiterAtTrigger) ∧
      ((servingEntry triggering reeferAtTrigger [⟨4, 5, 100⟩, ⟨7, 4, 190⟩] 4).bind
        (atTrigger triggering reeferAtTrigger [⟨4, 5, 100⟩, ⟨7, 4, 190⟩] 4)) = some 7 ∧
      ((servingEntry triggering waiterAtTrigger [⟨3, 1, 100⟩, ⟨7, 4, 190⟩] 3).bind
        (atTrigger triggering waiterAtTrigger [⟨3, 1, 100⟩, ⟨7, 4, 190⟩] 3)) = some 7 ∧
      ((triggering.reefers.get? 1).map fun r => r.page.isSome) = some true ∧
      ((triggering.reefers.get? 2).map fun r => (r.poll, r.page)) = some (.waiting, none) ∧
      (servingEntry yard vehicle2 [⟨2, 1, 100⟩] 2).isSome = true ∧
      ((servingEntry yard vehicle2 [⟨2, 1, 100⟩] 2).bind (atTrigger yard vehicle2 [⟨2, 1, 100⟩] 2)) = none := by decide

/-- The page of reefer 1, in DEEP_DOZE, as it moves and in each way it ends: a second send, no slot of head 7 for sector
4, and a full queue there; and reefers that are reachable and not. -/
theorem witness_ReportsHandServedContextsOver_pages :
    ((triggering.reefers.get? 1).map fun r => (r.doze, r.contact)) = some (.deep, .reachable) ∧
      ((triggering.reefers.get? 1).bind (·.page)).map (·.attempts) = some 0 ∧
      (((triggering.modPage 1 fun p => { p with attempts := 1, phase := .sent 9 }).reefers.get? 1).bind (·.page)).map
        (fun p => (p.attempts, p.phase)) = some (1, .sent 9) ∧
      (((triggering.setContact 1 .unreachable).reefers.get? 1).map (·.contact)) = some .unreachable ∧
      (triggering.head 7).covers 4 = true ∧ (triggering.pageQueue 7).length < 32 ∧
      ((triggering.modHead 7 fun x => { x with active := { x.active with count := 4 } }).head 7).covers 4 = false ∧
      ((triggering.setPageQueue 7 (List.replicate 32 7)).pageQueue 7).length = 32 ∧
      ((paged.reefers.get? 1).bind (·.page)).map (·.owner) = some (some 0x0A10) := by decide

/-- The crane path: link 0 triggers toward head 6, which has room in the yard and none at a capacity of 16. -/
theorem witness_ReportsHandServedContextsOver_crane :
    yard.findTag 0xC0 = some (0, crane0) ∧ yard.reservation .standing 0 = some (5, 12) ∧
      yard.reservation .prepared 0 = none ∧
      ((servingEntry yard crane0 [⟨5, 2, 96⟩, ⟨6, 3, 110⟩] 5).bind
        (atTrigger yard crane0 [⟨5, 2, 96⟩, ⟨6, 3, 110⟩] 5)) = some 6 ∧
      (yard.account 6).standing + (yard.account 6).prepared + 12 ≤ (yard.head 6).effective ∧
      ((yard.modHead 6 fun x => { x with capacity := 16 }).head 6).effective <
        (yard.account 6).standing + (yard.account 6).prepared + 12 := by decide

/-! #### Settings and restart -/

def shadowOne : Request := onTheHead 5 [0x06, 1, 10, 0x07, 1, 12, 0x0C, 1, 16, 0]
def osShadow : Options := [(.firstSegment, [10]), (.lastSegment, [12]), (.values, [16])]

theorem witness_CoverageAndPartSettingsAreWritten_shadow :
    namesHead shadowOne 5 ∧ carries .shadowSet shadowOne osShadow ∧
      osShadow.readAs .firstSegment (yard.head 5).spanFirst segmentOf = some 10 ∧
      osShadow.readAs .lastSegment (yard.head 5).spanLast segmentOf = some 12 ∧
      ((osShadow.bytes .values).getD []).map (·.toNat) = [16] ∧ (10 : Segment) ≤ 12 ∧
      carries .shadowSet (onTheHead 5 [0x0C, 2, 1, 2, 0]) [(.values, [1, 2])] :=
  ⟨by unfold namesHead; decide, rfl, by decide, by decide, by decide, by decide, rfl⟩

/-- Segment code 64, at the first and at the last segment, and class code 4. -/
theorem witness_CoverageAndPartSettingsAreWritten_codes :
    carries .shadowSet (onTheHead 5 [0x06, 1, 64, 0x0C, 1, 1, 0]) [(.firstSegment, [64]), (.values, [1])] ∧
      Options.readAs [(.firstSegment, [64]), (.values, [1])] .firstSegment (yard.head 5).spanFirst segmentOf = none ∧
      carries .shadowSet (onTheHead 5 [0x07, 1, 64, 0x0C, 1, 1, 0]) [(.lastSegment, [64]), (.values, [1])] ∧
      Options.readAs [(.lastSegment, [64]), (.values, [1])] .lastSegment (yard.head 5).spanLast segmentOf = none ∧
      carries .classParams (onPart [0x02, 1, 4, 0]) [(.cls, [4])] ∧ Options.nat [(.cls, [4])] .cls = some 4 ∧
      classOf 4 = none :=
  ⟨rfl, by decide, rfl, by decide, rfl, by decide, by decide⟩

theorem witness_CoverageAndPartSettingsAreWritten_part :
    namesPart (onPart [0]) ∧ bare (onPart [0]) ∧ carries .classParams (onPart [0x02, 1, 0, 0]) [(.cls, [0])] ∧
      carries .classParams (onPart [0x18, 1, 9, 0]) [(.loadWeight, [9])] ∧
      carries .classParams (onPart [0x15, 1, 9, 0]) [(.shift, [9])] ∧ carries .classParams (onPart [0]) [] ∧
      Options.has [(.loadWeight, [9])] .cls = false ∧ carries .partConfig (onPart [0]) [] ∧
      (20 + 5 < 50 ∧ 5 < (20 : Nat)) ∧
      carries .partConfig (onPart [0x20, 2, 0, 20, 0]) [(.devHysteresis, [0, 20])] ∧
      ¬ (20 + 20 < 50 ∧ 20 < (20 : Nat)) :=
  ⟨rfl, rfl, rfl, rfl, rfl, rfl, rfl, rfl, by decide, rfl, by decide⟩

theorem witness_RestartKeepsRecordsAndDropsWork :
    namesPart (onPart [0]) ∧ bare (onPart [0]) ∧ yard.tablesLaw ∧ yard.airtimeLaw ∧ yard.ownershipLaw ∧
      (yard.links.get? 0).map (·.state) = some .running ∧ (yard.links.get? 2).bind (·.phase.target?) = some 6 :=
  ⟨rfl, rfl, yard_tables, yard_airtime, yard_ownership, by decide⟩

/-! #### Crane links -/

def osSp (n : Byte) : Options := [(.setpoint, [0, n] ++ List.replicate 16 0)]

/-- Link 1 as the yard holds it, stopped links, and link records for the other clauses. -/
def link (s : State) (l : Nat) : CraneLink := (s.links.get? l).getD (CraneLink.fresh 0)

theorem witness_CraneStartStartsTheLink :
    let r := onCtx 3 (spOption 100 ++ [0])
    namesCrane r yard 3 crane3 1 (link yard 1) ∧ carries .craneStart r (osSp 100) ∧
      ((osSp 100).bytes .setpoint).bind setpointOf = some (sp 100) ∧ (link yard 1).state = .idle ∧
      crane3.serving = some 6 ∧ yard.reservation .standing 1 = none ∧ (yard.head 6).state = .active ∧
      (yard.account 6).standing + (yard.account 6).prepared + 12 ≤ (yard.head 6).capacity ∧ yard.airtimeLaw ∧
      (link yard 1).owner = 3 :=
  ⟨by unfold namesCrane names; decide, rfl, by decide, by decide, by decide, by decide, by decide, by decide,
    yard_airtime, by decide⟩

/-- The refusals: a running link; an unserved context; a head in HOLDOVER. -/
theorem witness_CraneStart_refusals :
    let s := yard.modContext 3 fun c => { c with serving := none }
    namesCrane (onCtx 0 (spOption 100 ++ [0])) yard 0 crane0 0 (link yard 0) ∧ (link yard 0).state ≠ .idle ∧
      namesCrane (onCtx 3 (spOption 100 ++ [0])) s 3 { crane3 with serving := none } 1 (link s 1) ∧
      ((yard.modHead 6 fun x => { x with state := .holdover }).head 6).state ≠ .active := by
  unfold namesCrane names; decide

/-- Link 3 holding a standing reservation, with a release pending, and unheard. -/
def holding3 : State := yard.setAccount 6 { list := [res .standing 12 3], wreq := 20, wg := 20, polls := 0 }
def releasing3 : State := yard.modLink 3 fun k => { k with releasePending := true }
def unheard3 : State := yard.modLink 3 fun k => { k with heardLast := false }

theorem witness_LinkOrdersActByTheLinkState_setpoint :
    namesCrane (onCtx 0 (spOption 1 ++ [0])) yard 0 crane0 0 (link yard 0) ∧ (link yard 0).state = .running ∧
      carries .setpoint (onCtx 0 (spOption 1 ++ [0])) (osSp 1) ∧
      ((osSp 1).bytes .setpoint).bind setpointOf = some (sp 1) ∧ (link yard 1).state = .idle ∧
      (link yard 3).state = .safeStop :=
  ⟨by unfold namesCrane names; decide, by decide, rfl, by decide⟩

theorem witness_LinkOrdersActByTheLinkState_resume :
    let r := onCtx 9 (spOption 1 ++ [0])
    namesCrane r yard 9 crane9 3 (link yard 3) ∧ carries .craneResume r (osSp 1) ∧ yard.airtimeLaw ∧
      (link yard 3).state = .safeStop ∧ (link yard 3).releasePending = false ∧ (link yard 3).heardLast = true ∧
      (link yard 3).owner = 9 ∧ yard.reservation .standing 3 = none ∧ crane9.serving = some 6 ∧
      (yard.head 6).state = .active ∧
      (yard.account 6).standing + (yard.account 6).prepared + (link yard 3).units ≤ (yard.head 6).capacity ∧
      (holding3.reservation .standing 3).isSome = true ∧ (link releasing3 3).releasePending = true ∧
      (link unheard3 3).heardLast = false :=
  ⟨by unfold namesCrane names; decide, rfl, yard_airtime, by decide⟩

theorem witness_LinkOrdersActByTheLinkState_stop :
    bare (onCtx 8 [0]) ∧ namesCrane (onCtx 8 [0]) yard 8 crane8 2 (link yard 2) ∧ (link yard 2).owner = 8 ∧
      (link yard 2).state = .running ∧ (link yard 2).phase.target? = some 6 ∧ yard.holds .prepared 2 6 = true ∧
      namesCrane (onCtx 3 [0]) yard 3 crane3 1 (link yard 1) ∧ (link yard 1).state = .idle ∧
      namesCrane (onCtx 9 [0]) yard 9 crane9 3 (link yard 3) ∧ (link yard 3).owner = 9 ∧
      (link yard 3).state = .safeStop ∧ (link yard 3).phase.target? = none ∧ 64 ≤ full.inflight.length ∧
      yard.inflight.length < 64 := by
  unfold bare namesCrane names; decide

/-- Link 0 with no block, one block and two blocks down, and with its block at position 23. -/
def down1 : State := after (sideDown 0x0A10 1) yard
def down2 : State := after (sideDown 0x0A11 2) down1
def down23 : State := down1.modLink 0 fun k => { k with down := k.down.map fun b => { b with pos := 23 } }
def osBlock : Options := [(.block, List.replicate 48 3)]

theorem witness_SideBlocksGoDownInOrder :
    let r := onCtx 0 ([0x0A, 48] ++ List.replicate 48 3 ++ [0])
    namesCrane r yard 0 crane0 0 (link yard 0) ∧ carries .sideDown r osBlock ∧
      ((osBlock.bytes .block).bind (block? 48)).isSome = true ∧ 64 ≤ full.inflight.length ∧
      yard.inflight.length < 64 ∧ (link yard 0).down = none ∧ (link down1 0).down.isSome = true ∧
      (link down1 0).waiting = none ∧ (link down2 0).down.isSome = true ∧
      (link down2 0).waiting.map (·.req) = some 0x0A11 ∧
      down2.inflight = [⟨0x0A10, .sideDown, .context 0, false⟩] ++ ⟨0x0A11, .sideDown, .context 0, false⟩ :: [] :=
  ⟨by unfold namesCrane names; decide, rfl, by decide⟩

theorem witness_SideBlocksGoDownInOrder_advance :
    bare (onCtx 0 [0]) ∧ (link down1 0).owner = 0 ∧ (link down1 0).down.map (·.pos) = some 0 ∧
      (link down23 0).down.map (·.pos) = some 23 ∧
      (down23.inflight.find? (InFlight.is .sideDown (.context 0) 0x0A10)).isSome = true := by
  unfold bare; decide

/-- Link 0 in each case of the cycle expiry: one miss from its limit; below it; with a next setpoint; two and one repeats
from the hold limit. -/
theorem witness_CycleExpiryAdvancesTheLink_running :
    let missing := link (yard.modLink 0 fun k => { k with misses := 3 }) 0
    let repeating := link (yard.modLink 0 fun k => { k with repeats := 2, state := .holding }) 0
    let next := link (yard.modLink 0 fun k => { k with next := some (sp 1) }) 0
    yard.links.get? 0 = some (link yard 0) ∧ (link yard 0).cycle = some 0 ∧
      yard.contexts.get? (link yard 0).owner = some crane0 ∧ (link yard 0).state = .running ∧
      missing.missLimit ≤ missing.misses + 1 ∧ (link yard 0).misses + 1 < (link yard 0).missLimit ∧
      next.next = some (sp 1) ∧ (link yard 0).next = none ∧ (link yard 0).repeats + 1 < (link yard 0).holdLimit ∧
      repeating.state = .holding ∧ repeating.holdLimit ≤ repeating.repeats + 1 ∧
      (down23.inflight.find? (completedSide (link down23 0) true)).isSome = true := by decide

/-- Link 3 stopped: alone, with a resume, with a release pending and its SIDE reply waiting; link 2 at the end of its
switch. -/
theorem witness_CycleExpiryAdvancesTheLink_stopped :
    let released := after (.craneRelease (onCtx 9 [0])) yard
    yard.links.get? 3 = some (link yard 3) ∧ (link yard 3).cycle = some 0 ∧
      yard.contexts.get? (link yard 3).owner = some crane9 ∧ (link yard 3).state = .safeStop ∧
      (link yard 3).releasePending = false ∧ (link yard 3).next = none ∧
      (link (yard.modLink 3 fun k => { k with next := some (sp 1) }) 3).next = some (sp 1) ∧
      (link released 3).releasePending = true ∧
      (released.inflight.find? (InFlight.isFor .craneRelease (.context 9))).isSome = true ∧
      (link (yard.modLink 2 fun k => { k with phase := .switching 6 3 }) 2).phase = .switching 6 3 := by decide

theorem witness_CycleExpiryAdvancesTheLink_release :
    releasing3.tablesLaw ∧ releasing3.ownershipLaw ∧ releasing3.airtimeLaw ∧ releasing3.handoverLaw ∧
      releasing3.reservationLaw := by
  refine ⟨?_, ?_, ?_, ?_, ?_⟩
  · unfold State.tablesLaw; decide
  · unfold State.ownershipLaw; decide
  · unfold State.airtimeLaw; decide
  · unfold State.handoverLaw; decide
  · unfold State.reservationLaw; decide

/-- Link 0 with 23 fragments taken: the 24th makes a block of 48 bytes. -/
def almost : State := yard.modLink 0 fun k => { k with assembly := some (List.replicate 23 ⟨1, 2⟩) }

theorem witness_CraneUplinksAreTaken :
    yard.tablesLaw ∧ yard.airtimeLaw ∧ yard.findTag 0xC0 = some (0, crane0) ∧ yard.links.get? 0 = some (link yard 0) ∧
      (link yard 0).owner = 0 ∧ (link yard 0).state ≠ .idle ∧ crane0.serving = some 5 ∧
      (uplink 5 false).head.toNat = (5 : HeadIx).val ∧ (link yard 0).phase = .none ∧
      ((link almost 0).assembly.map fun a => (a ++ [(uplink 5 false).frag]).length) = some 24 ∧
      (link almost 0).heard = false ∧
      (block? 48 ((List.replicate 24 (⟨1, 2⟩ : Fragment)).flatMap fun f => [f.fst, f.snd])).isSome = true :=
  ⟨yard_tables, yard_airtime, by decide⟩

/-- Ignored: an IDLE link, and a head that is neither; completing: link 2 through head 6. -/
theorem witness_CraneUplinksAreTaken_others :
    yard.findTag 0xC1 = some (3, crane3) ∧ (link yard 1).state = .idle ∧ (uplink 24 true).head.toNat = 24 ∧
      yard.findTag 0xC2 = some (8, crane8) ∧ (link yard 2).owner = 8 ∧ crane8.serving = some 5 ∧
      (link yard 2).phase = .switching 6 1 ∧ (uplink 6 false).head.toNat = (6 : HeadIx).val ∧
      yard.holds .prepared 2 6 = true ∧ yard.holds .standing 2 5 = true ∧ (link yard 2).assembly = none ∧
      (crane8.entry? 6).isSome = true := by decide

/-- Link 2 with 23 fragments taken, switching to head 6: its uplink there completes a block and the handover. -/
theorem witness_CraneUplinksAreTaken_both :
    let s := yard.modLink 2 fun k => { k with assembly := some (List.replicate 23 ⟨1, 2⟩) }
    s.findTag 0xC2 = some (8, crane8) ∧ (link s 2).phase = .switching 6 1 ∧ (link s 2).heard = false ∧
      ((link s 2).assembly.map fun a => (a ++ [(⟨1, 2⟩ : Fragment)]).length) = some 24 ∧
      s.holds .prepared 2 6 = true ∧ s.holds .standing 2 5 = true := by decide

/-! #### Reefers -/

def record (s : State) (i : Nat) : Reefer := (s.reefers.get? i).getD (Reefer.fresh 0)

/-- Supplies of 21, 15 and 16 tenths from the setpoint: above T_d, at T_d - T_h, between; and no supply. -/
theorem witness_PersistenceCountFollowsTheReports :
    findsReefer 0x00A03C117F02 yard 1 reefer1 0 (record yard 0) ∧ (record yard 0).persist ≤ 15 ∧
      yard.settings.devHysteresis < yard.settings.devThreshold ∧
      (report (-159)).supply.map (fun w => (w.toInt - (-180)).natAbs) = some 21 ∧ yard.settings.devThreshold < 21 ∧
      (report (-165)).supply.map (fun w => (w.toInt - (-180)).natAbs) = some 15 ∧
      15 ≤ yard.settings.devThreshold - yard.settings.devHysteresis ∧
      yard.settings.devThreshold - yard.settings.devHysteresis < 16 := by
  unfold findsReefer; decide

theorem witness_PersistenceCount_other_commands :
    yard.tablesLaw ∧ ∃ t, exec (.attach (attachOf 1)) yard = .next t ∧ yard.reefers.get? 4 = none ∧
      t.reefers.get? 4 = some (Reefer.fresh 10) ∧ (t.reefers.get? 0).isSome = true :=
  ⟨yard_tables, _, rfl, by decide, by decide, by decide⟩

theorem witness_ReeferReportsReplaceAndClassify :
    yard.tablesLaw ∧ yard.ownershipLaw ∧ yard.pollLaw ∧ findsReefer 0x00A03C117F02 yard 1 reefer1 0 (record yard 0) ∧
      findsReefer 0xE5 paged 5 reefer5 1 (record paged 1) ∧
      (paged.inflight.find? (InFlight.is .page (.context 5) 0x0A10)).isSome = true ∧
      (record paged 1).doze = .deep ∧ (record paged 1).page.isSome = true ∧
      findsReefer 0xE5 yard 5 reefer5 1 (record yard 1) ∧ ((record yard 1).page.map (·.owner)) = some none ∧
      findsReefer 0xE7 yard 7 reefer7 3 (record yard 3) ∧ (record yard 3).poll = .outstanding 3 0 :=
  ⟨yard_tables, yard_ownership, yard_polls, by unfold findsReefer; decide⟩

/-- Reefer 0 ordered to doze, with a page in ACK_WAIT, in a covered sector and with no schedule that covers it. -/
def ordered0 : State := yard.modReefer 0 fun r => { r with doze := .ordered, ackTimer := some 0 }
def ackWait0 : State :=
  ordered0.modReefer 0 fun r => { r with page := some { owner := none, attempts := 0, phase := .ackWait } }

theorem witness_AcksAndAnswersMoveTheDozeState :
    findsReefer 0x00A03C117F02 ordered0 1 reefer1 0 (record ordered0 0) ∧ (record ordered0 0).owner = 1 ∧
      (record ordered0 0).doze = .ordered ∧ (record ordered0 0).page = none ∧
      findsReefer 0x00A03C117F02 ackWait0 1 reefer1 0 (record ackWait0 0) ∧
      ((record ackWait0 0).page.map (·.phase)) = some .ackWait ∧ (ackWait0.head 4).covers 5 = true ∧
      ((ackWait0.modHead 4 fun x => { x with active := { x.active with count := 5 } }).head 4).covers 5 = false ∧
      (record yard 0).doze = .awake ∧ findsReefer 0xE5 yard 5 reefer5 1 (record yard 1) ∧
      (record yard 1).owner = 5 ∧ (record yard 1).doze = .deep := by
  unfold findsReefer; decide

theorem witness_ReeferExpiriesAreTaken :
    yard.reefers.get? (0 : Fin 4096).val = some (record yard 0) ∧
      yard.contexts.get? (record yard 0).owner = some reefer1 ∧
      (record ackWait0 0).ackTimer = some 0 ∧ (∀ e ∈ ackWait0.reefers, e.1 < 0 → e.2.ackTimer ≠ some 0) ∧
      ((record (yard.modPage 1 fun p => { p with phase := .sent 0 }) 1).page.map fun p => (p.phase, p.attempts)) =
        some (.sent 0, 0) ∧
      ((record (yard.modPage 1 fun p => { p with phase := .sent 0, attempts := 1 }) 1).page.map (·.attempts)) =
        some 1 ∧
      (record yard 3).poll = .outstanding 3 0 ∧ ({ yard with secondDue := true } : State).secondDue = true := by decide

/-- An overdue expiry of an awake reefer, of a dozing one with a page, and of one without; of an unserved one; and a poll
made with and without a credit. -/
theorem witness_ReeferExpiriesAreTaken_overdue :
    let due (i : Nat) : State := yard.modReefer i fun r => { r with overdueDue := true }
    (record (due 0) 0).overdueDue = true ∧ (∀ e ∈ (due 0).reefers, e.1 < 0 → e.2.overdueDue = false) ∧
      (record (due 0) 0).doze = .awake ∧ (∀ e ∈ (due 1).reefers, e.1 < 1 → e.2.overdueDue = false) ∧
      (record (due 1) 1).doze = .deep ∧ (record (due 1) 1).page.isSome = true ∧
      (record ((due 1).endPage 1 .done) 1).page = none ∧ (record ((due 1).endPage 1 .done) 1).overdueDue = true ∧
      (((yard.head 4).covers 5 = true ∧ (yard.pageQueue 4).length < 32) ∧ (yard.account 4).polls < (yard.account 4).wg ∧
        (yard.head 4).state.inService = true) ∧
      (record yard 0).poll = .none ∧ (yard.account 3).wg ≤ (yard.account 3).polls ∧
      ((paged.reefers.get? 1).bind (·.page)).bind (·.owner) = some 0x0A10 := by decide

theorem witness_ReeferRequestsAreTaken :
    namesReefer (onCtx 1 [0]) yard 1 reefer1 0 (record yard 0) ∧ bare (onCtx 1 [0]) ∧ 64 ≤ full.inflight.length ∧
      yard.inflight.length < 64 ∧ (record yard 0).doze = .awake ∧
      namesReefer (onCtx 5 [0]) yard 5 reefer5 1 (record yard 1) ∧ (record yard 1).doze = .deep ∧
      ((record yard 1).page.map (·.owner)) = some none ∧ ((record paged 1).page.map (·.owner)) = some (some 0x0A10) ∧
      (record (yard.endPage 1 .done) 1).page = none ∧ (yard.head 4).covers 5 = true ∧
      ((yard.endPage 1 .done).pageQueue 4).length < 32 ∧
      ((yard.setPageQueue 4 (List.replicate 32 7)).pageQueue 4).length = 32 := by
  unfold namesReefer names bare; decide

theorem witness_ReeferRequestsAreTaken_params :
    let r := onCtx 1 [0x1D, 2, 0, 5, 0x26, 0, 0]
    namesReefer r yard 1 reefer1 0 (record yard 0) ∧ carries .reeferParams r [(.interval, [0, 5]), (.booked, [])] ∧
      Options.readAs [(.interval, [0, 5]), (.booked, [])] .dozePref (record yard 0).pref dozePrefOf = some .deep ∧
      carries .reeferParams (onCtx 1 [0]) [] ∧ carries .reeferParams (onCtx 1 [0x27, 1, 3, 0]) [(.dozePref, [3])] ∧
      Options.readAs [(.dozePref, [3])] .dozePref (record yard 0).pref dozePrefOf = none :=
  ⟨by unfold namesReefer names; decide, rfl, by decide, rfl, rfl, by decide⟩

/-! #### Time and the outgoing sides -/

/-- An active head and a running link with frames left: nothing is due; and in the yard nothing of these is. -/
def calm : State :=
  { State.reset with links := [(0, { running 0 with cycle := some 3 })], reefers := [(0, Reefer.fresh 1)] }.setHead 5 up

theorem witness_StrobesCountAndIdleExpiriesDoNothing :
    calm.quiet ∧ (calm.head 5).startTimer ≠ some 0 ∧ (calm.head 5).lockTimer ≠ some 0 ∧
      (calm.head 5).holdoverTimer ≠ some 0 ∧ (∀ p ∈ (calm.head 5).sweep, p.remaining ≠ 0) ∧
      (calm.links.get? 0).bind (·.cycle) = some 3 ∧ calm.secondDue = false ∧
      ((calm.reefers.get? 0).map fun r => (r.ackTimer, r.page, r.poll, r.overdueDue)) =
        some (none, none, .none, false) := by
  unfold State.quiet; decide

/-- The yard, where expiries of heads, links and records are due. -/
theorem witness_StrobesCountAndIdleExpiriesDoNothing_late :
    yard.tablesLaw ∧ (yard.head 9).startTimer = some 0 ∧ (yard.head 10).holdoverTimer = some 0 ∧
      (record yard 3).poll = .outstanding 3 0 :=
  ⟨yard_tables, by decide⟩

def aNotice (g : HeadIx) : Notice := ⟨.head g, .headState .active .none 200⟩

theorem witness_LinesSendTheOldestMessage :
    let r := replyTo .page (onCtx 5 [0]) .busy false .part []
    let s := { yard with notices := [aNotice 1, aNotice 2, aNotice 3], orders := [.beam 4 none] }
    ({ s with replies := [r] } : State).replies = r :: [] ∧ yard.replies = [] ∧ s.replies = [] ∧
      s.notices = aNotice 1 :: [aNotice 2, aNotice 3] ∧ yard.notices = [] ∧ s.orders = .beam 4 none :: [] ∧
      yard.orders = [] ∧ s.notices = [aNotice 1] ++ aNotice 2 :: [aNotice 3] ∧ (aNotice 2).subject = .head 2 ∧
      (∀ m ∈ [aNotice 1] ++ [aNotice 3], m.subject ≠ .head 2) ∧ (∀ m ∈ s.notices, m.subject ≠ .head 4) ∧
      s.notices.length < 512 := by decide

theorem witness_LinesSendTheOldestMessage_full :
    (∀ m ∈ ({ yard with notices := List.replicate 512 (aNotice 1) } : State).notices, m.subject ≠ .head 4) ∧
      512 ≤ ({ yard with notices := List.replicate 512 (aNotice 1) } : State).notices.length := by
  refine ⟨fun m h => ?_, ?_⟩
  · rw [List.eq_of_mem_replicate h]; decide
  · exact Nat.le_of_eq (List.length_replicate ..).symm

end Sys2Proof.Tests
end

section
/-! The four head events of the quay link (R168): what each is for the head it names, and the states in which each leaves
the machine as it stands (R32). -/

namespace Sys2Proof.Machine

/-! ### The head event taken for the head it names -/

theorem onHead_of_toNat_eq {b : Byte} {h : HeadIx} (hb : b.toNat = h.val) (s : State) (f : HeadIx → State → State) :
    onHead b s f = f h s := by
  unfold onHead
  rw [headOf_eq_some.mpr hb]

section
variable {b : Byte} {h : HeadIx} (hb : b.toNat = h.val) (s : State)
include hb

theorem exec_headUp_eq : exec (.headUp b) s = .next (headUp h s) :=
  congrArg Host.Outcome.next (onHead_of_toNat_eq hb s headUp)

theorem exec_syncLock_eq : exec (.syncLock b) s = .next (syncLock h s) :=
  congrArg Host.Outcome.next (onHead_of_toNat_eq hb s syncLock)

theorem exec_syncLost_eq : exec (.syncLost b) s = .next (syncLost h s) :=
  congrArg Host.Outcome.next (onHead_of_toNat_eq hb s syncLost)

theorem exec_lineFault_eq (short : Bool) : exec (.lineFault b short) s = .next (lineFault short h s) :=
  congrArg Host.Outcome.next (onHead_of_toNat_eq hb s (lineFault short))

end

/-! ### The states in which Table 2-2 gives a head event no transition -/

section
variable {h : HeadIx} {s : State}

theorem headUp_of_not_offline (hs : (s.head h).state ≠ .offline) : headUp h s = s :=
  if_neg hs

/-- SYNC_LOCK acts in HOLDOVER, and in STARTING as long as the head has no lock (R28, R30). -/
theorem syncLock_of_no_transition (hHold : (s.head h).state ≠ .holdover)
    (hStart : (s.head h).state = .starting → (s.head h).locked = true) : syncLock h s = s := by
  unfold syncLock
  cases e : (s.head h).state with
  | starting => simp [hStart e]
  | holdover => exact absurd e hHold
  | offline | active | faulted => rfl

/-- SYNC_LOST acts in STARTING and ACTIVE (R29, R30). -/
theorem syncLost_of_no_transition (hStart : (s.head h).state ≠ .starting) (hActive : (s.head h).state ≠ .active) :
    syncLost h s = s := by
  unfold syncLost
  cases e : (s.head h).state with
  | starting => exact absurd e hStart
  | active => exact absurd e hActive
  | offline | holdover | faulted => rfl

/-- R29: the loss of lock in STARTING clears the flag and starts the lock-wait timer again. -/
theorem syncLost_of_starting (hs : (s.head h).state = .starting) :
    syncLost h s = s.setHead h { s.head h with locked := false, lockTimer := some (s.head h).lockLimit } := by
  unfold syncLost
  rw [hs]
  rfl

theorem lineFault_of_not_inService (short : Bool) (hs : (s.head h).state.inService = false) :
    lineFault short h s = s := by
  unfold lineFault
  rw [hs]
  rfl

end

/-! ### The ignored head events -/

/-- Settles O31: one case for each row of R32's table of ignored events. -/
theorem ignoredHeadEventsChangeNothing : Obligations.IgnoredHeadEventsChangeNothing := by
  intro b h short s hb
  simp only [List.forall_mem_cons, List.not_mem_nil, false_implies, implies_true, and_true,
    exec_headUp_eq hb, exec_syncLock_eq hb, exec_syncLost_eq hb, exec_lineFault_eq hb, Host.Outcome.next.injEq]
  refine ⟨fun offline => ⟨?_, ?_, ?_⟩, fun starting => ⟨?_, fun locked => ?_, ?_⟩, fun active => ⟨?_, ?_⟩,
    fun holdover => ⟨?_, ?_⟩, fun faulted => ⟨?_, ?_, ?_, ?_⟩⟩
  · exact syncLock_of_no_transition (by simp [offline]) (by simp [offline])
  · exact syncLost_of_no_transition (by simp [offline]) (by simp [offline])
  · exact lineFault_of_not_inService short (by rw [offline]; rfl)
  · exact headUp_of_not_offline (by simp [starting])
  · exact syncLock_of_no_transition (by simp [starting]) fun _ => locked
  · exact syncLost_of_starting starting
  · exact headUp_of_not_offline (by simp [active])
  · exact syncLock_of_no_transition (by simp [active]) (by simp [active])
  · exact headUp_of_not_offline (by simp [holdover])
  · exact syncLost_of_no_transition (by simp [holdover]) (by simp [holdover])
  · exact headUp_of_not_offline (by simp [faulted])
  · exact syncLock_of_no_transition (by simp [faulted]) (by simp [faulted])
  · exact syncLost_of_no_transition (by simp [faulted]) (by simp [faulted])
  · exact lineFault_of_not_inService short (by rw [faulted]; rfl)

end Sys2Proof.Machine
end

section
/-! The filter of Stage 1 (R71): what one step does on either side of its target, how the distance to the target shrinks,
and that a head taken as new starts at its target (R74). -/

namespace Sys2Proof.Machine

/-! ### One filter step on either side of its target -/

section
variable {k f t : Nat}

theorem sub_tdiv_of_le (h : f ≤ t) : ((t : Int) - f).tdiv ((2 ^ k : Nat) : Int) = ((t - f) / 2 ^ k : Nat) := by
  rw [← Nat.cast_sub h, ← Int.ofNat_tdiv]

/-- Truncation toward zero is odd in the difference. -/
theorem sub_tdiv_of_ge (h : t ≤ f) : ((t : Int) - f).tdiv ((2 ^ k : Nat) : Int) = -((f - t) / 2 ^ k : Nat) := by
  rw [← neg_sub, ← Nat.cast_sub h, Int.neg_tdiv, ← Int.ofNat_tdiv]

theorem filterStep_of_le (h : f ≤ t) : filterStep k f t = f + (t - f) / 2 ^ k := by
  unfold filterStep
  rw [sub_tdiv_of_le h, ← Nat.cast_add, Int.toNat_natCast]

theorem filterStep_of_ge (h : t ≤ f) : filterStep k f t = f - (f - t) / 2 ^ k := by
  unfold filterStep
  rw [sub_tdiv_of_ge h, ← sub_eq_add_neg, Int.toNat_sub]

theorem sub_div_two_pow_le : (f - t) / 2 ^ k ≤ f :=
  (Nat.div_le_self ..).trans (Nat.sub_le ..)

/-- The clamp at zero in the model's step never acts. -/
theorem natCast_filterStep : (filterStep k f t : Int) = f + ((t : Int) - f).tdiv ((2 ^ k : Nat) : Int) := by
  rcases le_total f t with h | h
  · rw [filterStep_of_le h, sub_tdiv_of_le h, Nat.cast_add]
  · rw [filterStep_of_ge h, sub_tdiv_of_ge h, Nat.cast_sub sub_div_two_pow_le, sub_eq_add_neg]

theorem filterStep_zero_shift : filterStep 0 f t = t := by
  rcases le_total f t with h | h
  · rw [filterStep_of_le h, pow_zero, Nat.div_one, Nat.add_sub_cancel' h]
  · rw [filterStep_of_ge h, pow_zero, Nat.div_one, Nat.sub_sub_self h]

/-- The filter never passes its target (R71). -/
theorem filterStep_between : min f t ≤ filterStep k f t ∧ filterStep k f t ≤ max f t := by
  rcases le_total f t with h | h
  · have hquot : (t - f) / 2 ^ k ≤ t - f := Nat.div_le_self ..
    rw [filterStep_of_le h, min_eq_left h, max_eq_right h]
    exact ⟨Nat.le_add_right .., by omega⟩
  · have hquot : (f - t) / 2 ^ k ≤ f - t := Nat.div_le_self ..
    rw [filterStep_of_ge h, min_eq_right h, max_eq_left h]
    exact ⟨by omega, Nat.sub_le ..⟩

/-! ### The distance to the target -/

/-- R71's quotient measured on the distance to the target, where the two sides are alike. -/
theorem natAbs_sub_filterStep : ((t : Int) - filterStep k f t).natAbs =
    ((t : Int) - f).natAbs - ((t : Int) - f).natAbs / 2 ^ k := by
  rcases le_total f t with h | h
  · have hdist : ((t : Int) - f).natAbs = t - f := by omega
    have hquot : (t - f) / 2 ^ k ≤ t - f := Nat.div_le_self ..
    rw [hdist, filterStep_of_le h]
    omega
  · have hdist : ((t : Int) - f).natAbs = f - t := by omega
    have hquot : (f - t) / 2 ^ k ≤ f - t := Nat.div_le_self ..
    rw [hdist, filterStep_of_ge h]
    omega

theorem filterStep_nearer_of_le (h : 2 ^ k ≤ ((t : Int) - f).natAbs) :
    ((t : Int) - filterStep k f t).natAbs < ((t : Int) - f).natAbs := by
  have hpow : 0 < 2 ^ k := Nat.two_pow_pos k
  rw [natAbs_sub_filterStep]
  exact Nat.sub_lt (hpow.trans_le h) (Nat.div_pos h hpow)

/-- The stay band of the filter: a difference smaller than 2^k is left standing. -/
theorem filterStep_eq_self_iff : filterStep k f t = f ↔ ((t : Int) - f).natAbs < 2 ^ k := by
  rw [← Nat.div_eq_zero_iff_lt (Nat.two_pow_pos k)]
  rcases le_total f t with h | h
  · have hdist : ((t : Int) - f).natAbs = t - f := by omega
    rw [hdist, filterStep_of_le h, Nat.add_eq_left]
  · have hdist : ((t : Int) - f).natAbs = f - t := by omega
    have hquot : (f - t) / 2 ^ k ≤ f := sub_div_two_pow_le
    rw [hdist, filterStep_of_ge h]
    omega

/-- A steady target is approached until the filter stays: the distances of the successive values cannot fall for ever. -/
theorem exists_repeat_filterStep_near (k f t : Nat) :
    ∃ n, ((t : Int) - Nat.repeat (fun g => filterStep k g t) n f).natAbs < 2 ^ k := by
  obtain ⟨n, hn⟩ := WellFounded.not_rel_apply_succ (r := (· < ·))
    fun n => ((t : Int) - Nat.repeat (fun g => filterStep k g t) n f).natAbs
  exact ⟨n, not_le.mp fun hfar => hn (filterStep_nearer_of_le hfar)⟩

end

/-! ### A new entry -/

/-- A list gains at most the entry of the head taken as new, whose F starts at T (R71, R74). -/
theorem mem_takeNewHead {s : State} {c : Context} {kept : Option HeadIx} {l : List Candidate} {a : Accepted}
    {e : Candidate} (he : e ∈ takeNewHead s c kept l a) :
    e ∈ l ∨ e = { head := a.head, sector := a.sector, level := a.target, ttt := 0, missing := 0, score := 0 } := by
  unfold takeNewHead at he
  dsimp only at he
  split at he
  case isTrue => exact (List.mem_append.mp he).imp_right List.mem_singleton.mp
  case isFalse =>
    split at he
    case h_1 => exact .inl he
    case h_2 =>
      split at he
      case isTrue => exact (List.mem_append.mp he).imp List.mem_of_mem_filter List.mem_singleton.mp
      case isFalse => exact .inl he

/-! ### The filter step and its target -/

/-- Settles O43, by the value of one step on either side of the target and the distance that it leaves. -/
theorem filterStepApproachesItsTarget : Obligations.FilterStepApproachesItsTarget := by
  refine ⟨fun k f t _ hf ht => ?_, fun _ _ _ _ _ _ => mem_takeNewHead⟩
  obtain ⟨hmin, hmax⟩ := filterStep_between (k := k) (f := f) (t := t)
  refine ⟨mod_cast natCast_filterStep, ?_, hmin, hmax, hmax.trans (max_le hf ht), filterStep_eq_self_iff,
    filterStep_nearer_of_le, exists_repeat_filterStep_near k f t⟩
  rintro rfl
  exact filterStep_zero_shift

end Sys2Proof.Machine
end

section
/-! What the classification of a report reads of a reefer record (R130, R131): supply, setpoints and persistence count.
The shared operations on records, polls and pages leave these readings. -/

namespace Sys2Proof.Machine

/-! ### The readings of a record and of the part -/

/-- A record with everything blanked but what the deviation and the persistence count are computed from. -/
def Reefer.readings (r : Reefer) : Reefer :=
  { Reefer.fresh 0 with supply := r.supply, setpoint := r.setpoint, booked := r.booked, persist := r.persist }

/-- The readings of every record of the part. -/
def State.readings (s : State) : Table Reefer := s.reefers.mapAll Reefer.readings

theorem Reefer.persist_eq_of_readings {r q : Reefer} (h : r.readings = q.readings) : r.persist = q.persist :=
  congrArg Reefer.persist (a₁ := r.readings) (a₂ := q.readings) h

theorem Reefer.deviation_eq_of_readings {r q : Reefer} (h : r.readings = q.readings) : r.deviation = q.deviation :=
  congrArg Reefer.deviation (a₁ := r.readings) (a₂ := q.readings) h

theorem Table.mapAll_modify {α : Type} {f g : α → α} (t : Table α) (k : Nat) (h : ∀ v, g (f v) = g v) :
    (t.modify k f).mapAll g = t.mapAll g := by
  simp only [Table.mapAll, Table.modify, List.map_map]
  refine List.map_congr_left fun e _ => ?_
  by_cases hk : e.1 = k <;> simp [hk, h]

theorem Table.mapAll_mapAll {α : Type} {f g : α → α} (t : Table α) (h : ∀ v, g (f v) = g v) :
    (t.mapAll f).mapAll g = t.mapAll g := by
  simp [Table.mapAll, h]

theorem State.get?_readings (s : State) (j : Nat) : s.readings.get? j = (s.reefers.get? j).map Reefer.readings :=
  Table.get?_mapAll ..

variable (s : State)

theorem State.readings_of_reefers {s t : State} (h : t.reefers = s.reefers) : t.readings = s.readings :=
  congrArg (Table.mapAll · Reefer.readings) h

/-! ### Single updates -/

/-- A change of a record that leaves its readings leaves those of the part. -/
theorem State.readings_modReefer (i : Nat) {f : Reefer → Reefer} (h : ∀ r, (f r).readings = r.readings) :
    (s.modReefer i f).readings = s.readings :=
  Table.mapAll_modify _ _ h

@[simp] theorem State.readings_setHead (h : HeadIx) (x : Head) : (s.setHead h x).readings = s.readings := rfl
@[simp] theorem State.readings_setAccount (h : HeadIx) (a : Account) : (s.setAccount h a).readings = s.readings := rfl
@[simp] theorem State.readings_setPageQueue (h : HeadIx) (q : List Nat) :
    (s.setPageQueue h q).readings = s.readings := rfl
@[simp] theorem State.readings_setPollWait (h : HeadIx) (q : List Nat) :
    (s.setPollWait h q).readings = s.readings := rfl
@[simp] theorem State.readings_modContext (k : Nat) (f : Context → Context) :
    (s.modContext k f).readings = s.readings := rfl
@[simp] theorem State.readings_modLink (l : Nat) (f : CraneLink → CraneLink) :
    (s.modLink l f).readings = s.readings := rfl
@[simp] theorem State.readings_order (o : Order) : (s.order o).readings = s.readings := rfl
@[simp] theorem State.readings_reply (r : Reply) : (s.reply r).readings = s.readings := rfl
@[simp] theorem State.readings_joinInflight (e : InFlight) : (s.joinInflight e).readings = s.readings := rfl
@[simp] theorem State.readings_unmatchedEvent (t : Option Tag) : (s.unmatchedEvent t).readings = s.readings := rfl
@[simp] theorem State.readings_leaveWaitLists (i : Nat) : (s.leaveWaitLists i).readings = s.readings := rfl
@[simp] theorem State.readings_leavePageQueues (i : Nat) : (s.leavePageQueues i).readings = s.readings := rfl
@[simp] theorem State.readings_endAll (p : InFlight → Bool) (res : Result) :
    (s.endAll p res).readings = s.readings := rfl
@[simp] theorem State.readings_dropPrepared (h : HeadIx) (l : Nat) : (s.dropPrepared h l).readings = s.readings := rfl

@[simp] theorem State.readings_post (sub : Subject) (c : NoticeContent) : (s.post sub c).readings = s.readings :=
  readings_of_reefers (s.post_reefers sub c)

@[simp] theorem State.readings_endOldest (p : InFlight → Bool) (res : Result) :
    (s.endOldest p res).readings = s.readings := by
  rw [s.endOldest_frame]; rfl

@[simp] theorem State.readings_endNewest (p : InFlight → Bool) (res : Result) :
    (s.endNewest p res).readings = s.readings := by
  rw [s.endNewest_frame]; rfl

@[simp] theorem readings_answer (k : ReqKind) (r : Request) (res : Result) (c : Bool) (i : Identity) (b : List Byte) :
    (answer k r res c i b s).readings = s.readings := rfl

@[simp] theorem readings_refuse (k : ReqKind) (r : Request) (e : Refused) :
    (refuse k r e s).readings = s.readings := rfl

/-! ### Polls and airtime -/

@[simp] theorem State.readings_sendPoll (h : HeadIx) (i : Nat) : (s.sendPoll h i).readings = s.readings := by
  unfold State.sendPoll
  split
  · rw [State.readings_order]
    exact State.readings_modReefer _ i fun _ => rfl
  · rfl

@[simp] theorem readings_waitPassFrom (h : HeadIx) (q : List Nat) : (waitPassFrom h q s).readings = s.readings := by
  induction q generalizing s with
  | nil => rfl
  | cons i rest ih =>
    unfold waitPassFrom
    split
    · rw [ih, State.readings_sendPoll, State.readings_setPollWait]
    · rfl

@[simp] theorem State.readings_waitPass (h : HeadIx) : (s.waitPass h).readings = s.readings := readings_waitPassFrom ..

@[simp] theorem State.readings_makePoll (i : Nat) : (s.makePoll i).readings = s.readings := by
  unfold State.makePoll
  split
  · split
    · split
      · exact State.readings_sendPoll ..
      · exact State.readings_modReefer _ i fun _ => rfl
    · rfl
  · rfl

@[simp] theorem State.readings_returnCredit (h : HeadIx) : (s.returnCredit h).readings = s.readings :=
  State.readings_waitPass ..

@[simp] theorem State.readings_endPoll (i : Nat) : (s.endPoll i).readings = s.readings := by
  unfold State.endPoll
  split
  · rfl
  · split
    · rfl
    · rw [State.readings_returnCredit]
      exact State.readings_modReefer _ i fun _ => rfl
    · exact State.readings_modReefer _ i fun _ => rfl

@[simp] theorem State.readings_fit (h : HeadIx) : (s.fit h).readings = s.readings := by
  unfold State.fit
  dsimp only
  split
  · exact State.readings_waitPass ..
  · rfl

@[simp] theorem State.readings_join (h : HeadIx) (k : ResKind) (l n : Nat) : (s.join h k l n).readings = s.readings :=
  State.readings_fit ..

@[simp] theorem State.readings_joinStanding (h : HeadIx) (l n : Nat) :
    (s.joinStanding h l n).readings = s.readings := by
  unfold State.joinStanding
  split
  · rfl
  · exact State.readings_join ..

@[simp] theorem State.readings_releaseOn (h : HeadIx) (k : ResKind) (l : Nat) :
    (s.releaseOn h k l).readings = s.readings := by
  unfold State.releaseOn
  split
  · exact State.readings_fit ..
  · rfl

@[simp] theorem State.readings_releaseStanding (l : Nat) : (s.releaseStanding l).readings = s.readings := by
  unfold State.releaseStanding
  split
  · exact State.readings_releaseOn ..
  · rfl

@[simp] theorem State.readings_convert (h : HeadIx) (l : Nat) : (s.convert h l).readings = s.readings :=
  State.readings_fit ..

/-! ### Pages and contact -/

@[simp] theorem State.readings_endPage (i : Nat) (res : Result) : (s.endPage i res).readings = s.readings := by
  have hdrop : ((s.leavePageQueues i).modReefer i fun r => { r with page := none }).readings = s.readings :=
    State.readings_modReefer _ i fun _ => rfl
  rcases s.endPage_cases i res with ⟨-, h⟩ | ⟨r, p, -, -, h⟩
  · rw [h]
  · rw [h]
    split
    · rw [State.readings_endOldest, hdrop]
    · exact hdrop

@[simp] theorem State.readings_modPage (i : Nat) (f : Page → Page) : (s.modPage i f).readings = s.readings :=
  State.readings_modReefer _ i fun _ => rfl

@[simp] theorem State.readings_queuePage (h : HeadIx) (i : Nat) (o : Option ReqTag) :
    (s.queuePage h i o).readings = s.readings :=
  State.readings_modReefer _ i fun _ => rfl

@[simp] theorem State.readings_setContact (i : Nat) (c : Contact) : (s.setContact i c).readings = s.readings := by
  rcases s.setContact_cases i c with ⟨h, -⟩ | ⟨r, -, -, h⟩
  · rw [h]
  · rw [h, State.readings_post]
    exact State.readings_modReefer _ i fun _ => rfl

@[simp] theorem State.readings_failPage (i : Nat) : (s.failPage i).readings = s.readings := by
  rw [State.failPage, State.readings_setContact, State.readings_endPage]

@[simp] theorem State.readings_internalPage (h : HeadIx) (i : Nat) : (s.internalPage h i).readings = s.readings := by
  unfold State.internalPage
  split
  · rfl
  · split
    · rfl
    · split
      · exact State.readings_queuePage ..
      · rfl

@[simp] theorem State.readings_releaseAckPage (i : Nat) : (s.releaseAckPage i).readings = s.readings := by
  unfold State.releaseAckPage
  split
  · rfl
  · split
    · rfl
    · dsimp only
      rw [apply_ite State.readings, apply_ite State.readings, State.readings_endPage, State.readings_modPage, ite_self,
        ite_self]

@[simp] theorem readings_wrapFrom (h : HeadIx) (q : List Nat) : (wrapFrom h q s).readings = s.readings := by
  induction q generalizing s with
  | nil => rfl
  | cons i rest ih =>
    unfold wrapFrom
    rw [ih]
    split
    · exact State.readings_endPage ..
    · rfl

@[simp] theorem State.readings_wrapPages (h : HeadIx) : (s.wrapPages h).readings = s.readings := readings_wrapFrom ..

@[simp] theorem readings_endPages (res : Result) (q : List Nat) : (endPages res q s).readings = s.readings := by
  induction q generalizing s with
  | nil => rfl
  | cons i rest ih => exact (ih _).trans (State.readings_endPage ..)

@[simp] theorem State.readings_sendPage (h : HeadIx) (i : Nat) : (s.sendPage h i).readings = s.readings := by
  unfold State.sendPage
  split
  · rfl
  · exact State.readings_modPage ..

@[simp] theorem readings_releaseFrom (h : HeadIx) (sec : Sector) (q : List Nat) :
    (releaseFrom h sec q s).readings = s.readings := by
  induction q generalizing s with
  | nil => rfl
  | cons i rest ih =>
    unfold releaseFrom
    rw [ih]
    split
    · exact State.readings_sendPage ..
    · rfl

@[simp] theorem State.readings_releasePages (h : HeadIx) (sec : Sector) :
    (s.releasePages h sec).readings = s.readings :=
  readings_releaseFrom ..

end Sys2Proof.Machine
end

section
/-! The readings of the records under the larger operations: handovers and crane links, heads, measurement reports, the
expiries, the strobe and the restart. None of them touches a reading. -/

namespace Sys2Proof.Machine

variable (s : State)

/-! ### Handovers and crane links -/

@[simp] theorem State.readings_endHandover (l : Nat) (cause : HandoverCause) :
    (s.endHandover l cause).readings = s.readings := by
  rcases s.endHandover_cases l cause with ⟨h, -⟩ | ⟨k, g, -, -, h⟩
  · rw [h]
  · rw [h, State.readings_post, apply_ite State.readings, State.readings_modContext, State.readings_modLink, ite_self]

@[simp] theorem State.readings_cancelHandover (l : Nat) (cause : HandoverCause) :
    (s.cancelHandover l cause).readings = s.readings := by
  unfold State.cancelHandover
  split
  · rw [State.readings_endHandover, State.readings_releaseOn]
  · rfl

@[simp] theorem readings_cancelEach (h : HeadIx) (cause : HandoverCause) (ls : List Nat) :
    (cancelEach h cause ls s).readings = s.readings := by
  induction ls generalizing s with
  | nil => rfl
  | cons l rest ih => rw [cancelEach, ih, State.readings_endHandover, State.readings_dropPrepared]

@[simp] theorem State.readings_cancelPrepared (h : HeadIx) : (s.cancelPrepared h).readings = s.readings :=
  readings_cancelEach ..

@[simp] theorem readings_cancelUntilFits (h : HeadIx) (ls : List Nat) :
    (cancelUntilFits h ls s).readings = s.readings := by
  induction ls generalizing s with
  | nil => rfl
  | cons l rest ih =>
    unfold cancelUntilFits
    split
    · rfl
    · rw [ih, State.readings_endHandover, State.readings_dropPrepared]

@[simp] theorem State.readings_enterSafeStop (l : Nat) (cause : SafeCause) :
    (s.enterSafeStop l cause).readings = s.readings := by
  unfold State.enterSafeStop
  split
  · rfl
  · exact State.readings_post ..

@[simp] theorem State.readings_completeHandover (l : Nat) : (s.completeHandover l).readings = s.readings := by
  unfold State.completeHandover
  split
  · split
    · rfl
    · dsimp only
      rw [State.readings_post, State.readings_order, State.readings_modLink]
      split
      · rw [State.readings_releaseOn, State.readings_convert, State.readings_modContext]
      · rw [State.readings_convert, State.readings_modContext]
  · rfl

@[simp] theorem State.readings_rescue (l : Nat) (h g : HeadIx) : (s.rescue l h g).readings = s.readings := by
  unfold State.rescue
  split
  · simp
  · rfl

@[simp] theorem State.readings_losePath (l : Nat) (held : Bool) : (s.losePath l held).readings = s.readings := by
  unfold State.losePath
  split
  · rfl
  · split
    · exact State.readings_enterSafeStop ..
    · exact State.readings_enterSafeStop ..
    · split
      · exact State.readings_enterSafeStop ..
      · rfl
    · rfl

@[simp] theorem State.readings_loseHead (l : Nat) (h : HeadIx) (held : Bool) :
    (s.loseHead l h held).readings = s.readings := by
  unfold State.loseHead
  split
  · exact State.readings_rescue ..
  · exact State.readings_losePath ..

@[simp] theorem State.readings_uplinkCheck (l : Nat) : (s.uplinkCheck l).readings = s.readings := by
  unfold State.uplinkCheck
  split
  · rfl
  · simp [apply_ite State.readings]

@[simp] theorem State.readings_assemblyCheck (l : Nat) : (s.assemblyCheck l).readings = s.readings := rfl

@[simp] theorem State.readings_setpointStage (l : Nat) : (s.setpointStage l).readings = s.readings := by
  unfold State.setpointStage
  split
  · rfl
  · split
    case h_1 | h_2 =>
      split
      · rfl
      · simp [apply_ite State.readings]
    case h_3 | h_4 => rfl

@[simp] theorem State.readings_handoverStep (l : Nat) : (s.handoverStep l).readings = s.readings := by
  unfold State.handoverStep
  split
  · rfl
  · split
    · rfl
    · rfl
    · simp [apply_ite State.readings]

@[simp] theorem State.readings_resume (l : Nat) (p : Setpoint) : (s.resume l p).readings = s.readings := by
  unfold State.resume
  split
  · rfl
  · exact State.readings_post ..

@[simp] theorem State.readings_closeCycle (l : Nat) : (s.closeCycle l).readings = s.readings := rfl

@[simp] theorem State.readings_advanceBlock (l : Nat) : (s.advanceBlock l).readings = s.readings := by
  rw [s.advanceBlock_frame]; rfl

@[simp] theorem State.readings_sendDownlink (l : Nat) : (s.sendDownlink l).readings = s.readings := by
  unfold State.sendDownlink
  split
  · split
    · rfl
    · dsimp only
      rw [State.readings_advanceBlock]
      split <;> rfl
  · rfl

@[simp] theorem State.readings_completeRelease (l : Nat) : (s.completeRelease l).readings = s.readings := by
  unfold State.completeRelease
  split
  · rfl
  · simp

@[simp] theorem State.readings_runningExpiry (l : Nat) : (s.runningExpiry l).readings = s.readings := by
  simp [State.runningExpiry]

@[simp] theorem State.readings_stoppedExpiry (l : Nat) (k : CraneLink) :
    (s.stoppedExpiry l k).readings = s.readings := by
  unfold State.stoppedExpiry
  dsimp only
  split
  · rw [State.readings_completeRelease, State.readings_assemblyCheck]
  · rw [State.readings_closeCycle, State.readings_sendDownlink, State.readings_handoverStep]
    split
    · rw [State.readings_resume, State.readings_assemblyCheck]
    · rfl

@[simp] theorem State.readings_cycleExpiry (l : Nat) : (s.cycleExpiry l).readings = s.readings := by
  unfold State.cycleExpiry
  split
  · rfl
  · split
    · dsimp only
      split
      · exact State.readings_runningExpiry ..
      · exact State.readings_runningExpiry ..
      · exact State.readings_stoppedExpiry ..
      · rfl
    · rfl

@[simp] theorem State.readings_takeFragment (handle l : Nat) (start : Bool) (f : Fragment) (k : CraneLink) :
    (s.takeFragment handle l start f k).readings = s.readings := by
  unfold State.takeFragment
  dsimp only
  split
  · split
    · rfl
    · split
      · exact State.readings_post ..
      · rfl
  · rfl

@[simp] theorem readings_takeUplink (handle l : Nat) (k : CraneLink) (h : HeadIx) (u : UplinkFields) :
    (takeUplink handle l k h u s).readings = s.readings := by
  simp [takeUplink, apply_ite State.readings]

/-! ### Heads -/

@[simp] theorem State.readings_enterSlot (h : HeadIx) (k : Nat) : (s.enterSlot h k).readings = s.readings := by
  unfold State.enterSlot
  dsimp only
  split
  · exact State.readings_releasePages ..
  · rfl

@[simp] theorem State.readings_applyStaged (h : HeadIx) : (s.applyStaged h).readings = s.readings := by
  unfold State.applyStaged
  split
  · exact State.readings_endOldest ..
  · rfl

@[simp] theorem State.readings_wrap (h : HeadIx) : (s.wrap h).readings = s.readings := by
  rw [State.wrap, State.readings_enterSlot, State.readings_wrapPages, State.readings_applyStaged]

@[simp] theorem State.readings_dwellExpiry (h : HeadIx) : (s.dwellExpiry h).readings = s.readings := by
  unfold State.dwellExpiry
  split
  · split
    · split
      · exact State.readings_enterSlot ..
      · exact State.readings_wrap ..
    · rfl
  · rfl

@[simp] theorem State.readings_postHeadState (h : HeadIx) : (s.postHeadState h).readings = s.readings :=
  State.readings_post ..

@[simp] theorem State.readings_changeHead (h : HeadIx) (f : Head → Head) :
    (s.changeHead h f).readings = s.readings := by
  unfold State.changeHead
  dsimp only
  rw [State.readings_fit]
  split
  · rw [State.readings_cancelPrepared, State.readings_postHeadState, State.modHead_eq, State.readings_setHead]
  · rw [State.readings_postHeadState, State.modHead_eq, State.readings_setHead]

@[simp] theorem State.readings_enterActive (h : HeadIx) : (s.enterActive h).readings = s.readings :=
  State.readings_changeHead ..

@[simp] theorem readings_faultContext (h : HeadIx) (held : List Nat) (k : Nat) :
    (faultContext h held k s).readings = s.readings := by
  unfold faultContext
  split
  · rfl
  · dsimp only
    split
    · split
      · rw [State.readings_loseHead, State.readings_post, State.readings_modContext]
      · rw [State.readings_post, State.readings_modContext]
    · rfl

@[simp] theorem readings_faultContexts (h : HeadIx) (held ks : List Nat) :
    (faultContexts h held ks s).readings = s.readings := by
  induction ks generalizing s with
  | nil => rfl
  | cons k rest ih => rw [faultContexts, ih, readings_faultContext]

/-- The fault of a head ends polls and pages of records and leaves their readings (R37). -/
@[simp] theorem State.readings_faultReefers (h : HeadIx) : (s.faultReefers h).readings = s.readings := by
  unfold State.faultReefers
  dsimp only
  rw [← readings_endPages s .noPath (s.pageQueue h)]
  simp only [State.readings, Table.mapAll, List.map_map]
  refine List.map_congr_left fun e _ => ?_
  simp only [Function.comp_apply, Prod.mk.injEq, true_and]
  split
  · rfl
  · split
    · split <;> rfl
    · rfl

@[simp] theorem State.readings_enterFault (h : HeadIx) (cause : FaultCause) :
    (s.enterFault h cause).readings = s.readings := by
  simp [State.enterFault, apply_ite State.readings]

@[simp] theorem State.readings_startTimerExpiry (h : HeadIx) : (s.startTimerExpiry h).readings = s.readings := by
  simp [State.startTimerExpiry, apply_ite State.readings]

@[simp] theorem State.readings_lockWaitExpiry (h : HeadIx) : (s.lockWaitExpiry h).readings = s.readings := by
  rw [State.lockWaitExpiry, apply_ite State.readings, State.readings_enterFault, ite_self]

@[simp] theorem State.readings_holdoverExpiry (h : HeadIx) : (s.holdoverExpiry h).readings = s.readings := by
  rw [State.holdoverExpiry, apply_ite State.readings, State.readings_enterFault, ite_self]

@[simp] theorem readings_headUp (h : HeadIx) : (headUp h s).readings = s.readings := by
  simp [headUp, apply_ite State.readings]

@[simp] theorem readings_syncLock (h : HeadIx) : (syncLock h s).readings = s.readings := by
  unfold syncLock
  split
  · simp [apply_ite State.readings]
  · exact State.readings_enterActive ..
  all_goals rfl

@[simp] theorem readings_syncLost (h : HeadIx) : (syncLost h s).readings = s.readings := by
  unfold syncLost
  split
  · rfl
  · exact State.readings_changeHead ..
  all_goals rfl

@[simp] theorem readings_lineFault (short : Bool) (h : HeadIx) : (lineFault short h s).readings = s.readings := by
  rw [lineFault, apply_ite State.readings, State.readings_enterFault, ite_self]

theorem readings_onHead {f : HeadIx → State → State} (hf : ∀ h, (f h s).readings = s.readings) (b : Byte) :
    (onHead b s f).readings = s.readings := by
  unfold onHead
  split
  · exact hf _
  · rfl

@[simp] theorem readings_takeHeadConfig (h : HeadIx) (w : Bool) (p : HeadPlan) :
    (takeHeadConfig h w p s).readings = s.readings := by
  simp [takeHeadConfig, State.newCapacity, apply_ite State.readings]

@[simp] theorem State.readings_stage (h : HeadIx) (t : ReqTag) (p : Clamped Schedule) :
    (s.stage h t p).readings = s.readings := by
  simp [State.stage, apply_ite State.readings]

/-! ### Measurement reports -/

@[simp] theorem State.readings_movePage (i : Nat) (h : HeadIx) : (s.movePage i h).readings = s.readings := by
  unfold State.movePage
  split
  · rfl
  · split
    · rfl
    · simp [apply_ite State.readings]

@[simp] theorem State.readings_moveWait (i : Nat) (h : HeadIx) : (s.moveWait i h).readings = s.readings := by
  unfold State.moveWait
  split
  · rfl
  · simp [apply_ite State.readings]

@[simp] theorem State.readings_moveReeferWork (c : Context) (h : HeadIx) :
    (s.moveReeferWork c h).readings = s.readings := by
  unfold State.moveReeferWork
  split
  · rw [State.readings_moveWait, State.readings_movePage]
  · rfl

@[simp] theorem State.readings_cranePath (k l n : Nat) (h : HeadIx) : (s.cranePath k l n h).readings = s.readings := by
  unfold State.cranePath
  split
  · rw [State.readings_modLink, State.readings_join]
  all_goals exact State.readings_post ..

@[simp] theorem readings_stageFive (k : Nat) (c : Context) (h : HeadIx) (list : List Candidate) :
    (stageFive s k c h list).readings = s.readings := by
  unfold stageFive
  split
  · rfl
  · dsimp only
    split
    · split
      · exact State.readings_cranePath ..
      · rfl
    · split
      · simp [State.immediateHandover]
      · rfl

@[simp] theorem readings_takeReport (k : Nat) (c : Context) (es : List MeasEntry) :
    (takeReport k c es s).readings = s.readings := by
  unfold takeReport
  dsimp only
  split
  · split
    · rfl
    · simp [State.reEnter]
  · rw [readings_stageFive, State.readings_modContext]

/-! ### Expiries of a record and the strobe -/

@[simp] theorem State.readings_wake (i : Nat) : (s.wake i).readings = s.readings := by
  rw [State.wake, State.readings_endPage]
  exact State.readings_modReefer _ i fun _ => rfl

@[simp] theorem State.readings_pollIfOverdue (i : Nat) : (s.pollIfOverdue i).readings = s.readings := by
  unfold State.pollIfOverdue
  split
  · rw [apply_ite State.readings, State.readings_makePoll, ite_self]
  · rfl

@[simp] theorem State.readings_ackExpiry (i : Nat) : (s.ackExpiry i).readings = s.readings := by
  have hwoken : (s.modReefer i fun r => { r with doze := .awake, ackTimer := none }).readings = s.readings :=
    State.readings_modReefer _ i fun _ => rfl
  unfold State.ackExpiry
  split
  · rfl
  · split
    · dsimp only
      rw [State.readings_pollIfOverdue]
      split
      · rw [apply_ite State.readings, State.readings_endPage, hwoken, ite_self]
      · exact hwoken
    · rfl

@[simp] theorem State.readings_pageExpiry (i : Nat) : (s.pageExpiry i).readings = s.readings := by
  unfold State.pageExpiry
  split
  · rfl
  · split
    · rfl
    · simp [apply_ite State.readings]

@[simp] theorem State.readings_pollExpiry (i : Nat) : (s.pollExpiry i).readings = s.readings := by
  unfold State.pollExpiry
  split
  · rfl
  · split
    · split
      · rw [State.readings_returnCredit]
        exact State.readings_modReefer _ i fun _ => rfl
      · rfl
    all_goals rfl

@[simp] theorem State.readings_secondPass : s.secondPass.readings = s.readings := by
  unfold State.secondPass
  split
  · refine Table.mapAll_mapAll _ fun r => ?_
    rw [Reefer.second, apply_ite Reefer.readings]
    exact ite_self _
  · rfl

@[simp] theorem State.readings_overdueExpiry (i : Nat) : (s.overdueExpiry i).readings = s.readings := by
  unfold State.overdueExpiry
  split
  · rfl
  · split
    · unfold State.overdueAction
      rw [← State.readings_modReefer s i (f := fun r => { r with overdueDue := false, missed := satInc 255 r.missed })
        fun _ => rfl]
      split
      · split
        · exact State.readings_makePoll ..
        all_goals rw [apply_ite State.readings, State.readings_internalPage, ite_self]
      · rfl
    · rfl

theorem readings_takeEach {α : Type} {f : State → α → State} (hf : ∀ s a, (f s a).readings = s.readings) (as : List α) :
    (takeEach f as s).readings = s.readings := by
  induction as generalizing s with
  | nil => rfl
  | cons a as ih => rw [takeEach, ih, hf]

theorem State.readings_takeDue : s.takeDue.readings = s.readings := by
  simp [State.takeDue, State.headExpiries, State.linkExpiries, State.reeferExpiries, readings_takeEach]

theorem State.readings_count : s.count.readings = s.readings :=
  Table.mapAll_mapAll _ fun _ => rfl

/-! ### The restart -/

@[simp] theorem State.readings_restartReefers : s.restartReefers.readings = s.readings := by
  unfold State.restartReefers State.readings
  rw [Table.mapAll_mapAll]
  exact fun _ => rfl

@[simp] theorem State.readings_restartHead (h : HeadIx) : (s.restartHead h).readings = s.readings := by
  simp [State.restartHead, apply_ite State.readings]

@[simp] theorem readings_restartHeads (hs : List HeadIx) : (restartHeads hs s).readings = s.readings := by
  induction hs generalizing s with
  | nil => rfl
  | cons h hs ih => rw [restartHeads, ih, State.readings_restartHead]

@[simp] theorem State.readings_restartLink (l : Nat) : (s.restartLink l).readings = s.readings := by
  unfold State.restartLink
  split
  · rfl
  · dsimp only
    rw [State.readings_endHandover]
    split
    case h_1 | h_2 => rw [State.readings_enterSafeStop, State.readings_modLink]
    case h_3 | h_4 => rfl

@[simp] theorem readings_restartLinks (ls : List Nat) : (restartLinks ls s).readings = s.readings := by
  induction ls generalizing s with
  | nil => rfl
  | cons l ls ih => rw [restartLinks, ih, State.readings_restartLink]

@[simp] theorem readings_takeRestart : (takeRestart s).readings = s.readings := by
  unfold takeRestart
  dsimp only
  rw [readings_restartLinks, readings_restartHeads, State.readings_restartReefers]
  rfl

end Sys2Proof.Machine
end

section
/-! The commands: which of them can touch a reading, and that every other leaves them all. -/

namespace Sys2Proof.Machine

/-- What a command answers, when it answers a next state, has the readings of `s`. -/
def KeepsReadings (s : State) (o : Out) : Prop := ∀ t, o = .next t → t.readings = s.readings

theorem keepsReadings_next {s u : State} (h : u.readings = s.readings) : KeepsReadings s (.next u) := by
  rintro t ⟨⟩
  exact h

/-- A request that is answered keeps the readings that its effect keeps. -/
theorem keepsReadings_answer {s u : State} {k : ReqKind} {r : Request} {res : Result} {c : Bool} {i : Identity}
    {b : List Byte} (h : u.readings = s.readings) : KeepsReadings s (.next (answer k r res c i b u)) :=
  keepsReadings_next ((readings_answer ..).trans h)

section
variable (r : Request) (s : State)

theorem execFind_keepsReadings : KeepsReadings s (execFind r s) := by
  unfold execFind
  split <;> exact keepsReadings_next rfl

theorem execRead_keepsReadings : KeepsReadings s (execRead r s) := by
  unfold execRead
  split <;> exact keepsReadings_next rfl

theorem execAmend_keepsReadings : KeepsReadings s (execAmend r s) := by
  unfold execAmend
  split
  · exact keepsReadings_next rfl
  · split <;> exact keepsReadings_next rfl

theorem execCraneStart_keepsReadings : KeepsReadings s (execCraneStart r s) := by
  unfold execCraneStart
  split
  · exact keepsReadings_next rfl
  · split
    · exact keepsReadings_next rfl
    · dsimp only
      split
      · exact keepsReadings_next rfl
      · exact keepsReadings_answer (by simp [takeCraneStart])

theorem execSetpoint_keepsReadings : KeepsReadings s (execSetpoint r s) := by
  unfold execSetpoint
  split
  · exact keepsReadings_next rfl
  · split
    · exact keepsReadings_next rfl
    · split <;> exact keepsReadings_next rfl

theorem readings_takeCraneStop (l : Nat) (k : CraneLink) : (takeCraneStop l k s).readings = s.readings := by
  unfold takeCraneStop
  dsimp only
  rw [State.readings_cancelHandover]
  split
  case h_1 | h_2 => exact State.readings_enterSafeStop ..
  case h_3 | h_4 => rfl

theorem execCraneStop_keepsReadings : KeepsReadings s (execCraneStop r s) := by
  unfold execCraneStop
  split
  · exact keepsReadings_next rfl
  · split
    · exact keepsReadings_next rfl
    · exact keepsReadings_answer (readings_takeCraneStop ..)

theorem readings_takeCraneResume (l : Nat) (h : Option HeadIx) (k : CraneLink) (p : Setpoint) :
    (takeCraneResume l h k p s).readings = s.readings := by
  cases h with
  | none => rfl
  | some g => simp [takeCraneResume, State.writeNext, State.resumeAirtime]

theorem execCraneResume_keepsReadings : KeepsReadings s (execCraneResume r s) := by
  unfold execCraneResume
  split
  · exact keepsReadings_next rfl
  · split
    · exact keepsReadings_next rfl
    · split
      · exact keepsReadings_next rfl
      · exact keepsReadings_answer (readings_takeCraneResume s ..)

theorem execCraneRelease_keepsReadings : KeepsReadings s (execCraneRelease r s) := by
  unfold execCraneRelease
  split
  · exact keepsReadings_next rfl
  · split
    · exact keepsReadings_next rfl
    · exact keepsReadings_next (by simp [takeCraneRelease])

theorem State.readings_placeBlock (handle l : Nat) (b : Bytes48) (t : ReqTag) (k : CraneLink) :
    (s.placeBlock handle l b t k).readings = s.readings := by
  unfold State.placeBlock
  split
  · rfl
  · rfl
  · rw [State.readings_endNewest, State.readings_modLink]

theorem execSideDown_keepsReadings : KeepsReadings s (execSideDown r s) := by
  unfold execSideDown
  split
  · exact keepsReadings_next rfl
  · split
    · exact keepsReadings_next rfl
    · split
      · exact keepsReadings_next rfl
      · exact keepsReadings_next (State.readings_placeBlock ..)

theorem execCraneRead_keepsReadings : KeepsReadings s (execCraneRead r s) := by
  unfold execCraneRead
  split <;> exact keepsReadings_next rfl

/-- The reading of a record sets its missed count to 0 and leaves its readings (R137). -/
theorem execReeferRead_keepsReadings : KeepsReadings s (execReeferRead r s) := by
  unfold execReeferRead
  split
  · exact keepsReadings_next rfl
  · exact keepsReadings_answer (by rw [State.readings_modReefer]; exact fun _ => rfl)

theorem execPage_keepsReadings : KeepsReadings s (execPage r s) := by
  unfold execPage
  split
  · exact keepsReadings_next rfl
  · split
    · exact keepsReadings_next rfl
    · split
      · exact keepsReadings_next rfl
      · exact keepsReadings_next rfl
      · exact keepsReadings_next (State.readings_modPage ..)
      · exact keepsReadings_next (State.readings_queuePage ..)

theorem execHeadConfig_keepsReadings : KeepsReadings s (execHeadConfig r s) := by
  unfold execHeadConfig
  split
  · exact keepsReadings_next rfl
  · split
    · exact keepsReadings_next rfl
    · exact keepsReadings_answer (readings_takeHeadConfig ..)

theorem execHeadRead_keepsReadings : KeepsReadings s (execHeadRead r s) := by
  unfold execHeadRead
  split <;> exact keepsReadings_next rfl

theorem execHeadClear_keepsReadings : KeepsReadings s (execHeadClear r s) := by
  unfold execHeadClear
  split
  · exact keepsReadings_next rfl
  · split
    · exact keepsReadings_answer (State.readings_changeHead ..)
    · exact keepsReadings_next rfl

theorem execSweepSet_keepsReadings : KeepsReadings s (execSweepSet r s) := by
  unfold execSweepSet
  split
  · exact keepsReadings_next rfl
  · split
    · exact keepsReadings_next rfl
    · split
      · exact keepsReadings_next rfl
      · dsimp only
        split
        · exact keepsReadings_next (State.readings_stage ..)
        · exact keepsReadings_next rfl

theorem execShadowSet_keepsReadings : KeepsReadings s (execShadowSet r s) := by
  unfold execShadowSet
  split
  · exact keepsReadings_next rfl
  · split <;> exact keepsReadings_next rfl

theorem execShadowRead_keepsReadings : KeepsReadings s (execShadowRead r s) := by
  unfold execShadowRead
  split <;> exact keepsReadings_next rfl

theorem readings_takeParams (p : ParamsPlan) : (takeParams p s).readings = s.readings := by
  unfold takeParams
  split <;> rfl

theorem execClassParams_keepsReadings : KeepsReadings s (execClassParams r s) := by
  unfold execClassParams
  split
  · exact keepsReadings_next rfl
  · split
    · exact keepsReadings_next rfl
    · exact keepsReadings_answer (readings_takeParams ..)

theorem execPollWindowSet_keepsReadings : KeepsReadings s (execPollWindowSet r s) := by
  unfold execPollWindowSet
  split
  · exact keepsReadings_next rfl
  · exact keepsReadings_answer (State.readings_fit ..)

theorem execPartConfig_keepsReadings : KeepsReadings s (execPartConfig r s) := by
  unfold execPartConfig
  split
  · exact keepsReadings_next rfl
  · dsimp only
    split <;> exact keepsReadings_next rfl

theorem execPartStatus_keepsReadings : KeepsReadings s (execPartStatus r s) := by
  unfold execPartStatus
  split <;> exact keepsReadings_next rfl

theorem execRestart_keepsReadings : KeepsReadings s (execRestart r s) := by
  unfold execRestart
  split
  · exact keepsReadings_next rfl
  · exact keepsReadings_answer (readings_takeRestart ..)

theorem execMeasurementReport_keepsReadings (tag : Tag) (es : List MeasEntry) :
    KeepsReadings s (execMeasurementReport tag es s) := by
  unfold execMeasurementReport
  split
  · exact keepsReadings_next (readings_takeReport ..)
  · exact keepsReadings_next rfl

theorem readings_onUplink (k : Nat) (c : Context) (u : UplinkFields) : (onUplink k c u s).readings = s.readings := by
  unfold onUplink
  split
  · rfl
  · split
    · rw [apply_ite State.readings, readings_takeUplink, ite_self]
    · rfl

theorem execCraneUplink_keepsReadings (tag : Tag) (u : UplinkFields) :
    KeepsReadings s (execCraneUplink tag u s) := by
  unfold execCraneUplink
  split
  · exact keepsReadings_next rfl
  · split
    · exact keepsReadings_next (readings_onUplink ..)
    · exact keepsReadings_next rfl

/-- A terminal event for reefers is taken for the record of its tag's context, or leaves every record (R168, R169). -/
theorem onReefer_cases (tag : Tag) (g : Nat → Reefer → State → State) :
    (onReefer tag s g).readings = s.readings ∨
      ∃ k c i x, s.findTag tag = some (k, c) ∧ c.cls = .reefer ∧ c.ext = some i ∧ s.reefers.get? i = some x ∧
        onReefer tag s g = g i x s := by
  unfold onReefer
  split
  · exact .inl rfl
  · split
    · split
      · exact .inl rfl
      · split
        · exact .inr ⟨_, _, _, _, by assumption, by assumption, by assumption, by assumption, rfl⟩
        · exact .inl rfl
    · exact .inl rfl

theorem readings_onReefer {tag : Tag} {g : Nat → Reefer → State → State} (hg : ∀ i x, (g i x s).readings = s.readings) :
    (onReefer tag s g).readings = s.readings := by
  obtain h | ⟨k, c, i, x, -, -, -, -, h⟩ := onReefer_cases s tag g
  · exact h
  · rw [h, hg]

theorem readings_takeDozeAck (code : Byte) (i : Nat) (x : Reefer) : (takeDozeAck code i x s).readings = s.readings := by
  unfold takeDozeAck
  dsimp only
  split
  · split
    · rw [State.readings_releaseAckPage, State.readings_modReefer _ i, State.readings_setContact]
      exact fun _ => rfl
    · exact State.readings_setContact ..
  · exact State.readings_setContact ..

theorem execDozeAck_keepsReadings (tag : Tag) (b code : Byte) : KeepsReadings s (execDozeAck tag b code s) :=
  keepsReadings_next (readings_onReefer s (readings_takeDozeAck s code))

theorem execPageAnswer_keepsReadings (tag : Tag) (b : Byte) : KeepsReadings s (execPageAnswer tag b s) :=
  keepsReadings_next (readings_onReefer s fun i x => by simp [takePageAnswer, apply_ite State.readings])

theorem execReplySend_keepsReadings : KeepsReadings s (execReplySend s) := by
  unfold execReplySend
  split <;> exact keepsReadings_next rfl

theorem execNoticeSend_keepsReadings : KeepsReadings s (execNoticeSend s) := by
  unfold execNoticeSend
  split <;> exact keepsReadings_next rfl

theorem execOrderSend_keepsReadings : KeepsReadings s (execOrderSend s) := by
  unfold execOrderSend
  split <;> exact keepsReadings_next rfl

end

/-- The commands that can create or free a reefer record, set its booked setpoint, or report its readings. -/
def changesReadings : Instr → Bool
  | .attach _ | .retire _ | .reeferParams _ | .reeferReport _ _ | .coldReset => true
  | _ => false

/-- Every other command leaves every reading: one case for each. -/
theorem exec_keepsReadings {i : Instr} (hi : changesReadings i = false) (s : State) : KeepsReadings s (exec i s) := by
  cases i with
  | attach r | retire r | reeferParams r | reeferReport tag f | coldReset => cases hi
  | find r => exact execFind_keepsReadings r s
  | read r => exact execRead_keepsReadings r s
  | amend r => exact execAmend_keepsReadings r s
  | craneStart r => exact execCraneStart_keepsReadings r s
  | setpoint r => exact execSetpoint_keepsReadings r s
  | craneStop r => exact execCraneStop_keepsReadings r s
  | craneResume r => exact execCraneResume_keepsReadings r s
  | craneRelease r => exact execCraneRelease_keepsReadings r s
  | sideDown r => exact execSideDown_keepsReadings r s
  | craneRead r => exact execCraneRead_keepsReadings r s
  | reeferRead r => exact execReeferRead_keepsReadings r s
  | page r => exact execPage_keepsReadings r s
  | headConfig r => exact execHeadConfig_keepsReadings r s
  | headRead r => exact execHeadRead_keepsReadings r s
  | headClear r => exact execHeadClear_keepsReadings r s
  | sweepSet r => exact execSweepSet_keepsReadings r s
  | shadowSet r => exact execShadowSet_keepsReadings r s
  | shadowRead r => exact execShadowRead_keepsReadings r s
  | classParams r => exact execClassParams_keepsReadings r s
  | pollWindowSet r => exact execPollWindowSet_keepsReadings r s
  | partConfig r => exact execPartConfig_keepsReadings r s
  | partStatus r => exact execPartStatus_keepsReadings r s
  | restart r => exact execRestart_keepsReadings r s
  | unknownRequestKind kind r => exact keepsReadings_next rfl
  | incompleteRequestHeader msg => exact keepsReadings_next rfl
  | measurementReport tag es => exact execMeasurementReport_keepsReadings s tag es
  | craneUplink tag u => exact execCraneUplink_keepsReadings s tag u
  | dozeAck tag b code => exact execDozeAck_keepsReadings s tag b code
  | pageAnswer tag b => exact execPageAnswer_keepsReadings s tag b
  | headUp b => exact keepsReadings_next (readings_onHead s (readings_headUp s) b)
  | syncLock b => exact keepsReadings_next (readings_onHead s (readings_syncLock s) b)
  | syncLost b => exact keepsReadings_next (readings_onHead s (readings_syncLost s) b)
  | lineFault b short => exact keepsReadings_next (readings_onHead s (readings_lineFault s short) b)
  | unknownEventKind msg => exact keepsReadings_next rfl
  | frameStrobe => exact keepsReadings_next ((State.readings_count _).trans s.readings_takeDue)
  | startTimerExpiry h => exact keepsReadings_next (s.readings_startTimerExpiry h)
  | lockWaitExpiry h => exact keepsReadings_next (s.readings_lockWaitExpiry h)
  | holdoverExpiry h => exact keepsReadings_next (s.readings_holdoverExpiry h)
  | dwellExpiry h => exact keepsReadings_next (s.readings_dwellExpiry h)
  | cycleExpiry l => exact keepsReadings_next (s.readings_cycleExpiry l)
  | ackLimitExpiry i => exact keepsReadings_next (s.readings_ackExpiry i)
  | pageAnswerExpiry i => exact keepsReadings_next (s.readings_pageExpiry i)
  | pollAnswerExpiry i => exact keepsReadings_next (s.readings_pollExpiry i)
  | secondExpiry => exact keepsReadings_next s.readings_secondPass
  | overdueExpiry i => exact keepsReadings_next (s.readings_overdueExpiry i)
  | replySend => exact execReplySend_keepsReadings s
  | noticeSend => exact execNoticeSend_keepsReadings s
  | orderSend => exact execOrderSend_keepsReadings s

end Sys2Proof.Machine
end

section
/-! The persistence count (R131): what a report makes of it, and that no other command changes it. -/

namespace Sys2Proof.Machine

/-! ### The count of one report -/

section
variable {g : Settings} {a n : Nat}

theorem nextPersist_none : nextPersist g none n = n := rfl

/-- Above T_d the count rises by one, saturating at 15. -/
theorem nextPersist_above (ha : g.devThreshold < a) (hn : n ≤ 15) : nextPersist g (some a) n = min 15 (n + 1) := by
  have hsat : satInc 15 n = min 15 (n + 1) := by unfold satInc; split <;> omega
  rw [← hsat]
  exact if_pos ha

theorem nextPersist_below (ha : a ≤ g.devThreshold - g.devHysteresis) : nextPersist g (some a) n = 0 :=
  (if_neg (by omega)).trans (if_pos ha)

theorem nextPersist_between (hlo : g.devThreshold - g.devHysteresis < a) (hhi : a ≤ g.devThreshold) :
    nextPersist g (some a) n = n :=
  (if_neg (by omega)).trans (if_neg (by omega))

end

/-! ### The steps of a report -/

variable (s : State)

theorem PollFrame.settings_eq {s t : State} (h : PollFrame s t) : t.settings = s.settings := by
  rw [PollFrame] at h
  rw [h]

theorem PageFrame.settings_eq {s t : State} (h : PageFrame s t) : t.settings = s.settings := by
  rw [PageFrame] at h
  rw [h]

theorem State.settings_setContact (i : Nat) (c : Contact) : (s.setContact i c).settings = s.settings := by
  rcases s.setContact_cases i c with ⟨h, -⟩ | ⟨r, -, -, h⟩
  · rw [h]
  · rw [h, State.post_settings, State.modReefer_settings]

theorem State.settings_wakeByReport (i : Nat) : (s.wakeByReport i).settings = s.settings := by
  unfold State.wakeByReport
  split
  · split
    · exact (State.endPage_frame _ i .done).settings_eq
    · rfl
  · rfl

theorem State.readings_wakeByReport (i : Nat) : (s.wakeByReport i).readings = s.readings := by
  unfold State.wakeByReport
  split
  · rw [apply_ite State.readings, State.readings_wake, ite_self]
  · rfl

theorem State.reefers_classify (i : Nat) : (s.classify i).reefers = s.reefers.modify i (classified s.settings) := by
  unfold State.classify
  split
  case h_1 hnone => exact (Table.modify_of_get?_none _ _ _ hnone).symm
  case h_2 =>
    dsimp only
    split
    · rfl
    · exact State.post_reefers ..

theorem State.readings_dozeDecision (i : Nat) (woken : Bool) : (s.dozeDecision i woken).readings = s.readings := by
  unfold State.dozeDecision
  split
  · split
    · split
      · rw [State.readings_modReefer]
        · rfl
        · exact fun _ => rfl
      · rfl
    · rfl
  · rfl

/-- The steps of a report before its classification. -/
def State.beforeClassify (s : State) (i : Nat) (f : ReportFields) : State :=
  (((s.modReefer i (replaceStatus f)).setContact i .reachable).wakeByReport i).endPoll i

theorem takeReeferReport_eq (i : Nat) (r : Reefer) (f : ReportFields) :
    takeReeferReport i r f s = ((s.beforeClassify i f).classify i).dozeDecision i (wakeEndsPage r) := rfl

theorem State.settings_beforeClassify (i : Nat) (f : ReportFields) : (s.beforeClassify i f).settings = s.settings := by
  rw [State.beforeClassify, (State.endPoll_frame _ i).settings_eq, State.settings_wakeByReport,
    State.settings_setContact, State.modReefer_settings]

/-- Between step 1 and the classification no step touches a reading. -/
theorem State.readings_beforeClassify (i : Nat) (f : ReportFields) :
    (s.beforeClassify i f).readings = (s.modReefer i (replaceStatus f)).readings := by
  rw [State.beforeClassify, State.readings_endPoll, State.readings_wakeByReport, State.readings_setContact]

/-! ### The record reported, and the others -/

variable {s}

/-- Equal readings of a slot are equal readings of the records that it holds. -/
theorem exists_get?_of_readings {t : State} {j : Nat} {q : Reefer} (h : t.readings.get? j = some q.readings) :
    ∃ r', t.reefers.get? j = some r' ∧ r'.readings = q.readings := by
  rw [State.get?_readings] at h
  exact Option.map_eq_some_iff.mp h

/-- What a report makes of the count of its own record: the count of R131 over the deviation of the new status. -/
theorem persist_takeReeferReport {i : Nat} {r : Reefer} (hr : s.reefers.get? i = some r) (f : ReportFields) :
    ∃ r', (takeReeferReport i r f s).reefers.get? i = some r' ∧
      r'.persist = nextPersist s.settings (replaceStatus f r).deviation r.persist := by
  have hbefore : (s.beforeClassify i f).readings.get? i = some (replaceStatus f r).readings := by
    rw [State.readings_beforeClassify, State.get?_readings, State.modReefer_reefers, Table.get?_modify_self, hr]
    rfl
  obtain ⟨q, hq, hread⟩ := exists_get?_of_readings hbefore
  have hafter : (takeReeferReport i r f s).readings.get? i = some (classified s.settings q).readings := by
    rw [takeReeferReport_eq, State.readings_dozeDecision, State.get?_readings, State.reefers_classify,
      State.settings_beforeClassify, Table.get?_modify_self, hq]
    rfl
  obtain ⟨r', hr', hclass⟩ := exists_get?_of_readings hafter
  refine ⟨r', hr', ?_⟩
  calc r'.persist
      = nextPersist s.settings q.deviation q.persist := Reefer.persist_eq_of_readings hclass
    _ = nextPersist s.settings (replaceStatus f r).deviation r.persist := by
        rw [Reefer.deviation_eq_of_readings hread, Reefer.persist_eq_of_readings hread]
        rfl

/-- A report leaves the readings of every other record. -/
theorem get?_readings_takeReeferReport_of_ne {i j : Nat} (hj : j ≠ i) (r : Reefer) (f : ReportFields) :
    (takeReeferReport i r f s).readings.get? j = s.readings.get? j := by
  rw [takeReeferReport_eq, State.readings_dozeDecision, State.get?_readings, State.reefers_classify,
    Table.get?_modify_of_ne _ _ hj, ← State.get?_readings, State.readings_beforeClassify, State.get?_readings,
    State.modReefer_reefers, Table.get?_modify_of_ne _ _ hj, ← State.get?_readings]

theorem exec_reeferReport {tag : Tag} {k i : Nat} {c : Context} {r : Reefer} (h : findsReefer tag s k c i r)
    (f : ReportFields) : exec (.reeferReport tag f) s = .next (takeReeferReport i r f s) := by
  obtain ⟨htag, -, hcls, hext, hr⟩ := h
  change execReeferReport tag f s = _
  simp [execReeferReport, onReefer, htag, hcls, hext, hr]

/-! ### The count of a record that no report reaches -/

/-- The count of record `j` in `t` is that in `s`, and 0 where `j` was free in `s`. -/
def KeepsPersist (s t : State) (j : Nat) : Prop :=
  ∀ r', t.reefers.get? j = some r' →
    (s.reefers.get? j = none → r'.persist = 0) ∧ ∀ r, s.reefers.get? j = some r → r'.persist = r.persist

section
variable {t : State} {j : Nat}

theorem keepsPersist_of_get?_eq (h : t.readings.get? j = s.readings.get? j) : KeepsPersist s t j := by
  intro r' hr'
  rw [State.get?_readings, State.get?_readings, hr'] at h
  refine ⟨fun hnone => ?_, fun r hr => ?_⟩
  · rw [hnone] at h
    cases h
  · rw [hr] at h
    exact Reefer.persist_eq_of_readings (Option.some.inj h)

theorem keepsPersist_of_readings_eq (h : t.readings = s.readings) : KeepsPersist s t j :=
  keepsPersist_of_get?_eq (congrArg (Table.get? · j) h)

/-- A fresh record in a free slot has count 0, and the others stay (R15). -/
theorem keepsPersist_of_set_fresh {i o : Nat} (hfree : s.reefers.get? i = none)
    (ht : t.reefers = s.reefers.set i (Reefer.fresh o)) : KeepsPersist s t j := by
  by_cases hj : j = i
  · intro r' hr'
    rw [hj, ht, Table.get?_set_self, Option.some.injEq] at hr'
    rw [hj, hfree, ← hr']
    exact ⟨fun _ => rfl, fun r hr => by cases hr⟩
  · refine keepsPersist_of_get?_eq ?_
    rw [State.get?_readings, State.get?_readings, ht, Table.get?_set_of_ne _ _ hj]

/-- Slots freed or kept: what is still there is what was. -/
theorem keepsPersist_of_get?_le (h : ∀ r', t.reefers.get? j = some r' → t.readings.get? j = s.readings.get? j) :
    KeepsPersist s t j :=
  fun r' hr' => keepsPersist_of_get?_eq (h r' hr') r' hr'

end

/-! ### ATTACH -/

theorem freeExtension_reefer {ext : Option Nat} (h : freeExtension .reefer s = some ext) :
    ext = some s.reefers.lowestFree := by
  unfold freeExtension at h
  dsimp only at h
  split at h
  · exact (Option.some.inj h).symm
  · cases h

/-- An ATTACH that passes its checks for a REEFER takes the lowest free record (R3). -/
theorem ext_of_attachChecks {os : Options} {p : AttachPlan} (h : attachChecks os s = .ok p) (hc : p.ctx.cls = .reefer) :
    p.ctx.ext = some s.reefers.lowestFree := by
  unfold attachChecks at h
  split at h
  · split at h
    · cases h
    · split at h
      · cases h
      · split at h
        · cases h
        · split at h
          · cases h
          · next hfree =>
            cases h
            subst hc
            exact freeExtension_reefer hfree
  · cases h

/-- The reefer records after an ATTACH: as they were, or with a fresh one (R15). -/
theorem reefers_takeAttach_cases {os : Options} {p : AttachPlan} (h : attachChecks os s = .ok p) :
    (takeAttach p s).reefers = s.reefers ∨
      (takeAttach p s).reefers = s.reefers.set s.reefers.lowestFree (Reefer.fresh p.handle) := by
  unfold takeAttach
  dsimp only
  split
  · exact .inl rfl
  · next i hcls hext =>
    have hi : i = s.reefers.lowestFree := Option.some.inj (hext.symm.trans (ext_of_attachChecks h hcls))
    exact .inr (by rw [hi])
  · exact .inl rfl

theorem execAttach_keepsPersist {r : Request} {t : State} (htab : s.tablesLaw) (h : execAttach r s = .next t)
    (j : Nat) : KeepsPersist s t j := by
  unfold execAttach at h
  split at h
  · cases h
    exact keepsPersist_of_readings_eq rfl
  · split at h
    · cases h
      exact keepsPersist_of_readings_eq rfl
    · next hchecks =>
      cases h
      obtain hsame | hset := reefers_takeAttach_cases hchecks
      · exact keepsPersist_of_readings_eq (State.readings_of_reefers hsame)
      · obtain ⟨-, -, hwf, -⟩ := htab
        exact keepsPersist_of_set_fresh (Table.get?_lowestFree hwf) hset

/-! ### RETIRE -/

theorem State.readings_endExtensionWork (s : State) (k : Nat) (c : Context) :
    (s.endExtensionWork k c).readings = s.readings := by
  unfold State.endExtensionWork
  split
  · rfl
  · simp [State.endReeferWork]
  · rfl

/-- A RETIRE frees at most one record and leaves the readings of the others. -/
theorem reefers_freeContext_cases (s : State) (k : Nat) (c : Context) :
    (s.freeContext k c).reefers = s.reefers ∨ ∃ i, (s.freeContext k c).reefers = s.reefers.erase i := by
  unfold State.freeContext
  dsimp only
  split
  · exact .inl rfl
  · exact .inr ⟨_, rfl⟩
  · exact .inl rfl

/-- What a retired context's slot frees is gone; what is still there has the readings that it had. -/
theorem get?_readings_freeContext {k : Nat} {c : Context} {j : Nat} {r' : Reefer}
    (hr' : (s.freeContext k c).reefers.get? j = some r') : (s.freeContext k c).readings.get? j = s.readings.get? j := by
  obtain h | ⟨i, h⟩ := reefers_freeContext_cases s k c
  · rw [State.readings_of_reefers h]
  · rw [h, Table.get?_erase] at hr'
    rw [State.get?_readings, State.get?_readings, h, Table.get?_erase]
    by_cases hj : j = i
    · rw [if_pos hj] at hr'
      cases hr'
    · rw [if_neg hj]

theorem keepsPersist_takeRetire (s : State) (k : Nat) (c : Context) (j : Nat) :
    KeepsPersist s (takeRetire k c s) j := by
  obtain ⟨u, hfreed, hread⟩ : ∃ u : State, takeRetire k c s = u.freeContext k c ∧ u.readings = s.readings := by
    refine ⟨_, rfl, Eq.trans ?_ (State.readings_endExtensionWork s k c)⟩
    cases c.serving <;> rfl
  refine keepsPersist_of_get?_le fun r' hr' => ?_
  rw [hfreed] at hr' ⊢
  rw [get?_readings_freeContext hr', hread]

theorem execRetire_keepsPersist {r : Request} {t : State} (h : execRetire r s = .next t) (j : Nat) :
    KeepsPersist s t j := by
  unfold execRetire at h
  split at h
  · cases h
    exact keepsPersist_of_readings_eq rfl
  · split at h
    · cases h
      exact keepsPersist_of_readings_eq rfl
    · cases h
      exact keepsPersist_takeRetire s _ _ j

/-! ### REEFER_PARAMS -/

theorem keepsPersist_modReefer {i : Nat} {g : Reefer → Reefer} (hg : ∀ r, (g r).persist = r.persist) (j : Nat) :
    KeepsPersist s (s.modReefer i g) j := by
  intro r' hr'
  rw [State.modReefer_reefers, Table.get?_modify] at hr'
  refine ⟨fun hnone => ?_, fun r hr => ?_⟩
  · rw [hnone, Option.map_none, ite_self] at hr'
    cases hr'
  · rw [hr] at hr'
    split at hr'
    · cases hr'
      exact hg r
    · cases hr'
      rfl

theorem execReeferParams_keepsPersist {r : Request} {t : State} (h : execReeferParams r s = .next t) (j : Nat) :
    KeepsPersist s t j := by
  unfold execReeferParams at h
  split at h
  · cases h
    exact keepsPersist_of_readings_eq rfl
  · split at h
    · cases h
      exact keepsPersist_of_readings_eq rfl
    · next p _ =>
      cases h
      exact keepsPersist_modReefer (g := p.write) (fun _ => rfl) j

/-! ### Reports of other records -/

theorem execReeferReport_keepsPersist {tag : Tag} {f : ReportFields} {t : State} {j : Nat}
    (hother : ∀ k c r, s.findTag tag = some (k, c) → c.cls = .reefer → s.reefers.get? j = some r → c.ext ≠ some j)
    (h : execReeferReport tag f s = .next t) : KeepsPersist s t j := by
  cases h
  obtain h | ⟨k, c, i, x, htag, hcls, hext, hx, h⟩ := onReefer_cases s tag fun i r s => takeReeferReport i r f s
  · exact keepsPersist_of_readings_eq h
  · rw [h]
    have hj : j ≠ i := by
      rintro rfl
      exact hother k c x htag hcls hx hext
    exact keepsPersist_of_get?_eq (get?_readings_takeReeferReport_of_ne hj x f)

/-! ### The persistence count -/

/-- R131 for the record that the report is for. -/
theorem persist_exec_reeferReport {tag : Tag} {k i : Nat} {c : Context} {r : Reefer} (h : findsReefer tag s k c i r)
    (f : ReportFields) :
    ∃ t r', exec (.reeferReport tag f) s = .next t ∧ t.reefers.get? i = some r' ∧
      r'.persist = nextPersist s.settings (replaceStatus f r).deviation r.persist := by
  obtain ⟨-, -, -, -, hr⟩ := id h
  obtain ⟨r', hr', hpersist⟩ := persist_takeReeferReport hr f
  exact ⟨_, r', exec_reeferReport h f, hr', hpersist⟩

/-- A record that exists before and after a command keeps its count unless the command is a report of that record; one
that only exists after it has count 0. -/
theorem exec_keepsPersist {i : Instr} {t : State} {j : Nat} (htab : s.tablesLaw)
    (hother : ∀ tag f k c r, i = .reeferReport tag f → s.findTag tag = some (k, c) → c.cls = .reefer →
      s.reefers.get? j = some r → c.ext ≠ some j)
    (h : exec i s = .next t) : KeepsPersist s t j := by
  by_cases hi : changesReadings i = false
  · exact keepsPersist_of_readings_eq (exec_keepsReadings hi s t h)
  · cases i with
    | attach r => exact execAttach_keepsPersist htab h j
    | retire r => exact execRetire_keepsPersist h j
    | reeferParams r => exact execReeferParams_keepsPersist h j
    | reeferReport tag f => exact execReeferReport_keepsPersist (fun k c r => hother tag f k c r rfl) h
    | coldReset =>
      cases h
      intro r' hr'
      cases hr'
    | _ => exact absurd rfl hi

/-- Settles O54: the count of a report by the three bands of R131, that of every other record by the readings. -/
theorem persistenceCountFollowsTheReports : Obligations.PersistenceCountFollowsTheReports := by
  refine ⟨fun tag f s k c i r hfinds hcount _ => ?_, fun i s t j r' htab hexec hr' => ?_⟩
  · intro stored p dev
    have hdev : (replaceStatus f r).deviation = dev := by
      obtain ⟨head, supply, ret, setpoint, flags, power⟩ := f
      cases supply with
      | none => rfl
      | some w =>
        cases setpoint with
        | some v => rfl
        | none =>
          simp only [dev, p, Reefer.deviation, Reefer.usedSetpoint, replaceStatus, Option.map]
          cases r.booked <;> rfl
    obtain ⟨t, r', hexec, hr', hpersist⟩ := persist_exec_reeferReport hfinds f
    rw [hdev] at hpersist
    refine ⟨t, r', hexec, hr', fun a ha habove => ?_, fun a ha hbelow => ?_, fun a ha hlo hhi => ?_, fun ha => ?_⟩
    · rw [hpersist, ha, nextPersist_above habove hcount]
    · rw [hpersist, ha, nextPersist_below hbelow]
    · rw [hpersist, ha, nextPersist_between hlo hhi]
    · rw [hpersist, ha, nextPersist_none]
  · refine ⟨fun hnone => ?_, fun r hr hother => ?_⟩
    · have hfree : ∀ r, s.reefers.get? j ≠ some r := fun r hr => by rw [hnone] at hr; cases hr
      obtain ⟨hzero, -⟩ := exec_keepsPersist htab (fun _ _ _ _ r _ _ _ hr => absurd hr (hfree r)) hexec r' hr'
      exact hzero hnone
    · obtain ⟨-, hsame⟩ :=
        exec_keepsPersist htab (fun tag f k c _ hi htag hcls _ => hother tag f k c hi htag hcls) hexec r' hr'
      exact hsame r hr

end Sys2Proof.Machine
end

section
/-! The queue of commands, the cold reset, and the laws right after it (R23, R47, R67, R91, R156, R167, R169, R171). -/

namespace Sys2Proof.Machine

/-- Settles O1: both clauses are the two equations of the step. -/
theorem stepRunsTheFrontCommand : Obligations.StepRunsTheFrontCommand := by
  refine ⟨fun c rest s h => ?_, fun s h => ?_⟩
  all_goals unfold step; rw [h]

/-! ### What the records read after a cold reset -/

theorem bank_get_replicate {α : Type} (x : α) (h : HeadIx) : (Vector.replicate 24 x).get h = x :=
  Vector.getElem_replicate h.isLt

@[simp] theorem head_reset (h : HeadIx) : State.reset.head h = Head.cold := bank_get_replicate ..
@[simp] theorem account_reset (h : HeadIx) : State.reset.account h = Account.cold := bank_get_replicate ..
@[simp] theorem pageQueue_reset (h : HeadIx) : State.reset.pageQueue h = [] := bank_get_replicate ..
@[simp] theorem pollWait_reset (h : HeadIx) : State.reset.pollWait h = [] := bank_get_replicate ..

theorem shadowAt_reset (h : HeadIx) (g : Segment) : State.reset.shadowAt h g = 0 :=
  (congrArg (Vector.get · g) (bank_get_replicate (Vector.replicate 64 0) h)).trans (Vector.getElem_replicate g.isLt)

theorem head_cold_ok : Head.cold.ok := by
  simp [Head.ok, Head.cold, Schedule.ok, Schedule.default, HeadState.inService, Config.capacity, Config.startFrames,
    Config.lockLimit, Config.holdoverLimit]

/-- Settles O3: each record of the state that a cold reset answers, read by its lemma. -/
theorem coldResetRestoresColdValues : Obligations.ColdResetRestoresColdValues := by
  intro s
  refine ⟨{ State.reset with pending := s.pending }, rfl, rfl, rfl, rfl, fun h => ?_, rfl, rfl, by decide, rfl, rfl,
    rfl, rfl, rfl, rfl, rfl, rfl, rfl, rfl, rfl, rfl, rfl, rfl, rfl, rfl, rfl, rfl, rfl⟩
  have hhead : (State.head { State.reset with pending := s.pending } h) = Head.cold := head_reset h
  have haccount : (State.account { State.reset with pending := s.pending } h) = Account.cold := account_reset h
  rw [hhead, haccount]
  refine ⟨rfl, rfl, rfl, rfl, pageQueue_reset h, pollWait_reset h, fun g => ?_⟩
  unfold State.shadowAt
  exact shadowAt_reset h g

/-- Settles O4: with empty tables and queues every law speaks of the cold records alone. -/
theorem resetMeetsEveryLaw : Obligations.ResetMeetsEveryLaw := by
  have hnil {α : Type} (p : α → Prop) : ∀ e ∈ ([] : List α), p e := List.forall_mem_nil p
  refine ⟨⟨Table.wf_nil _, Table.wf_nil _, Table.wf_nil _, .nil⟩, ⟨hnil _, hnil _, hnil _, hnil _, hnil _⟩,
    ⟨by unfold ParamSets.inRange; decide, hnil _⟩, hnil _, fun h => ?_, fun h => ?_, hnil _, ⟨fun h => ?_, fun h => ?_, hnil _⟩, hnil _, hnil _,
    ⟨?_, fun h => ?_, hnil _, hnil _, fun h => ?_⟩, ⟨fun h => ?_, ?_, fun h => ?_, hnil _⟩, ?_, ?_⟩
  · rw [head_reset]; exact head_cold_ok
  · rw [head_reset, account_reset]; decide
  · rw [account_reset]; exact .nil
  · rw [account_reset]; nofun
  · rw [List.flatMap_eq_nil_iff.mpr fun h _ => pollWait_reset h]; exact .nil
  · rw [pollWait_reset]; nofun
  · rw [account_reset]; rfl
  · rw [pageQueue_reset]; exact Nat.zero_le _
  · rw [List.flatMap_eq_nil_iff.mpr fun h _ => pageQueue_reset h]; exact .nil
  · rw [pageQueue_reset]; nofun
  · exact ⟨by decide, by decide, .nil, by decide, by decide⟩
  · unfold State.settingsLaw; decide

end Sys2Proof.Machine
end

section
/-! Messages that no owner is found for (R157, R169), requests that only read (R16, R17, R46, R79), and the targets of
requests (R12, R25, R158). -/

namespace Sys2Proof.Machine

/-! ### Events without an owner (R169) -/

section
variable {s : State} {tag : Tag}

theorem onReefer_of_findTag_none (h : s.findTag tag = none) (f : Nat → Reefer → State → State) :
    onReefer tag s f = s.unmatchedEvent (some tag) := by
  simp [onReefer, h]

theorem onReefer_of_other_class {k : Nat} {c : Context} (h : s.findTag tag = some (k, c)) (hc : c.cls ≠ .reefer)
    (f : Nat → Reefer → State → State) : onReefer tag s f = s.unmatchedEvent none := by
  simp [onReefer, h, hc]

theorem onHead_of_no_head {b : Byte} (h : 24 ≤ b.toNat) (s : State) (f : HeadIx → State → State) :
    onHead b s f = s.unmatchedEvent none := by
  simp [onHead, headOf_eq_none.mpr h]

theorem exec_measurementReport_of_findTag_none (h : s.findTag tag = none) (es : List MeasEntry) :
    exec (.measurementReport tag es) s = .next (s.unmatchedEvent (some tag)) := by
  change execMeasurementReport tag es s = _
  simp [execMeasurementReport, h]

theorem exec_craneUplink_of_findTag_none (h : s.findTag tag = none) (u : UplinkFields) :
    exec (.craneUplink tag u) s = .next (s.unmatchedEvent (some tag)) := by
  change execCraneUplink tag u s = _
  simp [execCraneUplink, h]

theorem exec_craneUplink_of_other_class {k : Nat} {c : Context} (h : s.findTag tag = some (k, c)) (hc : c.cls ≠ .crane)
    (u : UplinkFields) : exec (.craneUplink tag u) s = .next (s.unmatchedEvent none) := by
  change execCraneUplink tag u s = _
  simp [execCraneUplink, h, hc]

end

/-- Settles O24: the two requests by their definitions, each event by the routing that finds no owner. -/
theorem unreadableAndUnmatchedMessages : Obligations.UnreadableAndUnmatchedMessages := by
  refine ⟨fun _ _ _ => rfl, fun _ _ => rfl, fun s tag es u f b st short msg => ⟨rfl, fun hnone => ?_,
    fun k c htag hc => exec_craneUplink_of_other_class htag hc u, fun k c htag hc => ?_, fun hb => ?_⟩⟩
  · have hreefer := onReefer_of_findTag_none hnone
    simp only [List.forall_mem_cons, List.not_mem_nil, false_implies, implies_true, and_true]
    exact ⟨exec_measurementReport_of_findTag_none hnone es, exec_craneUplink_of_findTag_none hnone u,
      congrArg _ (hreefer _), congrArg _ (hreefer _), congrArg _ (hreefer _)⟩
  · have hreefer := onReefer_of_other_class htag hc
    simp only [List.forall_mem_cons, List.not_mem_nil, false_implies, implies_true, and_true]
    exact ⟨congrArg _ (hreefer _), congrArg _ (hreefer _), congrArg _ (hreefer _)⟩
  · have hhead := onHead_of_no_head hb s
    simp only [List.forall_mem_cons, List.not_mem_nil, false_implies, implies_true, and_true]
    exact ⟨congrArg _ (hhead _), congrArg _ (hhead _), congrArg _ (hhead _), congrArg _ (hhead _)⟩

/-! ### The targets of requests -/

section
variable {r : Request} {s : State} {k : Nat} {c : Context} {q : ReqKind} {os : Options}

theorem resolveContext_of_names (h : names r s k c) : resolveContext r s = .ok (k, c) := by
  unfold resolveContext
  obtain ⟨hform, rfl, hlt, hget⟩ | ⟨hform, htag⟩ := h
  · rw [if_pos hform, if_neg (Nat.not_le.mpr hlt), hget]
  · rw [if_neg (by simp [hform]), if_pos hform, htag]

/-- A request that names a context and carries an option list passes the checks of every class that serves it. -/
theorem contextTarget_of_names {cls : Option Class} (h : names r s k c) (ho : carries q r os)
    (hc : cls.all (· == c.cls) = true) : contextTarget q cls r s = .ok { opts := os, handle := k, ctx := c } :=
  contextTarget_ok.mpr ⟨ho, resolveContext_of_names h, hc⟩

theorem carries_bare (h : bare r) (hq : optionsRequired q = []) : carries q r [] := by
  unfold carries
  rw [h]
  exact checkOptions_bare hq

theorem headTarget_of_namesHead {h : HeadIx} (hr : namesHead r h) (ho : carries q r os) :
    headTarget q r = .ok (os, h) :=
  headTarget_ok.mpr ⟨ho, hr⟩

theorem partTarget_of_namesPart (hr : namesPart r) (ho : carries q r os) : partTarget q r = .ok os :=
  partTarget_ok.mpr ⟨ho, hr⟩

end

/-- Settles O25: each reading request by its target. -/
theorem readingRequestsChangeNothing : Obligations.ReadingRequestsChangeNothing := by
  refine fun r s hbare => ⟨fun k c hnames => ⟨?_, ?_⟩, fun h hhead => ⟨?_, ?_⟩⟩
  · change execFind r s = _
    rw [execFind, contextTarget_of_names hnames (carries_bare hbare rfl) rfl]
    rfl
  · change execRead r s = _
    rw [execRead, contextTarget_of_names hnames (carries_bare hbare rfl) rfl]
    rfl
  · change execHeadRead r s = _
    rw [execHeadRead, headTarget_of_namesHead hhead (carries_bare hbare rfl)]
    rfl
  · change execShadowRead r s = _
    rw [execShadowRead, headTarget_of_namesHead hhead (carries_bare hbare rfl)]
    rfl

/-! ### Requests that fail a check -/

section
variable {r : Request} {s : State} {q : ReqKind}

/-- The refusal of a request whose target was refused or not reached. -/
def unresolved (r : Request) (res : Result) : Refused := { result := res, identity := unresolvedIdentity r }

theorem contextTarget_of_options {cls : Option Class} {e : Result} (h : checkOptions q r.opts = .error e) :
    contextTarget q cls r s = .error (unresolved r e) := by
  simp [contextTarget, h, unresolved]

theorem headTarget_of_options {e : Result} (h : checkOptions q r.opts = .error e) :
    headTarget q r = .error (unresolved r e) := by
  simp [headTarget, h, unresolved]

theorem partTarget_of_options {e : Result} (h : checkOptions q r.opts = .error e) :
    partTarget q r = .error (unresolved r e) := by
  simp [partTarget, h, unresolved]

variable {os : Options}

theorem contextTarget_of_unresolved {cls : Option Class} {e : Result} (ho : carries q r os)
    (h : resolveContext r s = .error e) : contextTarget q cls r s = .error (unresolved r e) := by
  unfold carries at ho
  simp [contextTarget, ho, h, unresolved]

theorem contextTarget_of_wrong_class {cls : Class} {k : Nat} {c : Context} (ho : carries q r os) (h : names r s k c)
    (hc : c.cls ≠ cls) :
    contextTarget q (some cls) r s = .error { result := .wrongClass, identity := .context k c.tag } := by
  unfold carries at ho
  have hne : ¬ cls = c.cls := fun e => hc e.symm
  simp [contextTarget, ho, resolveContext_of_names h, hne]

theorem headTarget_of_not_head (ho : carries q r os) (h : ¬ (r.form = 0x02 ∧ r.target.toNat < 24)) :
    headTarget q r = .error (unresolved r .badOption) := by
  unfold carries at ho
  unfold headTarget
  rw [ho]
  exact dif_neg h

theorem partTarget_of_not_part (ho : carries q r os) (h : r.form ≠ 0x03) :
    partTarget q r = .error (unresolved r .badOption) := by
  unfold carries at ho
  unfold partTarget
  rw [ho]
  exact if_neg h

theorem resolveContext_of_high_handle (hf : r.form = 0x00) (h : 6144 ≤ r.target.toNat) :
    resolveContext r s = .error .badOption := by
  unfold resolveContext
  exact (if_pos hf).trans (if_pos h)

theorem resolveContext_of_free_slot (hf : r.form = 0x00) (hlt : r.target.toNat < 6144)
    (h : s.contexts.get? r.target.toNat = none) : resolveContext r s = .error .unknownTarget := by
  unfold resolveContext
  rw [if_pos hf, if_neg (show ¬ Config.contextSlots ≤ r.target.toNat from Nat.not_le.mpr hlt), h]

theorem resolveContext_of_unknown_tag (hf : r.form = 0x01) (h : s.findTag r.target = none) :
    resolveContext r s = .error .unknownTarget := by
  unfold resolveContext
  rw [if_neg (by simp [hf]), if_pos hf, h]

theorem resolveContext_of_other_form (h0 : r.form ≠ 0x00) (h1 : r.form ≠ 0x01) :
    resolveContext r s = .error .badOption := by
  unfold resolveContext
  rw [if_neg h0, if_neg h1]

end

/-! ### What each request does when its target is refused -/

/-- The requests whose target is a context. -/
def targetsContext : ReqKind → Bool
  | .find | .read | .amend | .retire | .craneStart | .setpoint | .craneStop | .craneResume | .craneRelease | .sideDown
  | .craneRead | .reeferRead | .reeferParams | .page => true
  | _ => false

/-- The requests whose target is a head. -/
def targetsHead : ReqKind → Bool
  | .headConfig | .headRead | .headClear | .sweepSet | .shadowSet | .shadowRead | .pollWindowSet => true
  | _ => false

/-- The requests whose target is the part. -/
def targetsPart : ReqKind → Bool
  | .attach | .classParams | .partConfig | .partStatus | .restart => true
  | _ => false

/-- The class that a request on a context serves, where it serves one alone. -/
def classServed : ReqKind → Option Class
  | .craneStart | .setpoint | .craneStop | .craneResume | .craneRelease | .sideDown | .craneRead => some .crane
  | .reeferRead | .reeferParams | .page => some .reefer
  | _ => none

/-- Every request has one form of target. -/
theorem targets_cases (q : ReqKind) : targetsContext q = true ∨ targetsHead q = true ∨ targetsPart q = true := by
  cases q <;> decide

section
variable {r : Request} {s : State} {e : Refused}

theorem craneTarget_of_error {q : ReqKind} (h : contextTarget q (some .crane) r s = .error e) :
    craneTarget q r s = .error e := by
  simp [craneTarget, h]

theorem reeferTarget_of_error {q : ReqKind} (h : contextTarget q (some .reefer) r s = .error e) :
    reeferTarget q r s = .error e := by
  simp [reeferTarget, h]

/-- A request on a context whose target fails its checks is refused, one case for each kind. -/
theorem exec_of_contextTarget_error {q : ReqKind} (hq : targetsContext q = true)
    (h : contextTarget q (classServed q) r s = .error e) : exec (q.command r) s = .next (refuse q r e s) := by
  have hcrane : classServed q = some .crane → craneTarget q r s = .error e := fun hs => craneTarget_of_error (hs ▸ h)
  have hreefer : classServed q = some .reefer → reeferTarget q r s = .error e := fun hs => reeferTarget_of_error (hs ▸ h)
  cases q with
  | find => change execFind r s = _; rw [execFind, show contextTarget .find none r s = _ from h]
  | read => change execRead r s = _; rw [execRead, show contextTarget .read none r s = _ from h]
  | amend => change execAmend r s = _; rw [execAmend, show contextTarget .amend none r s = _ from h]
  | retire => change execRetire r s = _; rw [execRetire, show contextTarget .retire none r s = _ from h]
  | craneStart => change execCraneStart r s = _; rw [execCraneStart, hcrane rfl]
  | setpoint => change execSetpoint r s = _; rw [execSetpoint, hcrane rfl]
  | craneStop => change execCraneStop r s = _; rw [execCraneStop, hcrane rfl]
  | craneResume => change execCraneResume r s = _; rw [execCraneResume, hcrane rfl]
  | craneRelease => change execCraneRelease r s = _; rw [execCraneRelease, hcrane rfl]
  | sideDown => change execSideDown r s = _; rw [execSideDown, hcrane rfl]
  | craneRead => change execCraneRead r s = _; rw [execCraneRead, hcrane rfl]
  | reeferRead => change execReeferRead r s = _; rw [execReeferRead, hreefer rfl]
  | reeferParams => change execReeferParams r s = _; rw [execReeferParams, hreefer rfl]
  | page => change execPage r s = _; rw [execPage, hreefer rfl]
  | _ => cases hq

/-- A request on a head whose target fails its checks is refused, one case for each kind. -/
theorem exec_of_headTarget_error {q : ReqKind} (hq : targetsHead q = true) (h : headTarget q r = .error e) :
    exec (q.command r) s = .next (refuse q r e s) := by
  cases q with
  | headConfig => change execHeadConfig r s = _; rw [execHeadConfig, h]
  | headRead => change execHeadRead r s = _; rw [execHeadRead, h]
  | headClear => change execHeadClear r s = _; rw [execHeadClear, h]
  | sweepSet => change execSweepSet r s = _; rw [execSweepSet, h]
  | shadowSet => change execShadowSet r s = _; rw [execShadowSet, h]
  | shadowRead => change execShadowRead r s = _; rw [execShadowRead, h]
  | pollWindowSet => change execPollWindowSet r s = _; rw [execPollWindowSet, h]
  | _ => cases hq

/-- A request on the part whose target fails its checks is refused, one case for each kind. -/
theorem exec_of_partTarget_error {q : ReqKind} (hq : targetsPart q = true) (h : partTarget q r = .error e) :
    exec (q.command r) s = .next (refuse q r e s) := by
  cases q with
  | attach => change execAttach r s = _; rw [execAttach, h]
  | classParams => change execClassParams r s = _; rw [execClassParams, h]
  | partConfig => change execPartConfig r s = _; rw [execPartConfig, h]
  | partStatus => change execPartStatus r s = _; rw [execPartStatus, h]
  | restart => change execRestart r s = _; rw [execRestart, h]
  | _ => cases hq

end

/-- Settles O23: the option list by the target form of the kind, then each way in which a target fails. -/
theorem optionFaultsComeBeforeTargetFaults : Obligations.OptionFaultsComeBeforeTargetFaults := by
  intro q r s refused
  refine ⟨fun e he => ?_, fun os hos => ⟨fun hq => ?_, fun hq hno => ?_, fun hq hno => ?_⟩⟩
  · obtain hq | hq | hq := targets_cases q
    · exact exec_of_contextTarget_error hq (contextTarget_of_options he)
    · exact exec_of_headTarget_error hq (headTarget_of_options he)
    · exact exec_of_partTarget_error hq (partTarget_of_options he)
  · have hctx : targetsContext q = true := by revert hq; cases q <;> decide
    have hun {res : Result} (h : resolveContext r s = .error res) : refused res :=
      exec_of_contextTarget_error hctx (contextTarget_of_unresolved hos h)
    refine ⟨fun hf h => hun (resolveContext_of_high_handle hf h), fun hf hlt h => hun (resolveContext_of_free_slot hf hlt h),
      fun hf h => hun (resolveContext_of_unknown_tag hf h), fun h0 h1 => hun (resolveContext_of_other_form h0 h1),
      fun n c hn hcls => ?_⟩
    obtain ⟨cls, hserved, hc⟩ : ∃ cls, classServed q = some cls ∧ c.cls ≠ cls := by
      obtain ⟨hk, hc⟩ | ⟨hk, hc⟩ := hcls
      · exact ⟨.crane, by revert hk; cases q <;> decide, hc⟩
      · exact ⟨.reefer, by revert hk; cases q <;> decide, hc⟩
    exact exec_of_contextTarget_error hctx (hserved ▸ contextTarget_of_wrong_class hos hn hc)
  · exact exec_of_headTarget_error (by revert hq; cases q <;> decide) (headTarget_of_not_head hos hno)
  · exact exec_of_partTarget_error (by revert hq; cases q <;> decide) (partTarget_of_not_part hos hno)

end Sys2Proof.Machine
end

section
/-! The messages of both links read back (Tables 11-1, 11-2 and 11-5), and the checks of an option list (R158). -/

namespace Sys2Proof.Machine

/-! ### Words, blocks and their bytes -/

theorem word16_bytes (w : BitVec 16) : word16 (w.extractLsb' 8 8) (w.extractLsb' 0 8) = w := by
  unfold word16
  rw [BitVec.extractLsb'_append_extractLsb'_eq_extractLsb' (by rfl)]
  simp

theorem word48_bytes (w : BitVec 48) :
    word48 (w.extractLsb' 40 8) (w.extractLsb' 32 8) (w.extractLsb' 24 8) (w.extractLsb' 16 8) (w.extractLsb' 8 8)
      (w.extractLsb' 0 8) = w := by
  unfold word48
  repeat rw [BitVec.extractLsb'_append_extractLsb'_eq_extractLsb' (by rfl)]
  simp

theorem block?_toList {n : Nat} (v : Vector Byte n) : block? n v.toList = some v := by
  simp [block?, Vector.toList]

/-! ### Requests -/

theorem ReqKind_ofCode_code (k : ReqKind) : ReqKind.ofCode k.code = some k := by
  cases k <;> rfl

theorem eq_command_of_asRequest {i : Instr} {k : ReqKind} {r : Request} (h : i.asRequest = some (k, r)) :
    i = k.command r := by
  cases i <;> cases h <;> rfl

/-- The header of a request reads back (Table 11-1). -/
theorem readRequest_bytes (k : Byte) (r : Request) :
    readRequest (r.bytes k) =
      match ReqKind.ofCode k with
      | some kind => kind.command r
      | none => .unknownRequestKind k r := by
  have htag := word16_bytes r.reqTag
  have htarget := word48_bytes r.target
  simp only [Request.bytes, bytes16, bytes48, List.cons_append, List.nil_append, readRequest, htag, htarget] <;> rfl

theorem readRequest_of_short {msg : List Byte} (h : msg.length < 10) :
    readRequest msg = .incompleteRequestHeader msg := by
  unfold readRequest
  split
  · simp only [List.length_cons] at h
    omega
  · rfl

/-- Settles O19: a request by its header, the other two by the checks that make them well formed. -/
theorem controlMessagesReadBack : Obligations.ControlMessagesReadBack := by
  intro i b hwf hb
  unfold requestBytes at hb
  split at hb
  · next k r hreq =>
    cases hb
    rw [readRequest_bytes, ReqKind_ofCode_code, eq_command_of_asRequest hreq]
  · split at hb
    · next k r _ =>
      cases hb
      have hnone : ReqKind.ofCode k = none := by simpa [Instr.WellFormed] using hwf
      rw [readRequest_bytes, hnone]
    · next msg _ =>
      cases hb
      exact readRequest_of_short (by simpa [Instr.WellFormed] using hwf)
    · cases hb

/-! ### Events -/

theorem readEntries_flatMap (es : List MeasEntry) :
    readEntries es.length (es.flatMap fun e => [e.head, e.sector, e.level]) = some es := by
  induction es with
  | nil => rfl
  | cons e es ih =>
    simp only [List.flatMap_cons, List.length_cons, List.cons_append, List.nil_append, readEntries, ih]
    rfl

theorem readEvent_of_some {msg : List Byte} {i : Instr} (h : readKnownEvent msg = some i) : readEvent msg = i := by
  rw [readEvent, h, Option.getD_some]

theorem readKnownEvent_measurementReport (tag : Tag) {es : List MeasEntry} (h : es.length ≤ 255) :
    readKnownEvent (0x10 :: (bytes48 tag ++ BitVec.ofNat 8 es.length :: es.flatMap fun e => [e.head, e.sector, e.level])) =
      some (.measurementReport tag es) := by
  have hlen : (BitVec.ofNat 8 es.length).toNat = es.length := by
    rw [BitVec.toNat_ofNat]
    exact Nat.mod_eq_of_lt (by omega)
  simp only [readKnownEvent, readFields, bytes48, List.cons_append, List.nil_append, if_pos, hlen,
    readEntries_flatMap, word48_bytes, Option.map_some]

theorem readKnownEvent_craneUplink (tag : Tag) (u : UplinkFields) :
    readKnownEvent (0x11 :: (bytes48 tag ++ u.head :: (if u.start then 1 else 0) ::
      (bytes16 u.seq ++ (u.feedback.toList ++ [u.frag.fst, u.frag.snd])))) = some (.craneUplink tag u) := by
  have hlen : u.feedback.toList.length = 16 := u.feedback.length_toList
  have htake : (u.feedback.toList ++ [u.frag.fst, u.frag.snd]).take 16 = u.feedback.toList :=
    List.take_left' hlen
  have hdrop : (u.feedback.toList ++ [u.frag.fst, u.frag.snd]).drop 16 = [u.frag.fst, u.frag.snd] :=
    List.drop_left' hlen
  have hstart : (if u.start then 1 else 0 : Byte).getLsbD 0 = u.start := by cases u.start <;> rfl
  simp only [readKnownEvent, readFields, bytes48, bytes16, List.cons_append, List.nil_append, htake, hdrop,
    block?_toList, word48_bytes, word16_bytes, hstart]
  rfl

/-- The presence byte of a reefer report holds its three bits (R174). -/
theorem getLsbD_presence (a b c : Bool) :
    ((if a then 1 else 0) + (if b then 2 else 0) + (if c then 4 else 0) : Byte).getLsbD 0 = a ∧
      ((if a then 1 else 0) + (if b then 2 else 0) + (if c then 4 else 0) : Byte).getLsbD 1 = b ∧
      ((if a then 1 else 0) + (if b then 2 else 0) + (if c then 4 else 0) : Byte).getLsbD 2 = c := by
  revert a b c
  decide

/-- The two bytes of an optional field, and what its presence bit makes of them. -/
theorem fieldBytes_spec (o : Option (BitVec 16)) :
    ∃ a b, fieldBytes o = [a, b] ∧ presentField o.isSome a b = o := by
  cases o with
  | none => exact ⟨0, 0, rfl, rfl⟩
  | some w => exact ⟨_, _, rfl, congrArg some (word16_bytes w)⟩

theorem readKnownEvent_reeferReport (tag : Tag) (f : ReportFields) :
    readKnownEvent (0x12 :: (bytes48 tag ++ f.head ::
      (((if f.supply.isSome then 1 else 0) + (if f.ret.isSome then 2 else 0) + (if f.setpoint.isSome then 4 else 0)) ::
        (fieldBytes f.supply ++ (fieldBytes f.ret ++ (fieldBytes f.setpoint ++ (bytes16 f.flags ++ [f.power]))))))) =
      some (.reeferReport tag f) := by
  obtain ⟨s1, s0, hs, hsupply⟩ := fieldBytes_spec f.supply
  obtain ⟨r1, r0, hr, hret⟩ := fieldBytes_spec f.ret
  obtain ⟨t1, t0, ht, hsetpoint⟩ := fieldBytes_spec f.setpoint
  obtain ⟨b0, b1, b2⟩ := getLsbD_presence f.supply.isSome f.ret.isSome f.setpoint.isSome
  rw [hs, hr, ht]
  simp only [readKnownEvent, readFields, bytes48, bytes16, List.cons_append, List.nil_append, word48_bytes, word16_bytes,
    b0, b1, b2, hsupply, hret, hsetpoint]
  rfl

/-- Settles O20: one case for each kind of event of Table 11-5. -/
theorem eventMessagesReadBack : Obligations.EventMessagesReadBack := by
  intro i b hwf hb
  cases i with
  | measurementReport tag es =>
    cases hb
    exact readEvent_of_some (readKnownEvent_measurementReport tag (by simpa [Instr.WellFormed] using hwf))
  | craneUplink tag u => cases hb; exact readEvent_of_some (readKnownEvent_craneUplink tag u)
  | reeferReport tag f => cases hb; exact readEvent_of_some (readKnownEvent_reeferReport tag f)
  | dozeAck tag h st | pageAnswer tag h =>
    cases hb
    refine readEvent_of_some ?_
    simp only [readKnownEvent, readFields, bytes48, List.cons_append, List.nil_append, word48_bytes]
    rfl
  | headUp h | syncLock h | syncLost h => cases hb; rfl
  | lineFault h short => cases hb; cases short <;> rfl
  | unknownEventKind msg =>
    cases hb
    have hnone : readKnownEvent b = none := by simpa [Instr.WellFormed] using hwf
    rw [readEvent, hnone, Option.getD_none]
  | _ => cases hb

/-! ### Option lists (Table 11-2, R158) -/

theorem Opt_ofCode_code (o : Opt) : Opt.ofCode o.code = some o := by
  cases o <;> rfl

theorem Opt_code_ne_zero (o : Opt) : o.code ≠ 0 := by
  cases o <;> decide

/-- The bytes of the entries of an option list, END left out. -/
def entryBytes (os : Options) : List Byte := os.flatMap fun e => e.1.code :: BitVec.ofNat 8 e.2.length :: e.2

/-- The entries of an option list as the reader gives them, their codes not yet named. -/
def rawEntries (os : Options) : List (Byte × List Byte) := os.map fun e => (e.1.code, e.2)

theorem write_eq (os : Options) : os.write = entryBytes os ++ [0] := by
  induction os with
  | nil => rfl
  | cons e os ih =>
    obtain ⟨o, v⟩ := e
    rw [Options.write, ih]
    simp [entryBytes]

theorem length_le_length_entryBytes (os : Options) : os.length ≤ (entryBytes os).length := by
  induction os with
  | nil => exact Nat.le_refl 0
  | cons e os ih =>
    simp only [entryBytes, List.flatMap_cons, List.length_append, List.length_cons] at ih ⊢
    omega

/-- One entry is read, and then the rest. -/
theorem readOptions_entry {c : Byte} (hc : c ≠ 0) {v : List Byte} (hv : v.length < 256) (fuel : Nat) (l : List Byte) :
    readOptions (fuel + 1) (c :: BitVec.ofNat 8 v.length :: (v ++ l)) =
      (readOptions fuel l).map fun es => (c, v) :: es := by
  have hlen : (BitVec.ofNat 8 v.length).toNat = v.length := by
    rw [BitVec.toNat_ofNat]
    exact Nat.mod_eq_of_lt hv
  have hshort : ¬ (v ++ l).length < v.length := by
    rw [List.length_append]
    omega
  simp only [readOptions, if_neg hc, hlen, if_neg hshort, List.take_left, List.drop_left]

/-- The entries written are read, and then what follows them. -/
theorem readOptions_entryBytes {os : Options} (hos : ∀ e ∈ os, e.2.length < 256) (fuel : Nat) (l : List Byte) :
    readOptions (fuel + os.length) (entryBytes os ++ l) = (readOptions fuel l).map fun es => rawEntries os ++ es := by
  induction os with
  | nil => exact (Option.map_id' ..).symm
  | cons e os ih =>
    obtain ⟨o, v⟩ := e
    obtain ⟨hv, hrest⟩ := List.forall_mem_cons.mp hos
    have hbytes : entryBytes ((o, v) :: os) ++ l =
        o.code :: BitVec.ofNat 8 v.length :: (v ++ (entryBytes os ++ l)) := by simp [entryBytes]
    rw [hbytes, List.length_cons, ← Nat.add_assoc, readOptions_entry (Opt_code_ne_zero o) hv, ih hrest, Option.map_map]
    rfl

theorem nameOptions_rawEntries (os : Options) : nameOptions (rawEntries os) = some os := by
  induction os with
  | nil => rfl
  | cons e os ih =>
    simp only [rawEntries, List.map_cons, nameOptions, Opt_ofCode_code] at ih ⊢
    rw [ih]

/-- An entry whose code names no option leaves its list without names. -/
theorem nameOptions_of_unknown {c : Byte} (hc : Opt.ofCode c = none) (pre : List (Byte × List Byte)) (v : List Byte)
    (rest : List (Byte × List Byte)) : nameOptions (pre ++ (c, v) :: rest) = none := by
  induction pre with
  | nil => simp [nameOptions, hc]
  | cons e pre ih => simp [nameOptions, ih]

theorem checkOptions_of_unread {k : ReqKind} {l : List Byte} (h : readOptions (l.length + 1) l = none) :
    checkOptions k l = .error .badOption := by
  rw [checkOptions, h]

theorem checkOptions_of_unnamed {k : ReqKind} {l : List Byte}
    (h : ∀ raw, readOptions (l.length + 1) l = some raw → nameOptions raw = none) :
    checkOptions k l = .error .badOption := by
  unfold checkOptions
  cases hread : readOptions (l.length + 1) l with
  | none => rfl
  | some raw => simp only [h raw hread]

section
variable {os : Options} (hos : ∀ e ∈ os, e.2.length < 256)
include hos

/-- What the reader makes of entries and what follows them, on the fuel that the checks give it. -/
theorem exists_readOptions_entryBytes (l : List Byte) :
    ∃ fuel, readOptions ((entryBytes os ++ l).length + 1) (entryBytes os ++ l) =
      (readOptions (fuel + 1) l).map fun es => rawEntries os ++ es := by
  have hle := length_le_length_entryBytes os
  refine ⟨(entryBytes os).length - os.length + l.length, ?_⟩
  rw [← readOptions_entryBytes hos]
  congr 1
  rw [List.length_append]
  omega

theorem readOptions_write : readOptions (os.write.length + 1) os.write = some (rawEntries os) := by
  obtain ⟨fuel, h⟩ := exists_readOptions_entryBytes hos [0]
  rw [write_eq, h]
  simp [readOptions]

theorem readOptions_of_no_end : readOptions (os.write.dropLast.length + 1) os.write.dropLast = none := by
  obtain ⟨fuel, h⟩ := exists_readOptions_entryBytes hos []
  rw [List.append_nil] at h
  rw [write_eq, List.dropLast_concat, h]
  rfl

theorem readOptions_of_byte_behind_end (b : Byte) (l : List Byte) :
    readOptions ((os.write ++ b :: l).length + 1) (os.write ++ b :: l) = none := by
  obtain ⟨fuel, h⟩ := exists_readOptions_entryBytes hos (0 :: b :: l)
  rw [write_eq, List.append_assoc, List.singleton_append, h]
  simp [readOptions]

theorem nameOptions_of_unknown_code {c : Byte} (hc : c ≠ 0) (hno : Opt.ofCode c = none) {v : List Byte}
    (hv : v.length < 256) (l : List Byte) (raw : List (Byte × List Byte))
    (h : readOptions ((os.write.dropLast ++ c :: BitVec.ofNat 8 v.length :: (v ++ l)).length + 1)
      (os.write.dropLast ++ c :: BitVec.ofNat 8 v.length :: (v ++ l)) = some raw) : nameOptions raw = none := by
  obtain ⟨fuel, hread⟩ := exists_readOptions_entryBytes hos (c :: BitVec.ofNat 8 v.length :: (v ++ l))
  rw [write_eq, List.dropLast_concat, hread, readOptions_entry hc hv, Option.map_map] at h
  obtain ⟨rest, -, rfl⟩ := Option.map_eq_some_iff.mp h
  exact nameOptions_of_unknown hno ..

end

/-- Settles O21: what the reader makes of entries written and of what follows them. -/
theorem optionListsMeetTheChecksInOrder : Obligations.OptionListsMeetTheChecksInOrder := by
  refine fun k os hos => ⟨?_, checkOptions_of_unread (readOptions_of_no_end hos),
    fun b l => checkOptions_of_unread (readOptions_of_byte_behind_end hos b l),
    fun c v l hc hno hv => checkOptions_of_unnamed (nameOptions_of_unknown_code hos hc hno hv l)⟩
  simp only [checkOptions, readOptions_write hos, nameOptions_rawEntries]

end Sys2Proof.Machine
end

section
/-! The outgoing sides: which message goes out next (R160, R163, R170), what posting a notice does (R162), and the bytes
of replies, notices and orders (R173, R174). -/

namespace Sys2Proof.Machine

/-! ### Posting (R162) -/

section
variable {s : State} {sub : Subject} {content : NoticeContent}

theorem matches_iff {a b : Notice} : a.matches b = true ↔ a.subject = b.subject ∧ a.content.kind = b.content.kind := by
  simp [Notice.matches]

/-- A notice of one kind and subject is replaced where it stands. -/
theorem post_of_one {before behind : List Notice} {m : Notice} (hq : s.notices = before ++ m :: behind)
    (hm : m.matches { subject := sub, content := content } = true)
    (hother : ∀ m' ∈ before ++ behind, m'.matches { subject := sub, content := content } = false) :
    s.post sub content =
      { s with notices := before ++ { subject := sub, content := content } :: behind } := by
  have hsame : ∀ l : List Notice, (∀ m' ∈ l, m'.matches { subject := sub, content := content } = false) →
      l.map (fun m' => if m'.matches { subject := sub, content := content } then
        { subject := sub, content := content } else m') = l := by
    intro l hl
    refine (List.map_congr_left fun m' hm' => ?_).trans (List.map_id l)
    rw [hl m' hm']
    rfl
  have hmap : s.notices.map (fun m' => if m'.matches { subject := sub, content := content } then
      { subject := sub, content := content } else m') = before ++ { subject := sub, content := content } :: behind := by
    rw [hq, List.map_append, List.map_cons, hm, hsame before fun m' h => hother m' (List.mem_append_left _ h),
      hsame behind fun m' h => hother m' (List.mem_append_right _ h)]
    rfl
  rcases s.post_cases sub content with ⟨-, h⟩ | ⟨hno, -, -⟩ | ⟨hno, -, -⟩
  · rw [h, hmap]
  all_goals
    have := hno m (by simp [hq])
    rw [hm] at this
    cases this

theorem post_of_room (hno : ∀ m ∈ s.notices, m.matches { subject := sub, content := content } = false)
    (hroom : s.notices.length < 512) :
    s.post sub content = { s with notices := s.notices ++ [{ subject := sub, content := content }] } := by
  rcases s.post_cases sub content with ⟨⟨m, hm, hmatch⟩, -⟩ | ⟨-, -, h⟩ | ⟨-, hfull, -⟩
  · rw [hno m hm] at hmatch
    cases hmatch
  · exact h
  · exact absurd hfull (Nat.not_le.mpr hroom)

theorem post_of_full (hno : ∀ m ∈ s.notices, m.matches { subject := sub, content := content } = false)
    (hfull : 512 ≤ s.notices.length) : s.post sub content = { s with overflow := true } := by
  rcases s.post_cases sub content with ⟨⟨m, hm, hmatch⟩, -⟩ | ⟨-, hroom, -⟩ | ⟨-, -, h⟩
  · rw [hno m hm] at hmatch
    cases hmatch
  · exact absurd hfull (Nat.not_le.mpr hroom)
  · exact h

end

/-! ### Bytes -/

theorem u16_eq (n : Nat) : u16 n = [BitVec.ofNat 8 (n / 256), BitVec.ofNat 8 n] := by
  simp [u16, beBytes]

theorem u8_eq (n : Nat) : u8 n = [BitVec.ofNat 8 n] := by
  simp [u8, beBytes]

/-- A 16-bit word in bytes is its number in two bytes. -/
theorem bytes16_eq (w : BitVec 16) : bytes16 w = [BitVec.ofNat 8 (w.toNat / 256), BitVec.ofNat 8 w.toNat] := by
  have hhigh : w.extractLsb' 8 8 = BitVec.ofNat 8 (w.toNat / 256) :=
    BitVec.eq_of_toNat_eq (by simp [Nat.shiftRight_eq_div_pow])
  have hlow : w.extractLsb' 0 8 = BitVec.ofNat 8 w.toNat := BitVec.eq_of_toNat_eq (by simp)
  rw [bytes16, hhigh, hlow]

/-- A head index in two bytes has a zero first. -/
theorem u16_head (h : HeadIx) : u16 h.val = [0, BitVec.ofNat 8 h.val] := by
  rw [u16_eq, Nat.div_eq_of_lt (by have := h.isLt; omega)]
  rfl

theorem u16_part : u16 0xFFFF = [0xFF, 0xFF] := by decide

theorem reply_bytes_eq (a : Reply) (res : Byte) (hres : a.result.code = res) :
    a.bytes =
      [0x01, a.kind] ++ [BitVec.ofNat 8 (a.reqTag.toNat / 256), BitVec.ofNat 8 a.reqTag.toNat] ++
        [res, (if a.clamped then 1 else 0) + (match a.identity with
          | .context _ _ | .head _ => 2
          | .part | .asGiven _ => 0)] ++
        (match a.identity with
          | .context k tag => [BitVec.ofNat 8 (k / 256), BitVec.ofNat 8 k] ++ bytes48 tag
          | .head h => [0, BitVec.ofNat 8 h.val] ++ bytes48 0
          | .part => [0xFF, 0xFF] ++ bytes48 0
          | .asGiven v => [0xFF, 0xFF] ++ bytes48 v) ++ a.body := by
  rw [Reply.bytes, bytes16_eq, hres]
  cases a.identity with
  | context k tag => simp [Identity.bytes, Identity.resolved, u16_eq]
  | head h => simp [Identity.bytes, Identity.resolved, u16_head]
  | part => simp [Identity.bytes, Identity.resolved, u16_part]
  | asGiven v => simp [Identity.bytes, Identity.resolved, u16_part]

theorem notice_bytes_eq (s : State) (m : Notice) {kind : Byte} (hkind : m.content.kind.code = kind) {body : List Byte}
    (hbody : m.content.bytes = body) :
    m.bytes s =
      [0x02, kind] ++
        (match m.subject with
          | .context k =>
            [BitVec.ofNat 8 (k / 256), BitVec.ofNat 8 k] ++ [0, 0, 0, 0] ++
              bytes48 (((s.contexts.get? k).map (·.tag)).getD 0)
          | .head h => [0, BitVec.ofNat 8 h.val] ++ [2, 0, 0, 0] ++ bytes48 0) ++ body := by
  rw [Notice.bytes, hkind, hbody]
  cases m.subject with
  | context k => cases hc : s.contexts.get? k <;> simp [u16_eq, hc]
  | head h => simp [u16_head]

/-- Settles O60: the three lines by their definitions, posting by its three cases, and the bytes of each message with
its codes as the places of the manual's tables. -/
theorem linesSendTheOldestMessage : Obligations.LinesSendTheOldestMessage := by
  refine ⟨fun s => ⟨fun a rest h => ⟨?_, ?_⟩, fun h => ?_, fun n rest hr h => ?_, fun h => ?_, fun o rest h => ?_,
    fun h => ?_, fun sub content => ?_⟩, ?_⟩
  · change execReplySend s = _
    rw [execReplySend, h]
  · change execNoticeSend s = _
    rw [execNoticeSend, h]
  · change execReplySend s = _
    rw [execReplySend, h]
  · change execNoticeSend s = _
    rw [execNoticeSend, hr, h]
  · change execNoticeSend s = _
    unfold execNoticeSend
    rw [h]
    split
    · next hcons => cases hcons
    · rfl
  · change execOrderSend s = _
    rw [execOrderSend, h]
  · change execOrderSend s = _
    rw [execOrderSend, h]
  · intro n same
    have hsame {m : Notice} (h : ¬ same m) : m.matches n = false := by
      rw [Bool.eq_false_iff]
      exact fun h' => h (matches_iff.mp h')
    exact ⟨fun before m behind hq hm hno => post_of_one hq (matches_iff.mpr hm) fun m' h => hsame (hno m' h),
      fun hno hroom => post_of_room (fun m h => hsame (hno m h)) hroom,
      fun hno hfull => post_of_full (fun m h => hsame (hno m h)) hfull⟩
  · intro two six head nth result notice ending safe doze alarm
    have hresult (r : Result) : r.code = result r := by cases r <;> rfl
    have hnotice (k : NoticeKind) : k.code = notice k := by cases k <;> rfl
    have hending (c : HandoverCause) : c.code = ending c := by cases c <;> rfl
    have hsafe (c : Option SafeCause) : safeCauseByte c = safe c := by
      cases c with
      | none => rfl
      | some c => cases c <;> rfl
    have hdoze (d : Doze) : d.code = doze d := by cases d <;> rfl
    have halarm (c : AlarmClass) : c.code = alarm c := by cases c <;> rfl
    have hlink (x : LinkState) : x.code = nth [LinkState.idle, .running, .holding, .safeStop] x := by cases x <;> rfl
    have hcontact (x : Contact) : x.code = nth [Contact.reachable, .unreachable] x := by cases x <;> rfl
    have hstate (x : HeadState) : x.code = nth [HeadState.offline, .starting, .active, .holdover, .faulted] x := by
      cases x <;> rfl
    have hcause (x : FaultCause) :
        x.code = nth [FaultCause.none, .lineOpen, .lineShort, .noLock, .holdoverExpired] x := by
      cases x <;> rfl
    have htwo (n : Nat) : u16 n = two n := u16_eq n
    have htwo16 (w : BitVec 16) : bytes16 w = two w.toNat := bytes16_eq w
    have hsix (w : BitVec 48) : bytes48 w = six w := rfl
    have hhead (h : HeadIx) : headField h = [head h] := u8_eq _
    have hmark (b : Bool) : mark b = [if b then 1 else 0] := rfl
    refine ⟨fun a => reply_bytes_eq a _ (hresult _), fun m s => ?_,
      fun h new tag current switchTo from_ side body x deep => ⟨?_, ?_, ?_, ?_, ?_, ?_, ?_, ?_⟩⟩
    · refine notice_bytes_eq s m (hnotice _) ?_
      cases m.content with
      | handoverDone old new cause => cases old <;> simp [NoticeContent.bytes, optField, hhead, hending]
      | handoverFailed serving target cause => cases serving <;> simp [NoticeContent.bytes, headByte, hhead, hending, head]
      | handoverBlocked h => exact hhead h
      | serveLost => rfl
      | craneState st cause => simp [NoticeContent.bytes, hlink, hsafe]
      | sideBlock b => rfl
      | reeferClass new old supply used dev persist flags =>
        cases supply <;> cases used <;> cases dev <;>
          simp [NoticeContent.bytes, optField, tempField, i16, hmark, halarm, htwo, htwo16, u8_eq]
      | reeferContact contact d => simp [NoticeContent.bytes, hcontact, hdoze]
      | headState st cause e => simp [NoticeContent.bytes, hstate, hcause, u8_eq]
    · rcases current with _ | ⟨sp, _ | _⟩ <;> cases body <;> cases switchTo <;> cases side <;>
        simp [Order.bytes, hhead, hsix, hsafe, htwo16, headByte, setpointField, u8_eq, head]
    · cases from_ <;> simp [Order.bytes, hhead, hsix, headByte, head]
    · simp [Order.bytes, hhead, hsix]
    · simp [Order.bytes, hhead, slotByte]
    · simp [Order.bytes, hhead, slotByte]
    · simp [Order.bytes, hhead, hsix]
    · simp [Order.bytes, hhead, hsix]
    · simp [Order.bytes, hhead, hsix]

end Sys2Proof.Machine
end

section
/-! What a request can answer (R159, R160): a refusal, whose reply is its only effect, or the reply of a request taken. -/

namespace Sys2Proof.Machine

/-- What a request of kind `q` makes of `s`: a reply without content and nothing else; or an effect with a reply DONE or
REPLACED behind it; or, for a long request, an effect that makes at most the reply of a request replaced due. -/
def AnsweredFrom (q : ReqKind) (r : Request) (s t : State) : Prop :=
  (∃ res i, t = answer q r res false i [] s) ∨
    (∃ u res c i b, (res = .done ∨ res = .replaced) ∧ t = answer q r res c i b u) ∨
    t.replies = s.replies ∨ ∃ a, t.replies = s.replies ++ [a] ∧ a.result = .replaced

/-- Every next state that a request answers is one of these. -/
def Answers (q : ReqKind) (r : Request) (s : State) (o : Out) : Prop := ∀ t, o = .next t → AnsweredFrom q r s t

section
variable {q : ReqKind} {r : Request} {s u : State}

theorem answers_refuse (e : Refused) : Answers q r s (.next (refuse q r e s)) := by
  rintro t ⟨⟩
  exact .inl ⟨_, _, rfl⟩

theorem answers_at_once {res : Result} {i : Identity} : Answers q r s (.next (answer q r res false i [] s)) := by
  rintro t ⟨⟩
  exact .inl ⟨_, _, rfl⟩

theorem answers_done {c : Bool} {i : Identity} {b : List Byte} : Answers q r s (.next (answer q r .done c i b u)) := by
  rintro t ⟨⟩
  exact .inr (.inl ⟨_, _, _, _, _, .inl rfl, rfl⟩)

/-- The result of writing a next setpoint is DONE or REPLACED (R97, R104). -/
theorem answers_writeResult {k : CraneLink} {c : Bool} {i : Identity} {b : List Byte} :
    Answers q r s (.next (answer q r k.writeResult c i b u)) := by
  rintro t ⟨⟩
  refine .inr (.inl ⟨_, _, _, _, _, ?_, rfl⟩)
  unfold CraneLink.writeResult
  split
  · exact .inr rfl
  · exact .inl rfl

theorem answers_later (h : u.replies = s.replies ∨ ∃ a, u.replies = s.replies ++ [a] ∧ a.result = .replaced) :
    Answers q r s (.next u) := by
  rintro t ⟨⟩
  exact .inr (.inr h)

end

/-! ### Long requests -/

section
variable (s : State)

theorem replies_endOldest_cases (p : InFlight → Bool) (res : Result) :
    (s.endOldest p res).replies = s.replies ∨
      ∃ a, (s.endOldest p res).replies = s.replies ++ [a] ∧ a.result = res := by
  rcases s.endOldest_cases p res with ⟨-, h⟩ | ⟨e, -, h⟩
  · exact .inl (by rw [h])
  · exact .inr ⟨_, by rw [h], rfl⟩

theorem replies_endNewest_cases (p : InFlight → Bool) (res : Result) :
    (s.endNewest p res).replies = s.replies ∨
      ∃ a, (s.endNewest p res).replies = s.replies ++ [a] ∧ a.result = res := by
  unfold State.endNewest
  split
  · exact .inl rfl
  · exact .inr ⟨_, rfl, rfl⟩

theorem LinkFrame.replies_eq {s t : State} (h : LinkFrame s t) : t.replies = s.replies := by
  rw [LinkFrame] at h
  rw [h]

theorem replies_takeCraneRelease (handle l : Nat) (t : ReqTag) :
    (takeCraneRelease handle l t s).replies = s.replies :=
  (State.cancelHandover_frame _ l .released).replies_eq

theorem replies_placeBlock_cases (handle l : Nat) (b : Bytes48) (t : ReqTag) (k : CraneLink) :
    (s.placeBlock handle l b t k).replies = s.replies ∨
      ∃ a, (s.placeBlock handle l b t k).replies = s.replies ++ [a] ∧ a.result = .replaced := by
  unfold State.placeBlock
  split
  · exact .inl rfl
  · exact .inl rfl
  · exact replies_endNewest_cases ..

theorem replies_stage_cases (h : HeadIx) (t : ReqTag) (p : Clamped Schedule) :
    (s.stage h t p).replies = s.replies ∨
      ∃ a, (s.stage h t p).replies = s.replies ++ [a] ∧ a.result = .replaced := by
  unfold State.stage
  dsimp only [State.joinInflight_replies, State.modHead_replies]
  split
  · exact replies_endOldest_cases ..
  · exact .inl rfl

end

/-! ### What each request answers -/

section
variable (r : Request) (s : State)

theorem answers_attach : Answers .attach r s (execAttach r s) := by
  unfold execAttach
  split
  · exact answers_refuse _
  · split
    · exact answers_refuse _
    · exact answers_done

theorem answers_find : Answers .find r s (execFind r s) := by
  unfold execFind
  split
  · exact answers_refuse _
  · exact answers_done

theorem answers_read : Answers .read r s (execRead r s) := by
  unfold execRead
  split
  · exact answers_refuse _
  · exact answers_done

theorem answers_amend : Answers .amend r s (execAmend r s) := by
  unfold execAmend
  split
  · exact answers_refuse _
  · split
    · exact answers_refuse _
    · exact answers_done

theorem answers_retire : Answers .retire r s (execRetire r s) := by
  unfold execRetire
  split
  · exact answers_refuse _
  · split
    · exact answers_refuse _
    · exact answers_done

theorem answers_craneStart : Answers .craneStart r s (execCraneStart r s) := by
  unfold execCraneStart
  split
  · exact answers_refuse _
  · split
    · exact answers_refuse _
    · dsimp only
      split
      · exact answers_refuse _
      · exact answers_done

theorem answers_setpoint : Answers .setpoint r s (execSetpoint r s) := by
  unfold execSetpoint
  split
  · exact answers_refuse _
  · split
    · exact answers_refuse _
    · split
      case h_1 | h_2 => exact answers_writeResult
      case h_3 | h_4 => exact answers_refuse _

theorem answers_craneStop : Answers .craneStop r s (execCraneStop r s) := by
  unfold execCraneStop
  split
  · exact answers_refuse _
  · split
    · exact answers_refuse _
    · exact answers_done

theorem answers_craneResume : Answers .craneResume r s (execCraneResume r s) := by
  unfold execCraneResume
  split
  · exact answers_refuse _
  · split
    · exact answers_refuse _
    · split
      · exact answers_refuse _
      · exact answers_writeResult

theorem answers_craneRelease : Answers .craneRelease r s (execCraneRelease r s) := by
  unfold execCraneRelease
  split
  · exact answers_refuse _
  · split
    · exact answers_refuse _
    · exact answers_later (.inl (replies_takeCraneRelease ..))

theorem answers_sideDown : Answers .sideDown r s (execSideDown r s) := by
  unfold execSideDown
  split
  · exact answers_refuse _
  · split
    · exact answers_refuse _
    · split
      · exact answers_refuse _
      · exact answers_later (replies_placeBlock_cases ..)

theorem answers_craneRead : Answers .craneRead r s (execCraneRead r s) := by
  unfold execCraneRead
  split
  · exact answers_refuse _
  · exact answers_done

theorem answers_reeferRead : Answers .reeferRead r s (execReeferRead r s) := by
  unfold execReeferRead
  split
  · exact answers_refuse _
  · exact answers_done

theorem answers_reeferParams : Answers .reeferParams r s (execReeferParams r s) := by
  unfold execReeferParams
  split
  · exact answers_refuse _
  · split
    · exact answers_refuse _
    · exact answers_done

theorem answers_page : Answers .page r s (execPage r s) := by
  unfold execPage
  split
  · exact answers_refuse _
  · split
    · exact answers_refuse _
    · split
      · exact answers_at_once
      · exact answers_refuse _
      · exact answers_later (.inl rfl)
      · exact answers_later (.inl rfl)

theorem answers_headConfig : Answers .headConfig r s (execHeadConfig r s) := by
  unfold execHeadConfig
  split
  · exact answers_refuse _
  · split
    · exact answers_refuse _
    · exact answers_done

theorem answers_headRead : Answers .headRead r s (execHeadRead r s) := by
  unfold execHeadRead
  split
  · exact answers_refuse _
  · exact answers_done

theorem answers_headClear : Answers .headClear r s (execHeadClear r s) := by
  unfold execHeadClear
  split
  · exact answers_refuse _
  · split
    · exact answers_done
    · exact answers_refuse _

theorem answers_sweepSet : Answers .sweepSet r s (execSweepSet r s) := by
  unfold execSweepSet
  split
  · exact answers_refuse _
  · split
    · exact answers_refuse _
    · split
      · exact answers_refuse _
      · dsimp only
        split
        · exact answers_later (replies_stage_cases ..)
        · exact answers_done

theorem answers_shadowSet : Answers .shadowSet r s (execShadowSet r s) := by
  unfold execShadowSet
  split
  · exact answers_refuse _
  · split
    · exact answers_refuse _
    · exact answers_done

theorem answers_shadowRead : Answers .shadowRead r s (execShadowRead r s) := by
  unfold execShadowRead
  split
  · exact answers_refuse _
  · exact answers_done

theorem answers_classParams : Answers .classParams r s (execClassParams r s) := by
  unfold execClassParams
  split
  · exact answers_refuse _
  · split
    · exact answers_refuse _
    · exact answers_done

theorem answers_pollWindowSet : Answers .pollWindowSet r s (execPollWindowSet r s) := by
  unfold execPollWindowSet
  split
  · exact answers_refuse _
  · exact answers_done

theorem answers_partConfig : Answers .partConfig r s (execPartConfig r s) := by
  unfold execPartConfig
  split
  · exact answers_refuse _
  · dsimp only
    split
    · exact answers_done
    · exact answers_refuse _

theorem answers_partStatus : Answers .partStatus r s (execPartStatus r s) := by
  unfold execPartStatus
  split
  · exact answers_refuse _
  · exact answers_done

theorem answers_restart : Answers .restart r s (execRestart r s) := by
  unfold execRestart
  split
  · exact answers_refuse _
  · exact answers_done

/-- What a request answers, one case for each kind. -/
theorem answers_request (q : ReqKind) : Answers q r s (exec (q.command r) s) := by
  cases q with
  | attach => exact answers_attach r s
  | find => exact answers_find r s
  | read => exact answers_read r s
  | amend => exact answers_amend r s
  | retire => exact answers_retire r s
  | craneStart => exact answers_craneStart r s
  | setpoint => exact answers_setpoint r s
  | craneStop => exact answers_craneStop r s
  | craneResume => exact answers_craneResume r s
  | craneRelease => exact answers_craneRelease r s
  | sideDown => exact answers_sideDown r s
  | craneRead => exact answers_craneRead r s
  | reeferRead => exact answers_reeferRead r s
  | reeferParams => exact answers_reeferParams r s
  | page => exact answers_page r s
  | headConfig => exact answers_headConfig r s
  | headRead => exact answers_headRead r s
  | headClear => exact answers_headClear r s
  | sweepSet => exact answers_sweepSet r s
  | shadowSet => exact answers_shadowSet r s
  | shadowRead => exact answers_shadowRead r s
  | classParams => exact answers_classParams r s
  | pollWindowSet => exact answers_pollWindowSet r s
  | partConfig => exact answers_partConfig r s
  | partStatus => exact answers_partStatus r s
  | restart => exact answers_restart r s

end

/-- Settles O22: of what a request can answer, a reply other than DONE and REPLACED is a refusal's. -/
theorem refusedRequestsChangeNothing : Obligations.RefusedRequestsChangeNothing := by
  intro q r s t a hexec hreplies hdone hreplaced
  rcases answers_request r s q t hexec with ⟨res, i, rfl⟩ | ⟨u, res, c, i, b, hres, rfl⟩ | hsame | ⟨a', ha', hres⟩
  · have ha := List.append_inj_right' hreplies rfl
    cases ha
    exact ⟨rfl, rfl, rfl, rfl, rfl⟩
  · have ha := List.append_inj_right' hreplies rfl
    cases ha
    exact (hres.elim hdone hreplaced).elim
  · have hlen := congrArg List.length (hsame.symm.trans hreplies)
    simp at hlen
  · have ha := List.append_inj_right' (ha'.symm.trans hreplies) rfl
    cases ha
    exact absurd hres hreplaced

end Sys2Proof.Machine
end

section
/-! What the shared operations keep: the fixed view of the part (identities, owners, settings, counts, waiting commands)
and, one by one, the laws of the ports, of the head, link and reefer records and of the candidate lists. -/

namespace Sys2Proof.Machine

/-! ### The fixed view -/

/-- The settings of a head record, which HEAD_CONFIG alone changes (R44). -/
def Head.config (x : Head) : Head :=
  { Head.cold with
    capacity := x.capacity, startFrames := x.startFrames, lockLimit := x.lockLimit, holdoverLimit := x.holdoverLimit,
    spanFirst := x.spanFirst, spanLast := x.spanLast }

/-- What only a few commands of their own change: who holds which slot, who owns which record, the settings, the frame
counts and the queue of waiting commands. -/
structure Fixed where
  pending : List Instr
  frame : BitVec 32
  divider : Nat
  params : ParamSets
  loadWeight : Nat
  settings : Settings
  shadow : Vector (Vector Nat 64) 24
  contexts : List (Nat × Tag × Class × Option Nat)
  links : List (Nat × Nat)
  reefers : List (Nat × Nat)
  windows : HeadIx → Nat
  heads : HeadIx → Head

/-- The identity of a context: tag, class and extension. -/
def Context.ids (c : Context) : Tag × Class × Option Nat := (c.tag, c.cls, c.ext)

def State.fixed (s : State) : Fixed :=
  { pending := s.pending, frame := s.frame, divider := s.divider, params := s.params, loadWeight := s.loadWeight,
    settings := s.settings, shadow := s.shadow, contexts := s.contexts.map fun e => (e.1, e.2.ids),
    links := s.links.map fun e => (e.1, e.2.owner), reefers := s.reefers.map fun e => (e.1, e.2.owner),
    windows := fun h => (s.account h).wreq, heads := fun h => (s.head h).config }

/-- The canonical form is one of the keys alone. -/
theorem Table.wf_iff_map {α β : Type} (t : Table α) (n : Nat) (f : α → β) :
    t.wf n ↔ Table.wf (t.map fun e => (e.1, f e.2)) n := by
  simp only [Table.wf, List.pairwise_map, List.forall_mem_map]

theorem tablesLaw_iff (s : State) :
    s.tablesLaw ↔ Table.wf s.fixed.contexts Config.contextSlots ∧ Table.wf s.fixed.links Config.craneLinks ∧
      Table.wf s.fixed.reefers Config.reeferRecords ∧ s.fixed.contexts.Pairwise fun a b => a.2.1 ≠ b.2.1 := by
  unfold State.tablesLaw
  rw [Table.wf_iff_map s.contexts _ Context.ids, Table.wf_iff_map s.links _ CraneLink.owner,
    Table.wf_iff_map s.reefers _ Reefer.owner]
  simp only [State.fixed, List.pairwise_map]
  rfl

theorem tablesLaw_of_fixed {s t : State} (h : t.fixed = s.fixed) (hs : s.tablesLaw) : t.tablesLaw := by
  rw [tablesLaw_iff] at hs ⊢
  rwa [h]

/-! ### Keeping -/

/-- The laws of the records that no other law is needed for, but for the tables' canonical form. -/
inductive Law where
  | ports | links | reefers | cands | heads
  deriving DecidableEq

/-- The law holds of a state, given its tables in canonical form where it speaks of their records. -/
def Law.on (s : State) : Law → Prop
  | .ports => s.portLaw
  | .links => s.tablesLaw → s.linkLaw
  | .reefers => s.tablesLaw → s.reeferLaw
  | .cands => s.tablesLaw → s.candidateLaw
  | .heads => s.headLaw

/-- No identity, owner, setting or count changes, and every law is kept but `x`. -/
structure Keeps (x : Option Law) (s t : State) : Prop where
  fixed : t.fixed = s.fixed
  laws : ∀ l, x ≠ some l → l.on s → l.on t

section
variable {x : Option Law} {s t u : State}

theorem Keeps.refl (s : State) : Keeps x s s := ⟨rfl, fun _ _ => id⟩

theorem Keeps.trans (a : Keeps x s t) (b : Keeps x t u) : Keeps x s u :=
  ⟨b.fixed.trans a.fixed, fun l hl => b.laws l hl ∘ a.laws l hl⟩

/-- What keeps every law keeps all but one. -/
theorem Keeps.but (a : Keeps none s t) : Keeps x s t := ⟨a.fixed, fun l _ => a.laws l nofun⟩

/-- A step that keeps all laws but one keeps all when it is shown to keep that one. -/
theorem Keeps.and {l : Law} (a : Keeps (some l) s t) (h : l.on s → l.on t) : Keeps none s t := by
  refine ⟨a.fixed, fun m _ => ?_⟩
  by_cases hm : m = l
  · exact hm ▸ h
  · exact a.laws m fun e => hm (Option.some.inj e).symm

theorem Keeps.ite {c : Prop} [Decidable c] (a : c → Keeps x s t) (b : ¬ c → Keeps x s u) :
    Keeps x s (if c then t else u) := by
  split
  · exact a ‹_›
  · exact b ‹_›

theorem Keeps.of_laws (fixed : t.fixed = s.fixed) (ports : s.portLaw → t.portLaw)
    (links : s.tablesLaw → s.linkLaw → t.linkLaw) (reefers : s.tablesLaw → s.reeferLaw → t.reeferLaw)
    (cands : s.tablesLaw → s.candidateLaw → t.candidateLaw) (heads : s.headLaw → t.headLaw) : Keeps x s t := by
  have back : t.tablesLaw → s.tablesLaw := tablesLaw_of_fixed fixed.symm
  refine ⟨fixed, fun l _ h => ?_⟩
  cases l with
  | ports => exact ports h
  | links => exact fun w => links (back w) (h (back w))
  | reefers => exact fun w => reefers (back w) (h (back w))
  | cands => exact fun w => cands (back w) (h (back w))
  | heads => exact heads h

/-- What touches none of the records, and of the ports the outgoing messages alone. -/
theorem Keeps.of_records_same
    (h : t =
      { s with
        replies := t.replies, portLine := t.portLine, overflow := t.overflow, restartCause := t.restartCause,
        lastUnknown := t.lastUnknown, orders := t.orders, linkLine := t.linkLine, secondDue := t.secondDue,
        pageQueues := t.pageQueues, pollWaits := t.pollWaits }) : Keeps x s t := by
  rw [h]
  exact .of_laws rfl id (fun _ => id) (fun _ => id) (fun _ => id) id

theorem Keeps.order (o : Order) : Keeps x s (s.order o) := .of_records_same rfl
theorem Keeps.reply (r : Reply) : Keeps x s (s.reply r) := .of_records_same rfl
theorem Keeps.setPageQueue (h : HeadIx) (q : List Nat) : Keeps x s (s.setPageQueue h q) := .of_records_same rfl
theorem Keeps.setPollWait (h : HeadIx) (q : List Nat) : Keeps x s (s.setPollWait h q) := .of_records_same rfl
theorem Keeps.leavePageQueues (i : Nat) : Keeps x s (s.leavePageQueues i) := .of_records_same rfl
theorem Keeps.leaveWaitLists (i : Nat) : Keeps x s (s.leaveWaitLists i) := .of_records_same rfl

end

/-! ### Ports -/

section
variable {x : Option Law} {s : State}

/-- Notices of which no two match. -/
def Distinct (l : List Notice) : Prop := l.Pairwise fun a b => a.matches b = false

theorem matches_comm (a b : Notice) : a.matches b = b.matches a := by
  simp only [Notice.matches, Bool.beq_comm]

/-- A notice posted matches what the notice that it replaces matched. -/
theorem matches_congr {a b : Notice} (h : a.matches b = true) (c : Notice) : a.matches c = b.matches c := by
  obtain ⟨hsub, hkind⟩ := matches_iff.mp h
  simp only [Notice.matches, hsub, hkind]

theorem distinct_post {sub : Subject} {c : NoticeContent} (h : Distinct s.notices) :
    Distinct (s.post sub c).notices := by
  rcases s.post_cases sub c with ⟨-, hpost⟩ | ⟨hno, -, hpost⟩ | ⟨-, -, hpost⟩
  · rw [hpost]
    refine List.Pairwise.map _ (fun a b hab => ?_) h
    have hboth {a b n : Notice} (ha : a.matches n = true) (hab : a.matches b = false) : b.matches n = false := by
      rw [matches_comm, ← matches_congr ha, hab]
    by_cases ha : a.matches { subject := sub, content := c } = true
    · have hb := hboth ha hab
      rw [if_pos ha, if_neg (by simp [hb]), matches_comm, hb]
    · rw [if_neg ha]
      by_cases hb : b.matches { subject := sub, content := c } = true
      · rw [if_pos hb]
        simpa using ha
      · rwa [if_neg hb]
  · rw [hpost]
    refine List.pairwise_append.mpr ⟨h, List.pairwise_singleton .., fun a ha b hb => ?_⟩
    rw [List.mem_singleton.mp hb]
    exact hno a ha
  · rw [hpost]; exact h

theorem length_notices_post {sub : Subject} {c : NoticeContent} (h : s.notices.length ≤ Config.noticeEntries) :
    (s.post sub c).notices.length ≤ Config.noticeEntries := by
  rcases s.post_cases sub c with ⟨-, hpost⟩ | ⟨-, hroom, hpost⟩ | ⟨-, -, hpost⟩
  · rw [hpost]; simpa using h
  · rw [hpost]; simpa using hroom
  · rw [hpost]; exact h

theorem Keeps.post (sub : Subject) (c : NoticeContent) : Keeps x s (s.post sub c) := by
  refine .of_laws (by rw [s.post_frame]; rfl) (fun ⟨hin, hn, hd, hu, hdiv⟩ => ?_) (fun _ h => ?_) (fun _ h => ?_)
    (fun _ h => ?_) (fun h => ?_)
  · refine ⟨by simpa using hin, length_notices_post hn, distinct_post hd, ?_, ?_⟩ <;> rw [s.post_frame] <;> assumption
  all_goals rw [s.post_frame]; exact h

/-- An update of the in-flight list that makes it no longer, and of the replies. -/
theorem Keeps.inflight {t : State} (h : t = { s with inflight := t.inflight, replies := t.replies })
    (hlen : t.inflight.length ≤ s.inflight.length) : Keeps x s t := by
  refine .of_laws (by rw [h]; rfl) (fun ⟨hin, hn, hd, hu, hdiv⟩ => ?_) (fun _ hl => ?_) (fun _ hl => ?_)
    (fun _ hl => ?_) (fun hl => ?_)
  · refine ⟨hlen.trans hin, ?_, ?_, ?_, ?_⟩ <;> rw [h] <;> assumption
  all_goals rw [h]; exact hl

theorem Keeps.endOldest (p : InFlight → Bool) (res : Result) : Keeps x s (s.endOldest p res) :=
  .inflight (s.endOldest_frame p res) (s.endOldest_length p res)

theorem Keeps.endNewest (p : InFlight → Bool) (res : Result) : Keeps x s (s.endNewest p res) :=
  .inflight (s.endNewest_frame p res) (s.endNewest_length p res)

theorem Keeps.endAll (p : InFlight → Bool) (res : Result) : Keeps x s (s.endAll p res) :=
  .inflight rfl (s.endAll_length p res)

/-- A request joins the in-flight list where it is not full (R161). -/
theorem Keeps.joinInflight (e : InFlight) (h : s.inflightFull = false) : Keeps x s (s.joinInflight e) := by
  refine .of_laws rfl (fun ⟨hin, hrest⟩ => ⟨?_, hrest⟩) (fun _ => id) (fun _ => id) (fun _ => id) id
  simp only [State.inflightFull, decide_eq_false_iff_not] at h
  rw [State.joinInflight_inflight, List.length_append, List.length_singleton]
  omega

theorem Keeps.unmatchedEvent (tag : Option Tag) : Keeps x s (s.unmatchedEvent tag) := by
  refine .of_laws rfl (fun ⟨hin, hn, hd, hu, hdiv⟩ => ⟨hin, hn, hd, ?_, hdiv⟩) (fun _ => id) (fun _ => id) (fun _ => id) id
  unfold State.unmatchedEvent
  dsimp only
  split <;> omega

end

/-! ### Records changed in place -/

section
variable {α : Type} {t : Table α} {k n : Nat} {f : α → α}

theorem Table.mem_modify {e : Nat × α} (h : e ∈ t.modify k f) :
    e ∈ t ∨ ∃ v, (k, v) ∈ t ∧ e = (k, f v) := by
  obtain ⟨d, hd, rfl⟩ := List.mem_map.mp h
  split
  · next hk => exact .inr ⟨d.2, hk ▸ hd, by rw [hk]⟩
  · exact .inl hd

/-- What holds of every record of a table in canonical form, and of the record changed, holds after the change. -/
theorem Table.forall_modify {p : α → Prop} (w : t.wf n) (h : ∀ e ∈ t, p e.2)
    (hf : ∀ v, t.get? k = some v → p v → p (f v)) : ∀ e ∈ t.modify k f, p e.2 := by
  intro e he
  obtain he | ⟨v, hv, rfl⟩ := Table.mem_modify he
  · exact h e he
  · exact hf v (Table.get?_of_mem w hv) (h _ hv)

theorem Table.map_modify_of_forall {β : Type} {g : α → β} (h : ∀ v, g (f v) = g v) :
    (t.modify k f).map (fun e => (e.1, g e.2)) = t.map fun e => (e.1, g e.2) := by
  simp only [Table.modify, List.map_map]
  refine List.map_congr_left fun e _ => ?_
  simp only [Function.comp_apply]
  split
  · rw [h]
  · rfl

end

section
variable {x : Option Law} {s : State}

theorem Keeps.setAccount (h : HeadIx) (a : Account) (ha : a.wreq = (s.account h).wreq) :
    Keeps x s (s.setAccount h a) := by
  refine .of_laws ?_ id (fun _ => id) (fun _ => id) (fun _ => id) id
  have hw : (fun g => ((s.setAccount h a).account g).wreq) = fun g => (s.account g).wreq := by
    funext g
    rw [State.account_setAccount]
    split
    · next e => rw [e, ha]
    · rfl
  rw [State.fixed, hw]
  rfl

theorem Keeps.modAccount (h : HeadIx) (f : Account → Account) (hf : ∀ a, (f a).wreq = a.wreq) :
    Keeps x s (s.modAccount h f) :=
  .setAccount h _ (hf _)

/-- A change of a link record that leaves its owner and keeps it within its bounds. -/
theorem Keeps.modLink (l : Nat) {f : CraneLink → CraneLink} (ho : ∀ k, (f k).owner = k.owner)
    (hf : ∀ k, s.links.get? l = some k → k.ok → (f k).ok) : Keeps x s (s.modLink l f) := by
  refine .of_laws ?_ id (fun w h => ?_) (fun _ => id) (fun _ => id) id
  · rw [State.fixed, State.modLink_links, Table.map_modify_of_forall ho]
    rfl
  · obtain ⟨-, hlinks, -, -⟩ := w
    exact Table.forall_modify hlinks h hf

/-- A change of a reefer record that leaves its owner and keeps it within its bounds. -/
theorem Keeps.modReefer (i : Nat) {f : Reefer → Reefer} (ho : ∀ r, (f r).owner = r.owner)
    (hf : ∀ r, s.reefers.get? i = some r → r.ok → (f r).ok) : Keeps x s (s.modReefer i f) := by
  refine .of_laws ?_ id (fun _ => id) (fun w h => ?_) (fun _ => id) id
  · rw [State.fixed, State.modReefer_reefers, Table.map_modify_of_forall ho]
    rfl
  · obtain ⟨-, -, hreefers, -⟩ := w
    exact Table.forall_modify hreefers h hf

/-- A change of a context that leaves its identity and keeps its candidate list within its bounds. -/
theorem Keeps.modContext (k : Nat) {f : Context → Context} (hid : ∀ c, (f c).ids = c.ids)
    (hf : ∀ c, s.contexts.get? k = some c → s.tablesLaw → s.candidateLaw → candidatesOk (s.params.get c.cls).ttt c.cands →
      candidatesOk (s.params.get c.cls).ttt (f c).cands) : Keeps x s (s.modContext k f) := by
  refine .of_laws ?_ id (fun _ => id) (fun _ => id) (fun w h => ?_) id
  · rw [State.fixed, State.modContext_contexts, Table.map_modify_of_forall hid]
    rfl
  · obtain ⟨hcontexts, -, -, -⟩ := id w
    obtain ⟨hparams, hcands⟩ := id h
    have hcls : ∀ c, (f c).cls = c.cls := fun c => congrArg (·.2.1) (hid c)
    refine ⟨hparams, ?_⟩
    refine Table.forall_modify (p := fun c => candidatesOk (s.params.get c.cls).ttt c.cands) hcontexts hcands
      fun c hc hok => ?_
    rw [hcls]
    exact hf c hc w h hok

theorem fixed_setHead (h : HeadIx) (y : Head) (hy : y.config = (s.head h).config) :
    (s.setHead h y).fixed = s.fixed := by
  have hw : (fun g => ((s.setHead h y).head g).config) = fun g => (s.head g).config := by
    funext g
    rw [State.head_setHead]
    split
    · next e => rw [e, hy]
    · rfl
  rw [State.fixed, hw]
  rfl

/-- The write of a head record that leaves its settings: only the law of the head records asks for more. -/
theorem Keeps.setHead_any (h : HeadIx) (y : Head) (hy : y.config = (s.head h).config) :
    Keeps (some .heads) s (s.setHead h y) := by
  refine ⟨fixed_setHead h y hy, fun m hm hs => ?_⟩
  cases m with
  | heads => exact absurd rfl hm
  | ports => exact hs
  | links => exact hs
  | reefers => exact hs
  | cands => exact hs

theorem headLaw_setHead {s : State} {h : HeadIx} {y : Head} (hs : s.headLaw) (hy : y.ok) : (s.setHead h y).headLaw := by
  intro g
  rw [State.head_setHead]
  split
  · exact hy
  · exact hs g

/-- The write of a head record that leaves its settings and keeps it within its bounds. -/
theorem Keeps.setHead (h : HeadIx) (y : Head) (hy : y.config = (s.head h).config) (hok : (s.head h).ok → y.ok) :
    Keeps x s (s.setHead h y) :=
  (((Keeps.setHead_any h y hy).and) fun hs => headLaw_setHead hs (hok (hs h))).but

theorem Keeps.modHead (h : HeadIx) (f : Head → Head) (hf : (f (s.head h)).config = (s.head h).config)
    (hok : (s.head h).ok → (f (s.head h)).ok) : Keeps x s (s.modHead h f) :=
  .setHead h _ hf hok

end

end Sys2Proof.Machine
end

section
/-! What the operations of polls, airtime, handovers and crane links keep. -/

namespace Sys2Proof.Machine

variable {x : Option Law} {s : State}

/-! ### Polls and airtime -/

theorem Keeps.setPoll (i : Nat) (p : Poll) : Keeps x s (s.modReefer i fun r => { r with poll := p }) :=
  .modReefer i (fun _ => rfl) fun _ _ => id

theorem Keeps.sendPoll (h : HeadIx) (i : Nat) : Keeps x s (s.sendPoll h i) := by
  unfold State.sendPoll
  split
  · refine Keeps.trans (Keeps.trans ?_ (.setPoll i _)) (.order _)
    exact .modAccount h _ fun _ => rfl
  · exact .refl s

theorem Keeps.waitPassFrom (h : HeadIx) (q : List Nat) : Keeps x s (waitPassFrom h q s) := by
  induction q generalizing s with
  | nil => exact .refl s
  | cons i rest ih =>
    unfold Machine.waitPassFrom
    exact .ite (fun _ => ((Keeps.setPollWait h rest).trans (.sendPoll h i)).trans ih) fun _ => .refl s

theorem Keeps.waitPass (h : HeadIx) : Keeps x s (s.waitPass h) := .waitPassFrom h _

theorem Keeps.makePoll (i : Nat) : Keeps x s (s.makePoll i) := by
  unfold State.makePoll
  split
  · next r h _ _ =>
    exact .ite (fun _ => .ite (fun _ => .sendPoll h i) fun _ => (Keeps.setPollWait h _).trans (.setPoll i .waiting))
      fun _ => .refl s
  · exact .refl s

theorem Keeps.returnCredit (h : HeadIx) : Keeps x s (s.returnCredit h) := by
  refine Keeps.trans ?_ (.waitPass h)
  exact .modAccount h _ fun _ => rfl

theorem Keeps.endPoll (i : Nat) : Keeps x s (s.endPoll i) := by
  unfold State.endPoll
  split
  · exact .refl s
  · split
    · exact .refl s
    · next h _ _ => exact (Keeps.setPoll i .none).trans (.returnCredit h)
    · exact (Keeps.leaveWaitLists i).trans (.setPoll i .none)

theorem Keeps.fit (h : HeadIx) : Keeps x s (s.fit h) := by
  obtain ⟨hle, hlt⟩ := s.fit_cases h
  have hset := fun w => Keeps.setAccount (x := x) (s := s) h { s.account h with wg := w } rfl
  rcases Nat.lt_or_ge (s.account h).wg (grantedWindow (s.head h) (s.account h)) with lt | ge
  · rw [hlt lt]; exact (hset _).trans (.waitPass h)
  · rw [hle ge]; exact hset _

/-- A change of a head's reservations, with the fit. -/
theorem Keeps.modAccount_fit (h : HeadIx) (f : Account → Account) (hf : ∀ a, (f a).wreq = a.wreq) :
    Keeps x s ((s.modAccount h f).fit h) :=
  (Keeps.modAccount h f hf).trans (.fit h)

theorem Keeps.join (h : HeadIx) (k : ResKind) (l u : Nat) : Keeps x s (s.join h k l u) :=
  .modAccount_fit h _ fun _ => rfl

theorem Keeps.joinStanding (h : HeadIx) (l u : Nat) : Keeps x s (s.joinStanding h l u) := by
  unfold State.joinStanding
  split
  · exact .refl s
  · exact .join h .standing l u

theorem Keeps.releaseOn (h : HeadIx) (k : ResKind) (l : Nat) : Keeps x s (s.releaseOn h k l) := by
  unfold State.releaseOn
  exact .ite (fun _ => .modAccount_fit h _ fun _ => rfl) fun _ => .refl s

theorem Keeps.releaseStanding (l : Nat) : Keeps x s (s.releaseStanding l) := by
  unfold State.releaseStanding
  split
  · exact .releaseOn _ .standing l
  · exact .refl s

theorem Keeps.convert (h : HeadIx) (l : Nat) : Keeps x s (s.convert h l) := .modAccount_fit h _ fun _ => rfl

/-! ### Link records -/

/-- The settings of a link within Table 5-3. -/
def CraneLink.limitsOk (k : CraneLink) : Prop :=
  2 ≤ k.period ∧ k.period ≤ 64 ∧ 4 ≤ k.units ∧ k.units ≤ 48 ∧
  1 ≤ k.holdLimit ∧ k.holdLimit ≤ 15 ∧ 1 ≤ k.missLimit ∧ k.missLimit ≤ 15

/-- The counts of a link below their limits while it runs (R99). -/
def CraneLink.runs (k : CraneLink) : Prop :=
  k.repeats < k.holdLimit ∧ k.misses < k.missLimit ∧ k.current.isSome ∧ (k.state = .holding ↔ 0 < k.repeats)

/-- State, cycle timer and counts of a link in step (R94, R99). -/
def CraneLink.stateOk (k : CraneLink) : Prop :=
  (k.cycle = none ↔ k.state = .idle) ∧ (k.state = .running ∨ k.state = .holding → k.runs) ∧
  k.repeats ≤ 15 ∧ k.misses ≤ 15 ∧ (k.state = .safeStop → k.cause.isSome)

/-- Feedback, side channel and handover phase of a link within Table 5-1. -/
def CraneLink.partsOk (k : CraneLink) : Prop :=
  k.sideErrors ≤ 255 ∧ (∀ f ∈ k.feedback, f.age ≤ 255) ∧
  (∀ a ∈ k.assembly, 1 ≤ a.length ∧ a.length < Config.sideFragments) ∧
  (∀ b ∈ k.down, b.pos ≤ Config.lastSidePosition) ∧ (∀ n ∈ k.phase.count?, n ≤ 3)

theorem CraneLink.ok_iff (k : CraneLink) : k.ok ↔ k.limitsOk ∧ k.stateOk ∧ k.partsOk := by
  unfold CraneLink.ok limitsOk stateOk partsOk runs
  tauto

theorem CraneLink.ok.limits {k : CraneLink} (h : k.ok) : k.limitsOk := (k.ok_iff.mp h).1
theorem CraneLink.ok.state {k : CraneLink} (h : k.ok) : k.stateOk := (k.ok_iff.mp h).2.1
theorem CraneLink.ok.parts {k : CraneLink} (h : k.ok) : k.partsOk := (k.ok_iff.mp h).2.2

/-- A link that enters SAFE_STOP out of a state in which it cycles, whatever its counts were within their range. -/
theorem CraneLink.stateOk_safeStop {k : CraneLink} (hcycle : k.cycle ≠ none) (hr : k.repeats ≤ 15) (hm : k.misses ≤ 15)
    (c : SafeCause) (p : Option Setpoint) :
    CraneLink.stateOk { k with state := .safeStop, cause := some c, next := p } :=
  ⟨by simpa using hcycle, by simp, hr, hm, fun _ => rfl⟩

section
variable {k : CraneLink}

theorem CraneLink.ok_phase (h : k.ok) {p : Phase} (hp : ∀ n ∈ p.count?, n ≤ 3) : CraneLink.ok { k with phase := p } := by
  obtain ⟨he, hf, ha, hb, -⟩ := h.parts
  exact (CraneLink.ok_iff _).mpr ⟨h.limits, h.state, he, hf, ha, hb, hp⟩

theorem CraneLink.ok_down (h : k.ok) {d : Option DownBlock} (w : Option WaitBlock)
    (hd : ∀ b ∈ d, b.pos ≤ Config.lastSidePosition) : CraneLink.ok { k with down := d, waiting := w } := by
  obtain ⟨he, hf, ha, -, hp⟩ := h.parts
  exact (CraneLink.ok_iff _).mpr ⟨h.limits, h.state, he, hf, ha, hd, hp⟩

theorem CraneLink.ok_side (h : k.ok) {a : Option (List Fragment)} {n : Nat} (b : Option Bytes48)
    (ha : ∀ l ∈ a, 1 ≤ l.length ∧ l.length < Config.sideFragments) (hn : n ≤ 255) :
    CraneLink.ok { k with assembly := a, sideErrors := n, sideBlock := b } := by
  obtain ⟨-, hf, -, hb, hp⟩ := h.parts
  exact (CraneLink.ok_iff _).mpr ⟨h.limits, h.state, hn, hf, ha, hb, hp⟩

theorem CraneLink.ok_feedback (h : k.ok) {f : Option Feedback} (m l : Bool) (hf : ∀ g ∈ f, g.age ≤ 255) :
    CraneLink.ok { k with feedback := f, heardLast := m, heard := l } := by
  obtain ⟨he, -, ha, hb, hp⟩ := h.parts
  exact (CraneLink.ok_iff _).mpr ⟨h.limits, h.state, he, hf, ha, hb, hp⟩

end

theorem satInc_le {limit n : Nat} (h : n ≤ limit) : satInc limit n ≤ limit := by
  unfold satInc
  split <;> omega

/-! ### Handovers -/

theorem Keeps.endPhase (l : Nat) : Keeps x s (s.modLink l fun k => { k with phase := .none }) :=
  .modLink l (fun _ => rfl) fun _ _ h => CraneLink.ok_phase h nofun

/-- Changing counts of a candidate list without raising a TTT count above the limit keeps it within its bounds. -/
theorem candidatesOk_map {limit : Nat} {l : List Candidate} {f : Candidate → Candidate} (h : candidatesOk limit l)
    (hhead : ∀ e, (f e).head = e.head) (hscore : ∀ e, (f e).score = e.score) (hlevel : ∀ e, (f e).level = e.level)
    (hmiss : ∀ e, e.missing ≤ 2 → (f e).missing ≤ 2) {limit' : Nat} (httt : ∀ e, e.ttt ≤ limit → (f e).ttt ≤ limit') :
    candidatesOk limit' (l.map f) := by
  obtain ⟨hlen, hnodup, hsorted, hranges⟩ := h
  refine ⟨by simpa using hlen, ?_, ?_, ?_⟩
  · simpa [List.map_map, Function.comp_def, hhead] using hnodup
  · rw [List.pairwise_map]
    simpa only [before, hhead, hscore] using hsorted
  · rw [List.forall_mem_map]
    intro e he
    obtain ⟨h1, h2, h3, h4⟩ := hranges e he
    exact ⟨(hlevel e).trans_le h1, (hscore e).trans_le h2, hmiss e h3, httt e h4⟩

theorem candidatesOk_clearCount {limit : Nat} {c : Context} (g : HeadIx) (h : candidatesOk limit c.cands) :
    candidatesOk limit (c.clearCount g).cands := by
  apply candidatesOk_map h <;> intro e <;> split <;> simp

theorem candidatesOk_serveOn {limit : Nat} {c : Context} (g : HeadIx) (h : candidatesOk limit c.cands) :
    candidatesOk limit (c.serveOn g).cands := by
  apply candidatesOk_map h <;> intro e <;> simp
  split <;> omega

theorem Keeps.serveOn (k : Nat) (g : HeadIx) : Keeps x s (s.modContext k fun c => c.serveOn g) :=
  .modContext k (fun _ => rfl) fun _ _ _ _ => candidatesOk_serveOn g

theorem Keeps.endHandover (l : Nat) (cause : HandoverCause) : Keeps x s (s.endHandover l cause) := by
  rcases s.endHandover_cases l cause with ⟨h, -⟩ | ⟨k, g, -, -, h⟩
  · rw [h]; exact .refl s
  · rw [h]
    refine Keeps.trans ?_ (.post _ _)
    exact .ite (fun _ => .endPhase l) fun _ =>
      (Keeps.endPhase l).trans (.modContext _ (fun _ => rfl) fun _ _ _ _ => candidatesOk_clearCount g)

theorem Keeps.cancelHandover (l : Nat) (cause : HandoverCause) : Keeps x s (s.cancelHandover l cause) := by
  unfold State.cancelHandover
  split
  · exact (Keeps.releaseOn _ .prepared l).trans (.endHandover l cause)
  · exact .refl s

theorem Keeps.dropPrepared (h : HeadIx) (l : Nat) : Keeps x s (s.dropPrepared h l) := .modAccount h _ fun _ => rfl

theorem Keeps.cancelEach (h : HeadIx) (cause : HandoverCause) (ls : List Nat) : Keeps x s (cancelEach h cause ls s) := by
  induction ls generalizing s with
  | nil => exact .refl s
  | cons l rest ih => exact ((Keeps.dropPrepared h l).trans (.endHandover l cause)).trans ih

theorem Keeps.cancelPrepared (h : HeadIx) : Keeps x s (s.cancelPrepared h) := .cancelEach h .targetLost _

theorem Keeps.cancelUntilFits (h : HeadIx) (ls : List Nat) : Keeps x s (cancelUntilFits h ls s) := by
  induction ls generalizing s with
  | nil => exact .refl s
  | cons l rest ih =>
    unfold Machine.cancelUntilFits
    exact .ite (fun _ => .refl s) fun _ => ((Keeps.dropPrepared h l).trans (.endHandover l .capacity)).trans ih

/-- Entering SAFE_STOP out of a state in which the link cycles. -/
theorem Keeps.enterSafeStop (l : Nat) (cause : SafeCause)
    (h : ∀ k, s.links.get? l = some k → k.state ≠ .idle) : Keeps x s (s.enterSafeStop l cause) := by
  cases e : s.links.get? l with
  | none => rw [State.enterSafeStop, e]; exact .refl s
  | some k =>
    rw [State.enterSafeStop_eq e]
    refine Keeps.trans ?_ (.post _ _)
    refine .modLink l (fun _ => rfl) fun k' hk' hok => ?_
    obtain ⟨hcycle, -, hr, hm, -⟩ := hok.state
    exact (CraneLink.ok_iff _).mpr
      ⟨hok.limits, CraneLink.stateOk_safeStop (mt hcycle.mp (h k' hk')) hr hm cause none, hok.parts⟩

theorem Keeps.completeHandover (l : Nat) : Keeps x s (s.completeHandover l) := by
  unfold State.completeHandover
  split
  · split
    · exact .refl s
    · next k c _ _ _ g _ =>
      refine Keeps.trans (Keeps.trans (Keeps.trans ?_ (.endPhase l)) (.order _)) (.post _ _)
      have hconvert := (Keeps.serveOn (x := x) (s := s) k.owner g).trans (.convert g l)
      split
      · exact hconvert.trans (.releaseOn _ .standing l)
      · exact hconvert
  · exact .refl s

theorem Keeps.rescue (l : Nat) (h g : HeadIx) : Keeps x s (s.rescue l h g) := by
  unfold State.rescue
  split
  · exact (((Keeps.serveOn _ g).trans (.convert g l)).trans (.endPhase l)).trans (Keeps.trans (.order _) (.post _ _))
  · exact .refl s

theorem Keeps.losePath (l : Nat) (held : Bool) : Keeps x s (s.losePath l held) := by
  unfold State.losePath
  split
  · exact .refl s
  · next k hk =>
    have hstop (hne : k.state ≠ .idle) : Keeps x s (s.enterSafeStop l .pathLost) :=
      .enterSafeStop l .pathLost fun k' hk' => by cases hk.symm.trans hk'; exact hne
    split
    · next e => exact hstop (by simp [e])
    · next e => exact hstop (by simp [e])
    · next e => exact .ite (fun _ => hstop (by simp [e])) fun _ => .refl s
    · exact .refl s

theorem Keeps.loseHead (l : Nat) (h : HeadIx) (held : Bool) : Keeps x s (s.loseHead l h held) := by
  unfold State.loseHead
  split
  · exact .rescue l h _
  · exact .losePath l held

theorem candidatesOk_filter {limit : Nat} {l : List Candidate} (p : Candidate → Bool) (h : candidatesOk limit l) :
    candidatesOk limit (l.filter p) := by
  obtain ⟨hlen, hnodup, hsorted, hranges⟩ := h
  exact ⟨(List.length_filter_le ..).trans hlen, hnodup.sublist (List.filter_sublist.map _), hsorted.filter _,
    fun e he => hranges e (List.mem_filter.mp he).1⟩

theorem Keeps.faultContext (h : HeadIx) (held : List Nat) (k : Nat) : Keeps x s (faultContext h held k s) := by
  unfold Machine.faultContext
  split
  · exact .refl s
  · have hctx : Keeps x s (s.modContext k fun c =>
        { c with
          cands := c.cands.filter fun e => e.head != h
          serving := if c.serving = some h then none else c.serving }) :=
      .modContext k (fun _ => rfl) fun _ _ _ _ => candidatesOk_filter _
    dsimp only
    split
    · split
      · exact (hctx.trans (.post _ _)).trans (.loseHead _ h _)
      · exact hctx.trans (.post _ _)
    · exact hctx

theorem Keeps.faultContexts (h : HeadIx) (held ks : List Nat) : Keeps x s (faultContexts h held ks s) := by
  induction ks generalizing s with
  | nil => exact .refl s
  | cons k rest ih => exact (Keeps.faultContext h held k).trans ih

end Sys2Proof.Machine
end

section
/-! Polls, the fit and releases read and write the poll figures alone: taken in two states that agree on those, they do
the same in both. -/

namespace Sys2Proof.Machine

/-- Two states agree on what polls read: heads, accounts, reefer records, wait lists, settings and the contexts' tags. -/
structure SamePolls (s t : State) : Prop where
  heads : t.heads = s.heads
  airtime : t.airtime = s.airtime
  reefers : t.reefers = s.reefers
  waits : t.pollWaits = s.pollWaits
  settings : t.settings = s.settings
  tags : ∀ k, (t.contexts.get? k).map (·.tag) = (s.contexts.get? k).map (·.tag)

/-- What changed from `s` to `s'` is what changed from `t` to `t'`: accounts, reefer records and wait lists as in `s'`,
and the same orders more. -/
def PollMirror (s s' t t' : State) : Prop :=
  ∃ new, s' = { s with
      airtime := s'.airtime, orders := s.orders ++ new, reefers := s'.reefers, pollWaits := s'.pollWaits } ∧
    t' = { t with
      airtime := s'.airtime, orders := t.orders ++ new, reefers := s'.reefers, pollWaits := s'.pollWaits }

section
variable {s s' s'' t t' t'' : State}

theorem PollMirror.refl (h : SamePolls s t) : PollMirror s s t t := by
  refine ⟨[], by simp, ?_⟩
  rw [← h.airtime, ← h.reefers, ← h.waits, List.append_nil]

theorem PollMirror.trans (a : PollMirror s s' t t') (b : PollMirror s' s'' t' t'') : PollMirror s s'' t t'' := by
  obtain ⟨n, hs, ht⟩ := a
  obtain ⟨m, hs', ht'⟩ := b
  refine ⟨n ++ m, ?_, ?_⟩
  · rw [hs']; conv_lhs => rw [hs]
    simp
  · rw [ht']; conv_lhs => rw [ht]
    simp

/-- What agreed before agrees after the same polls. -/
theorem PollMirror.same (a : PollMirror s s' t t') (h : SamePolls s t) : SamePolls s' t' := by
  obtain ⟨n, hs, ht⟩ := a
  rw [hs, ht]
  exact ⟨h.heads, rfl, rfl, rfl, h.settings, h.tags⟩

end

section
variable {s t : State} (e : SamePolls s t)
include e

theorem SamePolls.head (h : HeadIx) : t.head h = s.head h := by rw [State.head, e.heads]; rfl
theorem SamePolls.account (h : HeadIx) : t.account h = s.account h := by rw [State.account, e.airtime]; rfl
theorem SamePolls.pollWait (h : HeadIx) : t.pollWait h = s.pollWait h := by rw [State.pollWait, e.waits]; rfl

theorem SamePolls.creditGiven (h : HeadIx) : t.creditGiven h = s.creditGiven h := by
  simp only [State.creditGiven, e.head, e.account]

theorem SamePolls.reeferTag (i : Nat) : (t.reeferContext i).map (·.tag) = (s.reeferContext i).map (·.tag) := by
  simp only [State.reeferContext, e.reefers]
  cases s.reefers.get? i with
  | none => rfl
  | some r => exact e.tags r.owner

theorem mirror_setPollWait (h : HeadIx) (q : List Nat) :
    PollMirror s (s.setPollWait h q) t (t.setPollWait h q) := by
  refine ⟨[], by simp [State.setPollWait], ?_⟩
  simp only [State.setPollWait, List.append_nil, ← e.airtime, ← e.reefers, ← e.waits]

theorem mirror_modAccount (h : HeadIx) (f : Account → Account) :
    PollMirror s (s.modAccount h f) t (t.modAccount h f) := by
  refine ⟨[], by simp [State.modAccount, State.setAccount], ?_⟩
  simp only [State.modAccount, State.setAccount, e.account, List.append_nil, ← e.airtime, ← e.reefers, ← e.waits]

theorem mirror_sendPoll (h : HeadIx) (i : Nat) : PollMirror s (s.sendPoll h i) t (t.sendPoll h i) := by
  have htag := e.reeferTag i
  unfold State.sendPoll
  cases hs : s.reeferContext i with
  | none =>
    rw [hs] at htag
    rw [Option.map_eq_none_iff.mp htag]
    exact .refl e
  | some c =>
    rw [hs] at htag
    obtain ⟨c', hc', hctag⟩ := Option.map_eq_some_iff.mp htag
    rw [hc']
    refine ⟨[.poll h c.tag], rfl, ?_⟩
    simp only [State.order, State.modReefer, State.modAccount, State.setAccount, e.account, e.airtime, e.reefers,
      e.settings, hctag, ← e.waits]

end

section
variable {s t : State}

theorem mirror_waitPassFrom (e : SamePolls s t) (h : HeadIx) (q : List Nat) :
    PollMirror s (waitPassFrom h q s) t (waitPassFrom h q t) := by
  induction q generalizing s t with
  | nil => exact .refl e
  | cons i rest ih =>
    unfold waitPassFrom
    rw [e.creditGiven]
    split
    · have hset := mirror_setPollWait e h rest
      have hsend := mirror_sendPoll (hset.same e) h i
      exact (hset.trans hsend).trans (ih (hsend.same (hset.same e)))
    · exact .refl e

theorem mirror_waitPass (e : SamePolls s t) (h : HeadIx) : PollMirror s (s.waitPass h) t (t.waitPass h) := by
  unfold State.waitPass
  rw [e.pollWait]
  exact mirror_waitPassFrom e h _

theorem mirror_fit (e : SamePolls s t) (h : HeadIx) : PollMirror s (s.fit h) t (t.fit h) := by
  unfold State.fit
  dsimp only
  rw [e.head, e.account]
  have hset := mirror_modAccount e h fun a => { a with wg := grantedWindow (s.head h) (s.account h) }
  split
  · exact hset.trans (mirror_waitPass (hset.same e) h)
  · exact hset

/-- A change of an account followed by the fit. -/
theorem mirror_modAccount_fit (e : SamePolls s t) (h : HeadIx) (f : Account → Account) :
    PollMirror s ((s.modAccount h f).fit h) t ((t.modAccount h f).fit h) :=
  (mirror_modAccount e h f).trans (mirror_fit ((mirror_modAccount e h f).same e) h)

theorem mirror_releaseOn (e : SamePolls s t) (h : HeadIx) (k : ResKind) (l : Nat) :
    PollMirror s (s.releaseOn h k l) t (t.releaseOn h k l) := by
  unfold State.releaseOn
  rw [e.account]
  split
  · exact mirror_modAccount_fit e h _
  · exact .refl e

end

/-! ### What polls leave alone stays changed -/

theorem samePolls_modLink (s : State) (l : Nat) (f : CraneLink → CraneLink) : SamePolls s (s.modLink l f) :=
  ⟨rfl, rfl, rfl, rfl, rfl, fun _ => rfl⟩

theorem releaseOn_modLink (s : State) (l : Nat) (f : CraneLink → CraneLink) (h : HeadIx) (k : ResKind) (m : Nat) :
    (s.modLink l f).releaseOn h k m = (s.releaseOn h k m).modLink l f := by
  obtain ⟨new, hs, ht⟩ := mirror_releaseOn (samePolls_modLink s l f) h k m
  rw [ht]
  conv_rhs => rw [hs]
  rfl

end Sys2Proof.Machine
end

section
/-! What the operations of a crane link keep. -/

namespace Sys2Proof.Machine

variable {x : Option Law} {s : State}

theorem modLink_modLink (s : State) (l : Nat) (f g : CraneLink → CraneLink) :
    (s.modLink l f).modLink l g = s.modLink l (g ∘ f) := by
  simp only [State.modLink, Table.modify_modify]

theorem get?_modLink (s : State) (l : Nat) (f : CraneLink → CraneLink) :
    (s.modLink l f).links.get? l = (s.links.get? l).map f :=
  Table.get?_modify_self _ _ _

/-- Entering SAFE_STOP behind a change of the same record writes both at once. -/
theorem enterSafeStop_modLink {l : Nat} {k : CraneLink} (h : s.links.get? l = some k) {f : CraneLink → CraneLink}
    (cause : SafeCause) :
    (s.modLink l f).enterSafeStop l cause =
      (s.modLink l fun k => { f k with state := .safeStop, cause := some cause, next := none }).post
        (.context (f k).owner) (.craneState .safeStop (some cause)) := by
  rw [State.enterSafeStop_eq (k := f k) (by rw [get?_modLink, h]; rfl), modLink_modLink]
  rfl

/-! ### The stages of a cycle expiry -/

/-- The miss count after the uplink check (R98). -/
def CraneLink.nextMisses (k : CraneLink) : Nat := if k.heard then 0 else k.misses + 1

theorem uplinkCheck_of_lt {l : Nat} {k : CraneLink} (e : s.links.get? l = some k) (h : k.nextMisses < k.missLimit) :
    s.uplinkCheck l = s.modLink l fun x => { x with misses := k.nextMisses } := by
  unfold State.uplinkCheck
  rw [e]
  exact if_neg (Nat.not_le.mpr h)

theorem uplinkCheck_of_le {l : Nat} {k : CraneLink} (e : s.links.get? l = some k) (h : k.missLimit ≤ k.nextMisses) :
    s.uplinkCheck l =
      (s.modLink l fun x =>
        { x with misses := k.nextMisses, state := .safeStop, cause := some .uplinkLimit, next := none }).post
        (.context k.owner) (.craneState .safeStop (some .uplinkLimit)) := by
  unfold State.uplinkCheck
  rw [e]
  exact (if_pos h).trans (enterSafeStop_modLink e .uplinkLimit)

theorem setpointStage_of_next {l : Nat} {k : CraneLink} {p : Setpoint} (e : s.links.get? l = some k)
    (hs : k.state = .running ∨ k.state = .holding) (hp : k.next = some p) :
    s.setpointStage l = s.modLink l fun x =>
      { x with current := some { sp := p, fresh := true }, next := none, repeats := 0, state := .running } := by
  unfold State.setpointStage
  rcases hs with hs | hs <;> simp only [e, hs, hp]

theorem setpointStage_of_lt {l : Nat} {k : CraneLink} (e : s.links.get? l = some k)
    (hs : k.state = .running ∨ k.state = .holding) (hp : k.next = none) (h : k.repeats + 1 < k.holdLimit) :
    s.setpointStage l = s.modLink l fun x =>
      { x with
        current := x.current.map fun c => { c with fresh := false }
        repeats := x.repeats + 1
        state := .holding } := by
  unfold State.setpointStage
  rcases hs with hs | hs <;> simp only [e, hs, hp, if_neg (Nat.not_le.mpr h)]

theorem setpointStage_of_le {l : Nat} {k : CraneLink} (e : s.links.get? l = some k)
    (hs : k.state = .running ∨ k.state = .holding) (hp : k.next = none) (h : k.holdLimit ≤ k.repeats + 1) :
    s.setpointStage l =
      (s.modLink l fun x =>
        { x with
          current := x.current.map fun c => { c with fresh := false }
          repeats := x.repeats + 1
          state := .safeStop
          cause := some .holdLimit
          next := none }).post (.context k.owner) (.craneState .safeStop (some .holdLimit)) := by
  unfold State.setpointStage
  rcases hs with hs | hs <;> simp only [e, hs, hp, if_pos h, enterSafeStop_modLink e]

theorem setpointStage_of_not {l : Nat} (h : ∀ k, s.links.get? l = some k → k.state ≠ .running ∧ k.state ≠ .holding) :
    s.setpointStage l = s := by
  unfold State.setpointStage
  cases e : s.links.get? l with
  | none => rfl
  | some k =>
    obtain ⟨hr, hh⟩ := h k e
    cases hs : k.state with
    | running => exact absurd hs hr
    | holding => exact absurd hs hh
    | idle => simp only [hs]
    | safeStop => simp only [hs]

theorem Keeps.uplinkCheck (l : Nat)
    (h : ∀ k, s.links.get? l = some k → k.state = .running ∨ k.state = .holding) : Keeps x s (s.uplinkCheck l) := by
  cases e : s.links.get? l with
  | none => rw [State.uplinkCheck, e]; exact .refl s
  | some k =>
    rcases Nat.lt_or_ge k.nextMisses k.missLimit with hlt | hge
    · rw [uplinkCheck_of_lt e hlt]
      refine .modLink l (fun _ => rfl) fun k' hk' hok => ?_
      cases e.symm.trans hk'
      obtain ⟨hcycle, hruns, hr, hm, hcause⟩ := hok.state
      obtain ⟨-, -, -, -, -, -, -, hlimit⟩ := hok.limits
      refine (CraneLink.ok_iff _).mpr ⟨hok.limits, ⟨hcycle, fun hs => ?_, hr, hlt.le.trans hlimit, hcause⟩, hok.parts⟩
      obtain ⟨hrep, -, hcur, hhold⟩ := hruns hs
      exact ⟨hrep, hlt, hcur, hhold⟩
    · rw [uplinkCheck_of_le e hge]
      refine Keeps.trans ?_ (.post _ _)
      refine .modLink l (fun _ => rfl) fun k' hk' hok => ?_
      cases e.symm.trans hk'
      obtain ⟨hcycle, hruns, hr, -, -⟩ := hok.state
      obtain ⟨-, hmisses, -, -⟩ := hruns (h k e)
      obtain ⟨-, -, -, -, -, -, -, hlimit⟩ := hok.limits
      have hidle : k.state ≠ .idle := by rcases h k e with h | h <;> simp [h]
      have hnext : k.nextMisses ≤ 15 := by unfold CraneLink.nextMisses; split <;> omega
      exact (CraneLink.ok_iff _).mpr ⟨hok.limits,
        CraneLink.stateOk_safeStop (k := { k with misses := k.nextMisses }) (mt hcycle.mp hidle) hr hnext _ none, hok.parts⟩

theorem Keeps.assemblyCheck (l : Nat) : Keeps x s (s.assemblyCheck l) := by
  refine .modLink l (fun k => by split <;> rfl) fun k _ hok => ?_
  obtain ⟨herr, -⟩ := hok.parts
  split
  · exact CraneLink.ok_side hok k.sideBlock nofun (satInc_le herr)
  · exact hok

theorem Keeps.setpointStage (l : Nat) : Keeps x s (s.setpointStage l) := by
  by_cases hstate : ∃ k, s.links.get? l = some k ∧ (k.state = .running ∨ k.state = .holding)
  · obtain ⟨k, e, hstate⟩ := hstate
    have hidle : k.state ≠ .idle := by rcases hstate with h | h <;> simp [h]
    cases hp : k.next with
    | some p =>
      rw [setpointStage_of_next e hstate hp]
      refine .modLink l (fun _ => rfl) fun k' hk' hok => ?_
      cases e.symm.trans hk'
      obtain ⟨hcycle, hruns, -, hm, -⟩ := hok.state
      obtain ⟨-, hmiss, -, -⟩ := hruns hstate
      obtain ⟨-, -, -, -, hone, -⟩ := hok.limits
      exact (CraneLink.ok_iff _).mpr ⟨hok.limits,
        ⟨by simpa using mt hcycle.mp hidle, fun _ => ⟨hone, hmiss, rfl, by simp⟩, Nat.zero_le _, hm, by simp⟩, hok.parts⟩
    | none =>
      rcases Nat.lt_or_ge (k.repeats + 1) k.holdLimit with hlt | hge
      · rw [setpointStage_of_lt e hstate hp hlt]
        refine .modLink l (fun _ => rfl) fun k' hk' hok => ?_
        cases e.symm.trans hk'
        obtain ⟨hcycle, hruns, -, hm, -⟩ := hok.state
        obtain ⟨-, hmiss, hcur, -⟩ := hruns hstate
        obtain ⟨-, -, -, -, -, hlimit, -⟩ := hok.limits
        exact (CraneLink.ok_iff _).mpr ⟨hok.limits,
          ⟨by simpa using mt hcycle.mp hidle, fun _ => ⟨hlt, hmiss, by simpa using hcur, by simp⟩,
            hlt.le.trans hlimit, hm, by simp⟩, hok.parts⟩
      · rw [setpointStage_of_le e hstate hp hge]
        refine Keeps.trans ?_ (.post _ _)
        refine .modLink l (fun _ => rfl) fun k' hk' hok => ?_
        cases e.symm.trans hk'
        obtain ⟨hcycle, hruns, -, hm, -⟩ := hok.state
        obtain ⟨hrep, -, -, -⟩ := hruns hstate
        obtain ⟨-, -, -, -, -, hlimit, -⟩ := hok.limits
        exact (CraneLink.ok_iff _).mpr ⟨hok.limits,
          ⟨by simpa using mt hcycle.mp hidle, by simp, Nat.le_trans hrep hlimit, hm, fun _ => rfl⟩, hok.parts⟩
  · rw [setpointStage_of_not fun k e => ⟨fun h => hstate ⟨k, e, .inl h⟩, fun h => hstate ⟨k, e, .inr h⟩⟩]
    exact .refl s

/-- A change of the phase ahead of a cancelled handover, from one target to the same, is lost with it. -/
theorem cancelHandover_modPhase {l : Nat} {k : CraneLink} {g : HeadIx} (e : s.links.get? l = some k)
    (hk : k.phase.target? = some g) {p : Phase} (hp : p.target? = some g) (cause : HandoverCause) :
    (s.modLink l fun k => { k with phase := p }).cancelHandover l cause = s.cancelHandover l cause := by
  have hr : (s.releaseOn g .prepared l).links.get? l = some k := by rw [(s.releaseOn_frame g .prepared l)]; exact e
  have hm := get?_modLink s l fun k => { k with phase := p }
  rw [e] at hm
  have hm' := get?_modLink (s.releaseOn g .prepared l) l fun k => { k with phase := p }
  rw [hr] at hm'
  simp only [Option.map_some] at hm hm'
  unfold State.cancelHandover
  simp only [hm, e, Option.bind_some, hp, hk]
  rw [releaseOn_modLink]
  unfold State.endHandover State.linkContext
  simp only [hm', hr, hp, hk, modLink_modLink, Option.bind_some]
  rfl

theorem Keeps.handoverStep (l : Nat) : Keeps x s (s.handoverStep l) := by
  unfold State.handoverStep
  cases e : s.links.get? l with
  | none => exact .refl s
  | some k =>
    cases hp : k.phase with
    | none => simpa only [hp] using .refl s
    | prepared g =>
      simp only [hp]
      exact .modLink l (fun _ => rfl) fun _ _ h => CraneLink.ok_phase h (by simp [Phase.count?])
    | switching g n =>
      simp only [hp]
      split
      · exact .modLink l (fun _ => rfl) fun _ _ h => CraneLink.ok_phase h (by simp [Phase.count?]; omega)
      · rw [cancelHandover_modPhase (g := g) e (by rw [hp]; rfl) rfl]
        exact .cancelHandover l .noAnswer

theorem Keeps.resume (l : Nat) (p : Setpoint) (h : ∀ k, s.links.get? l = some k → k.state = .safeStop) :
    Keeps x s (s.resume l p) := by
  unfold State.resume
  split
  · exact .refl s
  · next k hk =>
    refine Keeps.trans ?_ (.post _ _)
    refine .modLink l (fun _ => rfl) fun k' hk' hok => ?_
    obtain ⟨hcycle, -⟩ := hok.state
    obtain ⟨-, -, -, -, hhold, -, hmiss, -⟩ := hok.limits
    exact (CraneLink.ok_iff _).mpr ⟨hok.limits,
      ⟨by simpa [h k' hk'] using hcycle, fun _ => ⟨hhold, hmiss, rfl, by simp⟩, Nat.zero_le _, Nat.zero_le _, by simp⟩,
      hok.parts⟩

theorem Keeps.closeCycle (l : Nat) : Keeps x s (s.closeCycle l) := by
  refine .modLink l (fun _ => rfl) fun k _ hok => CraneLink.ok_feedback hok _ false ?_
  obtain ⟨-, hf, -⟩ := hok.parts
  intro g hg
  obtain ⟨f, hf', rfl⟩ := Option.map_eq_some_iff.mp hg
  exact satInc_le (hf f hf')

theorem Keeps.advanceBlock (l : Nat) : Keeps x s (s.advanceBlock l) := by
  unfold State.advanceBlock
  split
  · exact .refl s
  · next k _ =>
    split
    · exact .refl s
    · next b _ =>
      split
      · exact .modLink l (fun _ => rfl) fun _ _ h => CraneLink.ok_down h _ fun b' hb' => by cases hb'; simpa
      · refine Keeps.trans ?_ (.endOldest _ _)
        refine .modLink l (fun _ => rfl) fun _ _ h => CraneLink.ok_down h _ fun b' hb' => ?_
        obtain ⟨w, -, rfl⟩ := Option.map_eq_some_iff.mp hb'
        exact Nat.zero_le _

theorem Keeps.sendDownlink (l : Nat) : Keeps x s (s.sendDownlink l) := by
  unfold State.sendDownlink
  split
  · split
    · exact .refl s
    · refine Keeps.trans ?_ (.advanceBlock l)
      split
      · exact Keeps.trans (.order _) (.order _)
      · exact .order _
  · exact .refl s

theorem Keeps.completeRelease (l : Nat) : Keeps x s (s.completeRelease l) := by
  unfold State.completeRelease
  split
  · exact .refl s
  · have hsent : Keeps x s ((((s.cancelHandover l .released).sendDownlink l).closeCycle l).releaseStanding l) :=
      Keeps.trans (Keeps.trans (Keeps.trans (.cancelHandover l .released) (.sendDownlink l)) (.closeCycle l))
        (.releaseStanding l)
    refine Keeps.trans (Keeps.trans (hsent.trans ?_) (.post _ _)) (.endOldest _ _)
    · refine .modLink l (fun _ => rfl) fun k _ hok => ?_
      obtain ⟨-, -, hr, hm, -⟩ := hok.state
      exact (CraneLink.ok_iff _).mpr ⟨hok.limits, ⟨by simp, by simp, hr, hm, by simp⟩, hok.parts⟩

/-- The timer of a link out of IDLE starts again. -/
theorem Keeps.startCycle (l : Nat) (h : ∀ k, s.links.get? l = some k → k.state ≠ .idle) :
    Keeps x s (s.modLink l fun k => { k with cycle := some k.period }) := by
  refine .modLink l (fun _ => rfl) fun k hk hok => ?_
  obtain ⟨-, hruns, hr, hm, hcause⟩ := hok.state
  exact (CraneLink.ok_iff _).mpr ⟨hok.limits, ⟨by simpa using h k hk, hruns, hr, hm, hcause⟩, hok.parts⟩

theorem Keeps.runningExpiry (l : Nat)
    (h : ∀ k, s.links.get? l = some k → k.state = .running ∨ k.state = .holding) : Keeps x s (s.runningExpiry l) :=
  Keeps.trans (Keeps.trans (Keeps.trans (Keeps.trans (Keeps.trans (.uplinkCheck l h) (.assemblyCheck l))
    (.setpointStage l)) (.handoverStep l)) (.sendDownlink l)) (.closeCycle l)

theorem Keeps.stoppedExpiry (l : Nat) (k : CraneLink) (h : ∀ k, s.links.get? l = some k → k.state = .safeStop) :
    Keeps x s (s.stoppedExpiry l k) := by
  unfold State.stoppedExpiry
  dsimp only
  refine .ite (fun _ => Keeps.trans (.assemblyCheck l) (.completeRelease l)) fun _ => ?_
  refine Keeps.trans (Keeps.trans (Keeps.trans (Keeps.trans (.assemblyCheck l) ?_) (.handoverStep l)) (.sendDownlink l))
    (.closeCycle l)
  split
  · refine .resume l _ fun k' hk' => ?_
    rw [State.assemblyCheck, get?_modLink] at hk'
    obtain ⟨k, hk, rfl⟩ := Option.map_eq_some_iff.mp hk'
    split
    · exact h k hk
    · exact h k hk
  · exact .refl _

theorem Keeps.cycleExpiry (l : Nat) : Keeps x s (s.cycleExpiry l) := by
  unfold State.cycleExpiry
  cases e : s.links.get? l with
  | none => exact .refl s
  | some k =>
    refine .ite (fun _ => ?_) fun _ => .refl s
    have hafter : ∀ k', (s.modLink l fun k => { k with cycle := some k.period }).links.get? l = some k' →
        k'.state = k.state := fun k' hk' => by
      rw [get?_modLink, e] at hk'
      cases hk'
      rfl
    have hstart (hne : k.state ≠ .idle) : Keeps x s (s.modLink l fun k => { k with cycle := some k.period }) :=
      .startCycle l fun k' hk' => by cases e.symm.trans hk'; exact hne
    dsimp only
    split
    · next hs => exact (hstart (by simp [hs])).trans (.runningExpiry l fun k' hk' => .inl ((hafter k' hk').trans hs))
    · next hs => exact (hstart (by simp [hs])).trans (.runningExpiry l fun k' hk' => .inr ((hafter k' hk').trans hs))
    · next hs => exact (hstart (by simp [hs])).trans (.stoppedExpiry l k fun k' hk' => (hafter k' hk').trans hs)
    · exact .refl s

end Sys2Proof.Machine
end

section
/-! What the operations of pages, contact and reefer records keep. -/

namespace Sys2Proof.Machine

variable {x : Option Law} {s : State}

theorem modReefer_modReefer (s : State) (i : Nat) (f g : Reefer → Reefer) :
    (s.modReefer i f).modReefer i g = s.modReefer i (g ∘ f) := by
  simp only [State.modReefer, Table.modify_modify]

theorem get?_modReefer (s : State) (i : Nat) (f : Reefer → Reefer) :
    (s.modReefer i f).reefers.get? i = (s.reefers.get? i).map f :=
  Table.get?_modify_self _ _ _

/-- A change of a reefer record that leaves its owner: only the law of the reefer records asks for more. -/
theorem Keeps.modReefer_any (i : Nat) {f : Reefer → Reefer} (ho : ∀ r, (f r).owner = r.owner) :
    Keeps (some .reefers) s (s.modReefer i f) := by
  have fixed : (s.modReefer i f).fixed = s.fixed := by
    rw [State.fixed, State.modReefer_reefers, Table.map_modify_of_forall ho]
    rfl
  refine ⟨fixed, fun m hm h => ?_⟩
  cases m with
  | reefers => exact absurd rfl hm
  | ports => exact h
  | heads => exact h
  | links => exact fun w => h (tablesLaw_of_fixed fixed.symm w)
  | cands => exact fun w => h (tablesLaw_of_fixed fixed.symm w)

/-- A step that keeps all laws but that of the reefer records, and whose effect on those is one change in place. -/
theorem Keeps.andReefers {t : State} (a : Keeps (some .reefers) s t) (i : Nat) {f : Reefer → Reefer}
    (ht : s.tablesLaw → t.reefers = s.reefers.modify i f) (hf : ∀ r, s.reefers.get? i = some r → r.ok → (f r).ok) :
    Keeps x s t := by
  refine (a.and fun h w => ?_).but
  have ws := tablesLaw_of_fixed a.fixed.symm w
  obtain ⟨-, -, hreefers, -⟩ := id ws
  rw [State.reeferLaw, ht ws]
  exact Table.forall_modify hreefers (h ws) hf

/-! ### Reefer records -/

/-- Status fields, counts and settings of a reefer record within Table 7-1. -/
def Reefer.figuresOk (r : Reefer) : Prop :=
  (∀ t ∈ r.supply, t.ok) ∧ (∀ t ∈ r.ret, t.ok) ∧ (∀ t ∈ r.setpoint, t.ok) ∧ (∀ b ∈ r.booked, -400 ≤ b ∧ b ≤ 400) ∧
  r.persist ≤ 15 ∧ (∀ d ∈ r.lastDev, d ≤ 800) ∧ 10 ≤ r.interval ∧ r.interval ≤ 3600 ∧ r.grace ≤ 600 ∧
  r.age ≤ Config.ageMax ∧ r.missed ≤ 255

/-- Doze state, ack limit timer and page of a reefer record in step. -/
def Reefer.dozeOk (r : Reefer) : Prop :=
  (r.ackTimer.isSome ↔ r.doze = .ordered) ∧
  (∀ p ∈ r.page, p.attempts ≤ 1 ∧ r.doze ≠ .awake ∧ (p.phase = .ackWait ↔ r.doze = .ordered))

theorem Reefer.ok_iff (r : Reefer) : r.ok ↔ r.figuresOk ∧ r.dozeOk := by
  unfold Reefer.ok figuresOk dozeOk
  tauto

section
variable {r : Reefer}

theorem Reefer.ok.figures (h : r.ok) : r.figuresOk := (r.ok_iff.mp h).1
theorem Reefer.ok.dozes (h : r.ok) : r.dozeOk := (r.ok_iff.mp h).2

theorem Reefer.ok_noPage (h : r.ok) : Reefer.ok { r with page := none } :=
  (Reefer.ok_iff _).mpr ⟨h.figures, h.dozes.1, nofun⟩

/-- A reefer that is not ordered to doze, with no page. -/
theorem Reefer.ok_doze (h : r.figuresOk) {d : Doze} (hd : d ≠ .ordered) :
    Reefer.ok { r with doze := d, ackTimer := none, page := none } :=
  (Reefer.ok_iff _).mpr ⟨h, by simpa using hd, nofun⟩

/-- A page changed within its attempts, its phase ACK_WAIT exactly when it was. -/
theorem Reefer.ok_page (h : r.ok) {f : Page → Page} (hf : ∀ p, r.page = some p → p.attempts ≤ 1 →
    (f p).attempts ≤ 1 ∧ ((f p).phase = .ackWait ↔ p.phase = .ackWait)) : Reefer.ok { r with page := r.page.map f } := by
  obtain ⟨hack, hpage⟩ := h.dozes
  refine (Reefer.ok_iff _).mpr ⟨h.figures, hack, fun q hq => ?_⟩
  obtain ⟨p, hp, rfl⟩ := Option.map_eq_some_iff.mp hq
  obtain ⟨hatt, hne, hphase⟩ := hpage p hp
  obtain ⟨hatt', hphase'⟩ := hf p hp hatt
  exact ⟨hatt', hne, hphase'.trans hphase⟩

end

/-! ### Pages and contact -/

theorem Keeps.setContact (i : Nat) (c : Contact) : Keeps x s (s.setContact i c) := by
  rcases s.setContact_cases i c with ⟨h, -⟩ | ⟨r, -, -, h⟩
  · rw [h]; exact .refl s
  · rw [h]
    refine Keeps.trans ?_ (.post _ _)
    exact .modReefer i (fun _ => rfl) fun _ _ => id

theorem Keeps.endPage (i : Nat) (res : Result) : Keeps x s (s.endPage i res) := by
  rcases s.endPage_cases i res with ⟨-, h⟩ | ⟨r, p, -, -, h⟩
  · rw [h]; exact .refl s
  · rw [h]
    have hout : Keeps x s ((s.leavePageQueues i).modReefer i fun r => { r with page := none }) :=
      (Keeps.leavePageQueues i).trans (.modReefer i (fun _ => rfl) fun _ _ => Reefer.ok_noPage)
    cases p.owner with
    | none => exact hout
    | some q => exact hout.trans (.endOldest _ _)

/-- A change of a record that leaves it as it is. -/
theorem Table.modify_of_forall {α : Type} {t : Table α} {n k : Nat} {f : α → α} (w : t.wf n)
    (h : ∀ v, t.get? k = some v → f v = v) : t.modify k f = t := by
  refine (List.map_congr_left fun e he => ?_).trans (List.map_id t)
  split
  · next hk => rw [h e.2 (hk ▸ Table.get?_of_mem w he)]; rfl
  · rfl

/-- What ending a page makes of the reefer records. -/
theorem reefers_endPage {n : Nat} (w : s.reefers.wf n) (i : Nat) (res : Result) :
    (s.endPage i res).reefers = s.reefers.modify i fun r => { r with page := none } := by
  rcases s.endPage_cases i res with ⟨hno, h⟩ | ⟨r, p, -, -, h⟩
  · rw [h]
    refine (Table.modify_of_forall w fun r hr => ?_).symm
    have hnone : r.page = none := Option.eq_none_iff_forall_ne_some.mpr fun p => hno r p hr
    rw [← hnone]
  · rw [h]
    cases p.owner with
    | none => rfl
    | some q => dsimp only; rw [State.endOldest_frame]; rfl

theorem Keeps.failPage (i : Nat) : Keeps x s (s.failPage i) := Keeps.trans (.endPage i .failed) (.setContact i .unreachable)

theorem Keeps.modPage (i : Nat) {f : Page → Page} (hf : ∀ r p, s.reefers.get? i = some r → r.page = some p →
    p.attempts ≤ 1 → (f p).attempts ≤ 1 ∧ ((f p).phase = .ackWait ↔ p.phase = .ackWait)) : Keeps x s (s.modPage i f) :=
  .modReefer i (fun _ => rfl) fun r hr h => Reefer.ok_page h fun p hp => hf r p hr hp

theorem Keeps.queuePage (h : HeadIx) (i : Nat) (o : Option ReqTag)
    (hdoze : ∀ r, s.reefers.get? i = some r → r.doze ≠ .awake) : Keeps x s (s.queuePage h i o) := by
  refine Keeps.trans (t := s.setPageQueue h (s.pageQueue h ++ [i])) (.setPageQueue h _) ?_
  refine .modReefer i (fun _ => rfl) fun r hr hok => ?_
  refine (Reefer.ok_iff _).mpr ⟨hok.figures, hok.dozes.1, fun p hp => ?_⟩
  cases hp
  refine ⟨Nat.zero_le _, hdoze r hr, ?_⟩
  dsimp only
  cases r.doze <;> simp [Doze.pagePhase]

theorem Keeps.internalPage (h : HeadIx) (i : Nat) (hdoze : ∀ r, s.reefers.get? i = some r → r.doze ≠ .awake) :
    Keeps x s (s.internalPage h i) := by
  unfold State.internalPage
  split
  · exact .refl s
  · exact .ite (fun _ => .refl s) fun _ => .ite (fun _ => .queuePage h i none hdoze) fun _ => .refl s

theorem Keeps.sendPage (h : HeadIx) (i : Nat)
    (hp : ∀ r p, s.reefers.get? i = some r → r.page = some p → p.phase ≠ .ackWait) : Keeps x s (s.sendPage h i) := by
  unfold State.sendPage
  split
  · exact .refl s
  · refine Keeps.trans (.order _) (.modPage i fun r p hr hpage hatt => ⟨hatt, ?_⟩)
    simp [hp r p hr hpage]

theorem suits_phase {i : Nat} {sec : Sector} (h : s.suits i sec = true) {r : Reefer} {p : Page}
    (hr : s.reefers.get? i = some r) (hp : r.page = some p) : p.phase = .slotWait := by
  unfold State.suits at h
  rw [hr] at h
  split at h
  · next r' c hr' hc =>
    cases hr'
    simp only [hp, Bool.and_eq_true, beq_iff_eq] at h
    exact h.1
  · cases h

theorem Keeps.releaseFrom (h : HeadIx) (sec : Sector) (q : List Nat) : Keeps x s (releaseFrom h sec q s) := by
  induction q generalizing s with
  | nil => exact .refl s
  | cons i rest ih =>
    refine Keeps.trans (.ite (fun hsuits => ?_) fun _ => .refl s) ih
    exact .sendPage h i fun r p hr hp => by simp [suits_phase hsuits hr hp]

theorem Keeps.releasePages (h : HeadIx) (sec : Sector) : Keeps x s (s.releasePages h sec) := .releaseFrom h sec _

theorem Keeps.wrapFrom (h : HeadIx) (q : List Nat) : Keeps x s (wrapFrom h q s) := by
  induction q generalizing s with
  | nil => exact .refl s
  | cons i rest ih => exact Keeps.trans (.ite (fun _ => .endPage i .notCovered) fun _ => .refl s) ih

theorem Keeps.wrapPages (h : HeadIx) : Keeps x s (s.wrapPages h) := .wrapFrom h _

theorem Keeps.endPages (res : Result) (q : List Nat) : Keeps x s (endPages res q s) := by
  induction q generalizing s with
  | nil => exact .refl s
  | cons i rest ih => exact Keeps.trans (.endPage i res) ih

/-- Any change of the polls of records. -/
theorem Keeps.mapPolls (f : Nat × Reefer → Poll) :
    Keeps x s { s with reefers := s.reefers.map fun e => (e.1, { e.2 with poll := f e }) } := by
  refine .of_laws ?_ id (fun _ => id) (fun _ h => ?_) (fun _ => id) id
  · simp only [State.fixed, List.map_map]
    rfl
  · exact List.forall_mem_map.mpr fun e he => h e he

/-- The poll of a record after the fault of a head whose wait list was `waiting` (R37). -/
def pollAfterFault (h : HeadIx) (waiting : List Nat) (e : Nat × Reefer) : Poll :=
  if waiting.contains e.1 then .none
  else match e.2.poll with
    | .outstanding h' _ => if h' = h then .none else e.2.poll
    | _ => e.2.poll

theorem faultReefers_eq (h : HeadIx) :
    s.faultReefers h =
      let t := ((endPages .noPath (s.pageQueue h) s).setPageQueue h [])
      { t.setPollWait h [] with
        reefers := t.reefers.map fun e => (e.1, { e.2 with poll := pollAfterFault h (t.pollWait h) e }) } := by
  unfold State.faultReefers
  dsimp only
  congr 1
  refine List.map_congr_left fun e _ => ?_
  unfold pollAfterFault
  split
  · rfl
  · cases hp : e.2.poll with
    | none => simp only [← hp]
    | waiting => simp only [← hp]
    | outstanding h' n =>
      by_cases hh : h' = h
      · simp only [if_pos hh]
      · simp only [if_neg hh, ← hp]

theorem Keeps.faultReefers (h : HeadIx) : Keeps x s (s.faultReefers h) := by
  rw [faultReefers_eq]
  exact Keeps.trans (Keeps.trans (Keeps.trans (.endPages .noPath _) (.setPageQueue h [])) (.setPollWait h []))
    (.mapPolls _)

/-! ### Steps of a reefer record -/

theorem Keeps.pollIfOverdue (i : Nat) : Keeps x s (s.pollIfOverdue i) := by
  unfold State.pollIfOverdue
  split
  · exact .ite (fun _ => .makePoll i) fun _ => .refl s
  · exact .refl s

theorem Keeps.wake (i : Nat) (h : ∀ r, s.reefers.get? i = some r → r.doze.dozing = true) : Keeps x s (s.wake i) := by
  refine .andReefers (f := fun r => { r with doze := .awake, page := none })
    (Keeps.trans ?_ (.endPage i .done)) i (fun ⟨_, _, w, _⟩ => ?_) fun r hr hok => ?_
  · exact .modReefer_any i fun _ => rfl
  · refine (reefers_endPage (n := Config.reeferRecords) ?_ i .done).trans ?_
    · rw [State.modReefer_reefers]
      exact Table.modify_wf i _ w
    · rw [State.modReefer_reefers, Table.modify_modify]
      rfl
  · obtain ⟨hack, -⟩ := hok.dozes
    refine (Reefer.ok_iff _).mpr ⟨hok.figures, ?_, nofun⟩
    have := h r hr
    cases hd : r.doze <;> simp_all [Doze.dozing]

theorem Keeps.wakeByReport (i : Nat) : Keeps x s (s.wakeByReport i) := by
  unfold State.wakeByReport
  split
  · next r hr => exact .ite (fun hd => .wake i fun r' hr' => by cases hr.symm.trans hr'; exact hd) fun _ => .refl s
  · exact .refl s

/-- A change of the figures of a record, its doze state, ack limit timer and page left alone. -/
theorem Keeps.modFigures (i : Nat) {f : Reefer → Reefer} (ho : ∀ r, (f r).owner = r.owner)
    (hdoze : ∀ r : Reefer, (f r).doze = r.doze ∧ (f r).ackTimer = r.ackTimer ∧ (f r).page = r.page)
    (hf : ∀ r : Reefer, s.reefers.get? i = some r → r.figuresOk → (f r).figuresOk) : Keeps x s (s.modReefer i f) := by
  refine .modReefer i ho fun r hr hok => (Reefer.ok_iff _).mpr ⟨hf r hr hok.figures, ?_⟩
  obtain ⟨hd, ha, hp⟩ := hdoze r
  have hdozes := hok.dozes
  unfold Reefer.dozeOk at hdozes ⊢
  rwa [hd, ha, hp]

theorem saturate_ok (w : BitVec 16) : (saturate w).ok := by
  unfold saturate clampInt Temp.ok
  dsimp only
  omega

theorem Keeps.replaceStatus (i : Nat) (f : ReportFields) : Keeps x s (s.modReefer i (replaceStatus f)) := by
  refine .modFigures i (fun _ => rfl) (fun _ => ⟨rfl, rfl, rfl⟩) fun r _ h => ?_
  obtain ⟨-, -, -, hbooked, hpersist, hdev, hint, hint', hgrace, -, hmissed⟩ := h
  have hsat : ∀ w : Option (BitVec 16), ∀ t ∈ w.map saturate, t.ok := fun w t ht => by
    obtain ⟨v, -, rfl⟩ := Option.map_eq_some_iff.mp ht
    exact saturate_ok v
  exact ⟨hsat _, hsat _, hsat _, hbooked, hpersist, hdev, hint, hint', hgrace, Nat.zero_le _, hmissed⟩

theorem usedSetpoint_range {r : Reefer} (h : r.figuresOk) {p : Int} (hp : r.usedSetpoint = some p) :
    -400 ≤ p ∧ p ≤ 400 := by
  obtain ⟨-, -, hset, hbooked, -⟩ := h
  unfold Reefer.usedSetpoint at hp
  split at hp
  · next t ht => cases hp; exact hset t ht
  · exact hbooked p hp

theorem deviation_le {r : Reefer} (h : r.figuresOk) {d : Nat} (hd : r.deviation = some d) : d ≤ 800 := by
  unfold Reefer.deviation at hd
  split at hd
  · next t p ht hp =>
    cases hd
    have hrange := usedSetpoint_range h hp
    have htemp : -400 ≤ t.value ∧ t.value ≤ 400 := h.1 t ht
    omega
  · cases hd

theorem nextPersist_le (g : Settings) (dev : Option Nat) {n : Nat} (h : n ≤ 15) : nextPersist g dev n ≤ 15 := by
  unfold nextPersist
  split
  · split
    · exact satInc_le h
    · split
      · exact Nat.zero_le _
      · exact h
  · exact h

theorem Keeps.classify (i : Nat) : Keeps x s (s.classify i) := by
  unfold State.classify
  split
  · exact .refl s
  · have hclass : Keeps x s (s.modReefer i (classified s.settings)) := by
      refine .modFigures i (fun _ => rfl) (fun _ => ⟨rfl, rfl, rfl⟩) fun r _ h => ?_
      obtain ⟨hs, hr, hset, hbooked, hpersist, hdev, hrest⟩ := id h
      exact ⟨hs, hr, hset, hbooked, nextPersist_le _ _ hpersist, fun d hd => deviation_le h hd, hrest⟩
    exact .ite (fun _ => hclass) fun _ => hclass.trans (.post _ _)

theorem Keeps.dozeDecision (i : Nat) (woken : Bool) : Keeps x s (s.dozeDecision i woken) := by
  unfold State.dozeDecision
  split
  · next r c hr _ =>
    split
    · next h _ =>
      refine .ite (fun ⟨_, _, hpage, _⟩ => Keeps.trans (.order (.dozeOrder h c.tag (r.pref == .deep))) ?_) fun _ => .refl s
      refine .modReefer i (fun _ => rfl) fun r' hr' hok => ?_
      cases hr.symm.trans hr'
      refine (Reefer.ok_iff _).mpr ⟨hok.figures, by simp, fun p hp => ?_⟩
      cases hpage.symm.trans hp
    · exact .refl s
  · exact .refl s

theorem Keeps.takeReeferReport (i : Nat) (r : Reefer) (f : ReportFields) : Keeps x s (takeReeferReport i r f s) :=
  Keeps.trans (Keeps.trans (Keeps.trans (Keeps.trans (Keeps.trans (.replaceStatus i f) (.setContact i .reachable))
    (.wakeByReport i)) (.endPoll i)) (.classify i)) (.dozeDecision i _)

/-! ### A doze acknowledgement -/

/-- The record of a reefer ordered to doze once its acknowledgement is taken: the page waits for a slot, or has ended. -/
theorem Reefer.ok_acknowledged {r : Reefer} (h : r.ok) {d : Doze} (hd : d = .light ∨ d = .deep) :
    Reefer.ok { r with doze := d, ackTimer := none, page := r.page.map fun p => { p with phase := .slotWait } } := by
  have hne : d ≠ .ordered ∧ d ≠ .awake := by rcases hd with rfl | rfl <;> simp
  refine (Reefer.ok_iff _).mpr ⟨h.figures, by simpa using hne.1, fun q hq => ?_⟩
  obtain ⟨p, hp, rfl⟩ := Option.map_eq_some_iff.mp hq
  exact ⟨(h.dozes.2 p hp).1, hne.2, by simpa using hne.1⟩

theorem ackState_eq {code : Byte} {d : Doze} (h : ackState code = some d) : d = .light ∨ d = .deep := by
  unfold ackState at h
  split at h
  · cases h; exact .inl rfl
  · split at h
    · cases h; exact .inr rfl
    · cases h

/-- What an acknowledged page makes of the records, with the acknowledgement: the page waits for a slot or has ended. -/
theorem reefers_releaseAckPage {n : Nat} (w : s.reefers.wf n) {i : Nat} {r : Reefer} (hr : s.reefers.get? i = some r) :
    ((∀ p, r.page = some p → p.phase ≠ .ackWait) ∧ (s.releaseAckPage i).reefers = s.reefers) ∨
      (s.releaseAckPage i).reefers = s.reefers.modify i (fun r => { r with page := none }) ∨
      (s.releaseAckPage i).reefers =
        s.reefers.modify i fun r => { r with page := r.page.map fun p => { p with phase := .slotWait } } := by
  unfold State.releaseAckPage
  simp only [hr]
  cases hp : r.page with
  | none => exact .inl ⟨nofun, rfl⟩
  | some p =>
    have heither : ∀ (c : Prop) [Decidable c], (if c then s.endPage i .notCovered
          else s.modPage i fun p => { p with phase := .slotWait }).reefers =
            s.reefers.modify i (fun r => { r with page := none }) ∨
        (if c then s.endPage i .notCovered else s.modPage i fun p => { p with phase := .slotWait }).reefers =
          s.reefers.modify i fun r => { r with page := r.page.map fun p => { p with phase := .slotWait } } := fun c _ => by
      split
      · exact .inl (reefers_endPage w i .notCovered)
      · exact .inr rfl
    dsimp only
    split
    · exact .inr (heither _)
    · next hne => exact .inl ⟨fun q hq => by cases hq; exact hne, rfl⟩

theorem Keeps.releaseAckPage_any (i : Nat) : Keeps (some .reefers) s (s.releaseAckPage i) := by
  unfold State.releaseAckPage
  split
  · exact .refl s
  · split
    · exact .refl s
    · exact .ite (fun _ => .ite (fun _ => .endPage i .notCovered) fun _ => .modReefer_any i fun _ => rfl)
        fun _ => .refl s

theorem Keeps.acknowledge (i : Nat) {d : Doze} (hd : d = .light ∨ d = .deep)
    (hr : ∀ r, s.reefers.get? i = some r → r.doze = .ordered) :
    Keeps x s ((s.modReefer i fun r => { r with doze := d, ackTimer := none }).releaseAckPage i) := by
  have hany : Keeps (some .reefers) s ((s.modReefer i fun r => { r with doze := d, ackTimer := none }).releaseAckPage i) := by
    refine Keeps.trans ?_ (.releaseAckPage_any i)
    exact .modReefer_any i fun _ => rfl
  have hne : d ≠ .ordered := by rcases hd with rfl | rfl <;> simp
  refine (hany.and fun h w => ?_).but
  have ws := tablesLaw_of_fixed hany.fixed.symm w
  obtain ⟨-, -, wr, -⟩ := id ws
  cases e : s.reefers.get? i with
  | none =>
    have hsame : s.modReefer i (fun r => { r with doze := d, ackTimer := none }) = s := by
      rw [State.modReefer, Table.modify_of_get?_none _ _ _ e]
    rw [hsame, State.releaseAckPage, e]
    exact h ws
  | some r =>
    have hok := h ws (i, r) (Table.mem_of_get? e)
    have hget := get?_modReefer s i fun r => { r with doze := d, ackTimer := none }
    rw [e] at hget
    have hmod : (s.modReefer i fun r => { r with doze := d, ackTimer := none }).reefers.wf Config.reeferRecords := by
      rw [State.modReefer_reefers]
      exact Table.modify_wf i _ wr
    rcases reefers_releaseAckPage hmod hget with ⟨hphase, ht⟩ | ht | ht <;> rw [State.reeferLaw, ht]
    · rw [State.modReefer_reefers]
      refine Table.forall_modify wr (h ws) fun r' hr' hok' => ?_
      cases e.symm.trans hr'
      refine (Reefer.ok_iff _).mpr ⟨hok.figures, by simpa using hne, fun p hp => ?_⟩
      exact absurd ((hok.dozes.2 p hp).2.2.mpr (hr r e)) (hphase p hp)
    · rw [State.modReefer_reefers, Table.modify_modify]
      exact Table.forall_modify wr (h ws) fun r' _ hok' => Reefer.ok_doze hok'.figures hne
    · rw [State.modReefer_reefers, Table.modify_modify]
      exact Table.forall_modify wr (h ws) fun r' _ hok' => Reefer.ok_acknowledged hok' hd

theorem get?_setContact_doze {i : Nat} {c : Contact} {r : Reefer} (h : (s.setContact i c).reefers.get? i = some r) :
    ∃ r', s.reefers.get? i = some r' ∧ r.doze = r'.doze := by
  rcases s.setContact_cases i c with ⟨e, -⟩ | ⟨r', -, -, e⟩
  · rw [e] at h; exact ⟨r, h, rfl⟩
  · rw [e, State.post_reefers, get?_modReefer] at h
    obtain ⟨r', hr', rfl⟩ := Option.map_eq_some_iff.mp h
    exact ⟨r', hr', rfl⟩

theorem Keeps.takeDozeAck (code : Byte) (i : Nat) (r : Reefer) (hr : s.reefers.get? i = some r) :
    Keeps x s (takeDozeAck code i r s) := by
  unfold Machine.takeDozeAck
  dsimp only
  split
  · next d hd =>
    refine .ite (fun hord => Keeps.trans (.setContact i .reachable) (.acknowledge i (ackState_eq hd) fun r' hr' => ?_))
      fun _ => .setContact i .reachable
    obtain ⟨r'', hr'', hdoze⟩ := get?_setContact_doze hr'
    cases hr.symm.trans hr''
    exact hdoze.trans hord
  · exact .setContact i .reachable

theorem Keeps.takePageAnswer (i : Nat) (r : Reefer) (hr : s.reefers.get? i = some r) :
    Keeps x s (takePageAnswer i r s) := by
  refine .ite (fun hdoze => Keeps.trans (Keeps.trans (.setContact i .reachable) (.wake i fun r' hr' => ?_))
    (.pollIfOverdue i)) fun _ => .setContact i .reachable
  obtain ⟨r'', hr'', hd⟩ := get?_setContact_doze hr'
  cases hr.symm.trans hr''
  rwa [hd]

/-! ### Expiries of a record -/

/-- The ack limit expiry up to the overdue poll: the page of the record ends when it waits for the acknowledgement. -/
theorem Keeps.ackExpiry (i : Nat) : Keeps x s (s.ackExpiry i) := by
  unfold State.ackExpiry
  split
  · exact .refl s
  · next r e =>
    refine .ite (fun ⟨hdue, _⟩ => Keeps.trans ?_ (.pollIfOverdue i)) fun _ => .refl s
    have hawake : Keeps (some .reefers) s (s.modReefer i fun r => { r with doze := .awake, ackTimer := none }) :=
      .modReefer_any i fun _ => rfl
    have hack : r.ackTimer.isSome := by
      have : r.ackTimer = some 0 := by simpa [Reefer.ackDue] using hdue
      simp [this]
    have hend : ∀ p, r.page = some p → Keeps x s
        ((s.modReefer i fun r => { r with doze := .awake, ackTimer := none }).endPage i .alreadyAwake) := fun p _ => by
      refine .andReefers (f := fun r => { r with doze := .awake, ackTimer := none, page := none })
        (hawake.trans (.endPage i .alreadyAwake)) i (fun ⟨_, _, w, _⟩ => ?_) fun r _ hok => Reefer.ok_doze hok.figures nofun
      refine (reefers_endPage (n := Config.reeferRecords) ?_ i .alreadyAwake).trans ?_
      · rw [State.modReefer_reefers]
        exact Table.modify_wf i _ w
      · rw [State.modReefer_reefers, Table.modify_modify]
        rfl
    have hstay : (∀ p, r.page = some p → p.phase ≠ .ackWait) →
        Keeps x s (s.modReefer i fun r => { r with doze := .awake, ackTimer := none }) := fun hphase => by
      refine .andReefers hawake i (fun _ => State.modReefer_reefers ..) fun r' hr' hok => ?_
      cases e.symm.trans hr'
      refine (Reefer.ok_iff _).mpr ⟨hok.figures, by simp, fun p hp => ?_⟩
      exact absurd ((hok.dozes.2 p hp).2.2.mpr (hok.dozes.1.mp hack)) (hphase p hp)
    cases hp : r.page with
    | none => exact hstay fun p hp' => by cases hp.symm.trans hp'
    | some p =>
      refine .ite (fun _ => hend p hp) fun hne => hstay fun p' hp' => ?_
      cases hp.symm.trans hp'
      exact hne

theorem Keeps.pageExpiry (i : Nat) : Keeps x s (s.pageExpiry i) := by
  unfold State.pageExpiry
  split
  · exact .refl s
  · next r e =>
    split
    · exact .refl s
    · next p hp =>
      refine .ite (fun hsent => .ite (fun hatt => ?_) fun _ => .failPage i) fun _ => .refl s
      refine .modPage i fun r' p' hr' hp' _ => ?_
      cases e.symm.trans hr'
      cases hp.symm.trans hp'
      exact ⟨Nat.le_of_lt_succ hatt, by simp [hsent]⟩

theorem Keeps.pollExpiry (i : Nat) : Keeps x s (s.pollExpiry i) := by
  unfold State.pollExpiry
  split
  · exact .refl s
  · split
    · exact .ite (fun _ => Keeps.trans (.setPoll i .none) (.returnCredit _)) fun _ => .refl s
    · exact .refl s
    · exact .refl s

theorem second_ok {r : Reefer} (h : r.ok) : r.second.ok := by
  unfold Reefer.second
  split
  · next hlt =>
    obtain ⟨h1, h2, h3, h4, h5, h6, h7, h8, h9, -, h11⟩ := h.figures
    exact (Reefer.ok_iff _).mpr ⟨⟨h1, h2, h3, h4, h5, h6, h7, h8, h9, hlt, h11⟩, h.dozes⟩
  · exact h

/-- A change of every reefer record that leaves each owner and keeps each within its bounds. -/
theorem Keeps.mapReefers {f : Reefer → Reefer} (ho : ∀ r, (f r).owner = r.owner) (hf : ∀ r : Reefer, r.ok → (f r).ok) :
    Keeps x s { s with reefers := s.reefers.mapAll f } := by
  refine .of_laws ?_ id (fun _ => id) (fun _ h => ?_) (fun _ => id) id
  · simp only [State.fixed, Table.mapAll, List.map_map, Function.comp_def, ho]
    rfl
  · exact List.forall_mem_map.mpr fun e he => hf e.2 (h e he)

theorem Keeps.secondPass : Keeps x s s.secondPass := by
  refine .ite (fun _ => ?_) fun _ => .refl s
  refine Keeps.trans (.mapReefers (f := Reefer.second) (fun r => ?_) fun _ => second_ok) (.of_records_same rfl)
  unfold Reefer.second
  split <;> rfl

theorem Keeps.overdueAction (i : Nat) : Keeps x s (s.overdueAction i) := by
  unfold State.overdueAction
  split
  · next r h e _ =>
    have hpage (hne : r.doze ≠ .awake) : Keeps x s (if r.page.isNone then s.internalPage h i else s) :=
      .ite (fun _ => .internalPage h i fun r' hr' => by cases e.symm.trans hr'; exact hne) fun _ => .refl s
    split
    · exact .makePoll i
    · next hd => exact hpage (by simp [hd])
    · next hd => exact hpage (by simp [hd])
    · next hd => exact hpage (by simp [hd])
  · exact .refl s

theorem Keeps.overdueExpiry (i : Nat) : Keeps x s (s.overdueExpiry i) := by
  unfold State.overdueExpiry
  split
  · exact .refl s
  · refine .ite (fun _ => Keeps.trans ?_ (.overdueAction i)) fun _ => .refl s
    refine .modFigures i (fun _ => rfl) (fun _ => ⟨rfl, rfl, rfl⟩) fun r _ h => ?_
    obtain ⟨h1, h2, h3, h4, h5, h6, h7, h8, h9, h10, h11⟩ := h
    exact ⟨h1, h2, h3, h4, h5, h6, h7, h8, h9, h10, satInc_le h11⟩

/-! ### Reefer work that moves (R88, R89) -/

theorem Keeps.movePage (i : Nat) (new : HeadIx) : Keeps x s (s.movePage i new) := by
  unfold State.movePage
  split
  · exact .refl s
  · next r e =>
    split
    · exact .refl s
    · next p hp =>
      dsimp only
      refine .ite (fun _ => .failPage i) fun hatt => .ite (fun _ => .endPage i .notCovered) fun _ =>
        .ite (fun _ => ?_) fun _ => .endPage i .noPath
      refine Keeps.trans (Keeps.trans (.leavePageQueues i) ?_) (.setPageQueue new _)
      refine .modPage i fun r' p' hr' hp' _ => ?_
      cases e.symm.trans hr'
      cases hp.symm.trans hp'
      refine ⟨Nat.le_of_not_lt fun h => hatt h, ?_⟩
      dsimp only
      split
      · next hsent => simp [hsent]
      · rfl

theorem Keeps.moveWait (i : Nat) (new : HeadIx) : Keeps x s (s.moveWait i new) := by
  unfold State.moveWait
  split
  · exact .refl s
  · exact .ite (fun _ => Keeps.trans (Keeps.trans (.leaveWaitLists i) (.setPollWait new _)) (.waitPass new)) fun _ => .refl s

theorem Keeps.moveReeferWork (c : Context) (new : HeadIx) : Keeps x s (s.moveReeferWork c new) := by
  unfold State.moveReeferWork
  split
  · exact Keeps.trans (.movePage _ new) (.moveWait _ new)
  · exact .refl s

theorem Keeps.endReeferWork (i : Nat) : Keeps x s (s.endReeferWork i) :=
  Keeps.trans (Keeps.trans (.endPage i .retired) (.leaveWaitLists i)) (.endPoll i)

end Sys2Proof.Machine
end

section
/-! What the operations of the heads keep. -/

namespace Sys2Proof.Machine

variable {x : Option Law} {s : State}

/-! ### Head records -/

/-- The settings of a head record within Table 2-1. -/
def Head.settingsOk (y : Head) : Prop :=
  16 ≤ y.capacity ∧ y.capacity ≤ 240 ∧ 1 ≤ y.startFrames ∧ y.startFrames ≤ 65535 ∧
  1 ≤ y.lockLimit ∧ y.lockLimit ≤ 65535 ∧ 1 ≤ y.holdoverLimit ∧ y.holdoverLimit ≤ 65535 ∧ y.spanFirst ≤ y.spanLast

/-- The schedules of a head record and where its sweep stands. -/
def Head.sweepOk (y : Head) : Prop :=
  y.active.ok ∧ (∀ d ∈ y.staged, d.ok) ∧ (y.staged.isSome → y.state.inService) ∧
  (y.sweep.isSome ↔ y.state.inService) ∧ (∀ p ∈ y.sweep, p.slot < y.active.count)

/-- The timers and the lock flag of a head record, by its state. -/
def Head.timersOk (y : Head) : Prop :=
  (y.startTimer.isSome → y.state = .starting) ∧ (y.lockTimer.isSome ↔ y.state = .starting ∧ y.locked = false) ∧
  (y.holdoverTimer.isSome ↔ y.state = .holdover) ∧ (y.state = .active → y.locked)

theorem Head.ok_iff (y : Head) : y.ok ↔ y.settingsOk ∧ y.sweepOk ∧ y.timersOk := by
  simp only [Head.ok, settingsOk, sweepOk, timersOk, and_assoc]

section
variable {y : Head}

theorem Head.ok.set (h : y.ok) : y.settingsOk := (y.ok_iff.mp h).1
theorem Head.ok.sweeps (h : y.ok) : y.sweepOk := (y.ok_iff.mp h).2.1
theorem Head.ok.timers (h : y.ok) : y.timersOk := (y.ok_iff.mp h).2.2

/-- A sweep at slot `k` of an active schedule `d`, with at most the schedule given staged, on a head in service. -/
theorem Head.sweepOk_at {d : Schedule} {k n : Nat} {o : Option Schedule} (hd : d.ok) (hk : k < d.count)
    (ho : ∀ e ∈ o, e.ok) (hs : y.state.inService = true) :
    Head.sweepOk { y with active := d, staged := o, sweep := some { slot := k, remaining := n } } :=
  ⟨hd, ho, fun _ => hs, ⟨fun _ => hs, fun _ => rfl⟩, fun p hp => by cases hp; exact hk⟩

/-- The sweep of a head that goes on in service. -/
theorem Head.sweepOk_state (h : y.sweepOk) (hs : y.state.inService = true) {st : HeadState} (hst : st.inService = true) :
    y.active.ok ∧ (∀ d ∈ y.staged, d.ok) ∧ (y.staged.isSome → st.inService) ∧
      (y.sweep.isSome ↔ st.inService) ∧ (∀ p ∈ y.sweep, p.slot < y.active.count) := by
  obtain ⟨ha, hd, -, hsweep, hslot⟩ := h
  exact ⟨ha, hd, fun _ => hst, ⟨fun _ => hst, fun _ => hsweep.mpr hs⟩, hslot⟩

end

/-! ### The sweep -/

theorem Keeps.modHead_any (h : HeadIx) (f : Head → Head) (hf : (f (s.head h)).config = (s.head h).config) :
    Keeps (some .heads) s (s.modHead h f) :=
  .setHead_any h _ hf

theorem Keeps.enterSlot_any (h : HeadIx) (k : Nat) : Keeps (some .heads) s (s.enterSlot h k) := by
  have hset : Keeps (some .heads) s ((s.modHead h fun y =>
      { y with sweep := some { slot := k, remaining := 2 * (s.head h).active.dwell } }).order
      (.beam h ((s.head h).active.slot k))) := by
    refine Keeps.trans ?_ (.order _)
    exact .modHead_any h _ rfl
  unfold State.enterSlot
  dsimp only
  split
  · exact hset.trans (.releasePages h _)
  · exact hset

theorem heads_releasePages (h : HeadIx) (sec : Sector) : (s.releasePages h sec).heads = s.heads := by
  rw [s.releasePages_frame h sec]

theorem heads_enterSlot (h : HeadIx) (k : Nat) :
    (s.enterSlot h k).heads = (s.modHead h fun y =>
      { y with sweep := some { slot := k, remaining := 2 * y.active.dwell } }).heads := by
  unfold State.enterSlot
  dsimp only
  split
  · rw [heads_releasePages]; rfl
  · rfl

theorem headLaw_congr {t : State} (h : t.heads = s.heads) : t.headLaw ↔ s.headLaw := by
  unfold State.headLaw State.head
  rw [h]

theorem Keeps.enterSlot (h : HeadIx) (k : Nat) (hk : (s.head h).ok → (s.head h).state.inService ∧ k < (s.head h).active.count) :
    Keeps x s (s.enterSlot h k) := by
  refine ((Keeps.enterSlot_any h k).and fun hs => (headLaw_congr (heads_enterSlot h k)).mpr ?_).but
  refine headLaw_setHead hs ?_
  have hok := hs h
  obtain ⟨hserv, hlt⟩ := hk hok
  obtain ⟨ha, hd, -⟩ := hok.sweeps
  exact (Head.ok_iff _).mpr ⟨hok.set, Head.sweepOk_at ha hlt hd hserv, hok.timers⟩

theorem Keeps.applyStaged_any (h : HeadIx) : Keeps (some .heads) s (s.applyStaged h) := by
  unfold State.applyStaged
  split
  · refine Keeps.trans ?_ (.endOldest _ _)
    exact .modHead_any h _ rfl
  · exact .refl s

theorem Head.apply_none {y : Head} (h : y.staged = none) :
    { y with active := y.staged.getD y.active, staged := none } = y := by
  cases y
  cases h
  rfl

theorem heads_applyStaged (h : HeadIx) :
    (s.applyStaged h).heads =
      (s.modHead h fun y => { y with active := y.staged.getD y.active, staged := none }).heads := by
  unfold State.applyStaged
  split
  · next d hd =>
    rw [State.endOldest_frame, State.modHead_eq, State.modHead_eq]
    simp only [hd, Option.getD_some]
  · next hd =>
    rw [State.modHead_eq, Head.apply_none hd, State.setHead_head]

theorem heads_wrapPages (h : HeadIx) : (s.wrapPages h).heads = s.heads := by
  rw [s.wrapPages_frame h]

/-- The record of a head whose sweep wraps: the staged schedule is the active one, and the sweep is at slot 0. -/
theorem head_wrap (h : HeadIx) :
    (s.wrap h).heads = (s.modHead h fun y =>
      { y with
        active := y.staged.getD y.active, staged := none,
        sweep := some { slot := 0, remaining := 2 * (y.staged.getD y.active).dwell } }).heads := by
  have hsame : ∀ t u : State, t.heads = u.heads → ∀ f, (t.modHead h f).heads = (u.modHead h f).heads := fun t u e f => by
    simp only [State.modHead, State.setHead, State.head, e]
  unfold State.wrap
  rw [heads_enterSlot, hsame _ _ ((heads_wrapPages h).trans (heads_applyStaged h)), State.modHead_eq, State.modHead_eq,
    State.modHead_eq, State.head_setHead_self, State.setHead_setHead]

theorem Keeps.wrap (h : HeadIx) (hs : (s.head h).ok → (s.head h).state.inService = true) : Keeps x s (s.wrap h) := by
  have hany : Keeps (some .heads) s (s.wrap h) :=
    Keeps.trans (Keeps.trans (.applyStaged_any h) (.wrapPages h)) (.enterSlot_any h 0)
  refine (hany.and fun hlaw => (headLaw_congr (head_wrap h)).mpr ?_).but
  refine headLaw_setHead hlaw ?_
  have hok := hlaw h
  obtain ⟨ha, hd, -⟩ := hok.sweeps
  have hactive : ((s.head h).staged.getD (s.head h).active).ok := by
    cases e : (s.head h).staged with
    | none => exact ha
    | some d => exact hd d e
  exact (Head.ok_iff _).mpr ⟨hok.set, Head.sweepOk_at hactive hactive.1 nofun (hs hok), hok.timers⟩

theorem Keeps.dwellExpiry (h : HeadIx) : Keeps x s (s.dwellExpiry h) := by
  unfold State.dwellExpiry
  split
  · next p hp =>
    have hserv (hok : (s.head h).ok) : (s.head h).state.inService = true := by
      obtain ⟨-, -, -, hsweep, -⟩ := hok.sweeps
      exact hsweep.mp (by simp [hp])
    exact .ite (fun _ => .ite (fun hlt => .enterSlot h _ fun hok => ⟨hserv hok, hlt⟩) fun _ => .wrap h hserv) fun _ => .refl s
  · exact .refl s

/-! ### Changes of state -/

theorem Keeps.postHeadState (h : HeadIx) : Keeps x s (s.postHeadState h) := .post _ _

theorem Keeps.changeHead (h : HeadIx) (f : Head → Head) (hf : (f (s.head h)).config = (s.head h).config)
    (hok : (s.head h).ok → (f (s.head h)).ok) : Keeps x s (s.changeHead h f) := by
  have hpost : Keeps x s ((s.modHead h f).postHeadState h) := (Keeps.modHead h f hf hok).trans (.postHeadState h)
  exact Keeps.trans (.ite (fun _ => hpost.trans (.cancelPrepared h)) fun _ => hpost) (.fit h)

theorem Keeps.enterActive (h : HeadIx) (hs : (s.head h).state.inService = true) : Keeps x s (s.enterActive h) := by
  refine .changeHead h _ rfl fun hok => ?_
  exact (Head.ok_iff _).mpr ⟨hok.set, Head.sweepOk_state hok.sweeps hs rfl, by simp [Head.timersOk]⟩

theorem Keeps.enterFault (h : HeadIx) (cause : FaultCause) : Keeps x s (s.enterFault h cause) := by
  have hpost : Keeps x s ((s.modHead h fun y =>
      { y with
        state := .faulted, cause := cause, startTimer := none, lockTimer := none, holdoverTimer := none, sweep := none,
        active := y.staged.getD y.active, staged := none }).postHeadState h) := by
    refine Keeps.trans ?_ (.postHeadState h)
    refine .modHead h _ rfl fun hok => ?_
    obtain ⟨ha, hd, -⟩ := hok.sweeps
    have hactive : ((s.head h).staged.getD (s.head h).active).ok := by
      cases e : (s.head h).staged with
      | none => exact ha
      | some d => exact hd d e
    exact (Head.ok_iff _).mpr ⟨hok.set, ⟨hactive, nofun, nofun, by simp [HeadState.inService], nofun⟩, by simp [Head.timersOk]⟩
  have hcleared (t : State) : Keeps x t ((t.modAccount h fun a => { a with list := [], polls := 0 }).fit h) :=
    .modAccount_fit h _ fun _ => rfl
  have hall (t : State) (ks : List Nat) (held : List Nat) (ht : Keeps x s t) :
      Keeps x s ((Machine.faultContexts h held ks (((t.order (.beam h none)).modAccount h fun a =>
        { a with list := [], polls := 0 }).fit h)).faultReefers h) :=
    Keeps.trans (Keeps.trans (Keeps.trans (ht.trans (.order _)) (hcleared _)) (.faultContexts h held ks)) (.faultReefers h)
  have hcancelled : Keeps x s (if (s.head h).state = .active
      then ((s.modHead h fun y =>
        { y with
          state := .faulted, cause := cause, startTimer := none, lockTimer := none, holdoverTimer := none, sweep := none,
          active := y.staged.getD y.active, staged := none }).postHeadState h).cancelPrepared h
      else ((s.modHead h fun y =>
        { y with
          state := .faulted, cause := cause, startTimer := none, lockTimer := none, holdoverTimer := none, sweep := none,
          active := y.staged.getD y.active, staged := none }).postHeadState h)) :=
    .ite (fun _ => hpost.trans (.cancelPrepared h)) fun _ => hpost
  exact .ite (fun _ => (hall _ _ _ hcancelled).trans (.endOldest _ _)) fun _ => hall _ _ _ hcancelled

/-! ### Head events and expiries -/

theorem Keeps.headUp (h : HeadIx) : Keeps x s (headUp h s) := by
  refine .ite (fun hoff => ?_) fun _ => .refl s
  have hany : Keeps (some .heads) s (((s.modHead h fun y =>
      { y with
        state := .starting, cause := .none, locked := false, startTimer := some y.startFrames,
        lockTimer := some y.lockLimit, holdoverTimer := none }).enterSlot h 0)) :=
    (Keeps.modHead_any h _ rfl).trans (.enterSlot_any h 0)
  refine Keeps.trans (Keeps.trans ((hany.and fun hs => (headLaw_congr (heads_enterSlot h 0)).mpr ?_).but)
    (.postHeadState h)) (.fit h)
  rw [State.modHead_eq, State.modHead_eq, State.head_setHead_self, State.setHead_setHead]
  refine headLaw_setHead hs ?_
  have hok := hs h
  obtain ⟨ha, hd, -⟩ := hok.sweeps
  exact (Head.ok_iff _).mpr ⟨hok.set, Head.sweepOk_at ha ha.1 hd rfl, by simp [Head.timersOk]⟩

theorem Keeps.syncLock (h : HeadIx) : Keeps x s (syncLock h s) := by
  unfold Machine.syncLock
  split
  · next hst =>
    refine .ite (fun _ => .refl s) fun _ => .ite (fun _ => .enterActive h (by rw [hst]; rfl)) fun _ => ?_
    refine .modHead h _ rfl fun hok => ?_
    obtain ⟨hstart, -, hhold, -⟩ := hok.timers
    exact (Head.ok_iff _).mpr ⟨hok.set, hok.sweeps, hstart, by simp, hhold, by simp [hst]⟩
  · next hst => exact .enterActive h (by rw [hst]; rfl)
  all_goals exact .refl s

theorem Keeps.syncLost (h : HeadIx) : Keeps x s (syncLost h s) := by
  unfold Machine.syncLost
  split
  · next hst =>
    refine .modHead h _ rfl fun hok => ?_
    obtain ⟨hstart, -, hhold, -⟩ := hok.timers
    exact (Head.ok_iff _).mpr ⟨hok.set, hok.sweeps, hstart, by simp [hst], hhold, by simp [hst]⟩
  · next hst =>
    refine .changeHead h _ rfl fun hok => ?_
    obtain ⟨hstart, hlock, -, -⟩ := hok.timers
    exact (Head.ok_iff _).mpr ⟨hok.set, Head.sweepOk_state hok.sweeps (by rw [hst]; rfl) rfl,
      fun h => absurd (hstart h) (by simp [hst]), by simpa [hst] using hlock, by simp, by simp⟩
  all_goals exact .refl s

theorem Keeps.lineFault (short : Bool) (h : HeadIx) : Keeps x s (lineFault short h s) :=
  .ite (fun _ => .enterFault h _) fun _ => .refl s

theorem Keeps.onHead (b : Byte) {f : HeadIx → State → State} (hf : ∀ h, Keeps x s (f h s)) : Keeps x s (onHead b s f) := by
  unfold Machine.onHead
  split
  · exact hf _
  · exact .unmatchedEvent none

theorem Keeps.startTimerExpiry (h : HeadIx) : Keeps x s (s.startTimerExpiry h) := by
  refine .ite (fun ⟨hst, _⟩ => .ite (fun _ => .enterActive h (by rw [hst]; rfl)) fun _ => ?_) fun _ => .refl s
  refine .modHead h _ rfl fun hok => ?_
  obtain ⟨-, hrest⟩ := hok.timers
  exact (Head.ok_iff _).mpr ⟨hok.set, hok.sweeps, nofun, hrest⟩

theorem Keeps.lockWaitExpiry (h : HeadIx) : Keeps x s (s.lockWaitExpiry h) :=
  .ite (fun _ => .enterFault h .noLock) fun _ => .refl s

theorem Keeps.holdoverExpiry (h : HeadIx) : Keeps x s (s.holdoverExpiry h) :=
  .ite (fun _ => .enterFault h .holdoverExpired) fun _ => .refl s

/-! ### Requests on heads -/

theorem Keeps.newCapacity (h : HeadIx) : Keeps x s (s.newCapacity h) := (Keeps.cancelUntilFits h _).trans (.fit h)

theorem clampOpt_range {lo hi held : Nat} (hlo : lo ≤ hi) (h : lo ≤ held ∧ held ≤ hi) (o : Option Nat) :
    lo ≤ (clampOpt lo hi held o).value ∧ (clampOpt lo hi held o).value ≤ hi := by
  cases o with
  | none => exact h
  | some v =>
    simp only [clampOpt, clampNat]
    omega

theorem clampOptInt_range {lo hi held : Int} (hlo : lo ≤ hi) (h : lo ≤ held ∧ held ≤ hi) (o : Option Int) :
    lo ≤ (clampOptInt lo hi held o).value ∧ (clampOptInt lo hi held o).value ≤ hi := by
  cases o with
  | none => exact h
  | some v =>
    simp only [clampOptInt, clampInt]
    omega

theorem sweepPlan_ok {os : Options} {xs : List (Option Sector)} {d : Schedule} (hd : d.ok)
    (hxs : 1 ≤ xs.length ∧ xs.length ≤ 16) : (sweepPlan os xs d).value.ok := by
  obtain ⟨-, -, hlo, hhi⟩ := hd
  obtain ⟨h1, h2⟩ := clampOpt_range (by decide) hxs (os.nat .count)
  obtain ⟨h3, h4⟩ := clampOpt_range (by decide) ⟨hlo, hhi⟩ (os.nat .dwell)
  exact ⟨h1, h2, h3, h4⟩

/-- A schedule staged on a head in service. -/
theorem Keeps.stage (h : HeadIx) (q : ReqTag) {p : Clamped Schedule} (hp : (s.head h).ok → p.value.ok)
    (hs : (s.head h).state.inService = true) (hfull : s.inflightFull = false) : Keeps x s (s.stage h q p) := by
  have hmod (t : State) (ht : t.head h = s.head h) :
      Keeps x t (t.modHead h fun y => { y with staged := some p.value }) := by
    refine .modHead h _ rfl fun hok => ?_
    rw [ht] at hok ⊢
    obtain ⟨ha, -, -, hsweep, hslot⟩ := hok.sweeps
    exact (Head.ok_iff _).mpr ⟨hok.set, ⟨ha, fun d hd => by cases hd; exact hp hok, fun _ => hs, hsweep, hslot⟩, hok.timers⟩
  have hroom {t : State} (ht : t.inflight.length ≤ s.inflight.length) : t.inflightFull = false := by
    simp only [State.inflightFull, decide_eq_false_iff_not] at hfull ⊢
    omega
  unfold State.stage
  dsimp only
  split
  · have hend := s.endOldest_frame (InFlight.isFor .sweepSet (.head h)) .replaced
    have hhead : (s.endOldest (InFlight.isFor .sweepSet (.head h)) .replaced).head h = s.head h := by
      rw [hend]; rfl
    refine Keeps.trans (Keeps.trans (.endOldest _ _) (hmod _ hhead)) (.joinInflight _ (hroom ?_))
    exact s.endOldest_length _ _
  · exact Keeps.trans (hmod s rfl) (.joinInflight _ (hroom (Nat.le_refl _)))

/-- A schedule applied at once on a head out of service. -/
theorem Keeps.applySchedule (h : HeadIx) {d : Schedule} (hd : (s.head h).ok → d.ok)
    (hs : (s.head h).state.inService = false) : Keeps x s (s.modHead h fun y => { y with active := d }) := by
  refine .modHead h _ rfl fun hok => ?_
  obtain ⟨-, hstaged, hserv, hsweep, -⟩ := hok.sweeps
  have hnone : (s.head h).sweep = none := by
    rw [← Option.not_isSome_iff_eq_none, hsweep, hs]
    simp
  refine (Head.ok_iff _).mpr ⟨hok.set, ⟨hd hok, hstaged, hserv, hsweep, fun p hp => ?_⟩, hok.timers⟩
  cases hnone.symm.trans hp

theorem Keeps.headClear (h : HeadIx) (hs : (s.head h).state = .faulted) :
    Keeps x s (s.changeHead h fun y => { y with state := .offline }) := by
  refine .changeHead h _ rfl fun hok => ?_
  obtain ⟨ha, hd, hserv, hsweep, hslot⟩ := hok.sweeps
  obtain ⟨hstart, hlock, hhold, -⟩ := hok.timers
  rw [hs] at hserv hsweep hstart hlock hhold
  refine (Head.ok_iff _).mpr ⟨hok.set, ⟨ha, hd, hserv, hsweep, hslot⟩, ?_⟩
  simp only [reduceCtorEq, false_and, iff_false, imp_false] at hstart hlock hhold
  simp [Head.timersOk, hstart, hlock, hhold]

end Sys2Proof.Machine
end

section
/-! The candidate list of a report: the bounds of each stage, and the list order of its result. -/

namespace Sys2Proof.Machine

/-! ### Accepted entries (R69) -/

theorem targetValue_le (code : Byte) : targetValue code ≤ 3520 := by
  unfold targetValue
  omega

/-- Accepted entries: no two for one head, each with a target value in range and on a head in service. -/
def AcceptedOk (s : State) (acc : List Accepted) : Prop :=
  (acc.map (·.head)).Nodup ∧ ∀ a ∈ acc, a.target ≤ 3520 ∧ (s.head a.head).state.inService = true

theorem acceptedOk_acceptEntry {s : State} {acc : List Accepted} (h : AcceptedOk s acc) (e : MeasEntry) :
    AcceptedOk s (acceptEntry s acc e) := by
  obtain ⟨hnodup, hall⟩ := id h
  unfold acceptEntry
  split
  · exact h
  · next g _ =>
    split
    · next hsec =>
      split
      · next hnew =>
        simp only [Bool.and_eq_true, Bool.not_eq_true', List.any_eq_false, beq_iff_eq] at hnew
        obtain ⟨hserv, hfresh⟩ := hnew
        refine ⟨?_, fun a ha => ?_⟩
        · rw [List.map_append, List.nodup_append]
          refine ⟨hnodup, by simp, fun g' hg' g'' hg'' e => ?_⟩
          obtain ⟨a, ha, rfl⟩ := List.mem_map.mp hg'
          simp only [List.map_cons, List.map_nil, List.mem_singleton] at hg''
          exact hfresh a ha (e.trans hg'')
        · rcases List.mem_append.mp ha with ha | ha
          · exact hall a ha
          · cases List.mem_singleton.mp ha
            exact ⟨targetValue_le _, hserv⟩
      · exact h
    · exact h

theorem acceptedOk_acceptedEntries (s : State) (es : List MeasEntry) : AcceptedOk s (acceptedEntries s es) := by
  unfold acceptedEntries
  have hfold : ∀ (l : List MeasEntry) (acc : List Accepted), AcceptedOk s acc →
      AcceptedOk s (l.foldl (acceptEntry s) acc) := by
    intro l
    induction l with
    | nil => exact fun _ => id
    | cons e l ih => exact fun acc h => ih _ (acceptedOk_acceptEntry h e)
  exact hfold _ [] ⟨List.nodup_nil, nofun⟩

/-! ### The filter step (R71) -/

/-- A filter step stays between where it stands and its target. -/
theorem filterStep_le {k f t m : Nat} (hf : f ≤ m) (ht : t ≤ m) : filterStep k f t ≤ m := by
  unfold filterStep
  have hpos : 1 ≤ 2 ^ k := Nat.one_le_two_pow
  rcases Nat.le_total f t with h | h
  · have hdiff : (0 : Int) ≤ (t : Int) - f := by omega
    have := Int.tdiv_le_self ((2 ^ k : Nat) : Int) hdiff
    omega
  · have hneg : 0 ≤ (-((t : Int) - f)).tdiv ((2 ^ k : Nat) : Int) := Int.tdiv_nonneg (by omega) (by omega)
    rw [Int.neg_tdiv] at hneg
    omega

/-! ### Stages 1 and 2 -/

/-- A candidate list within its bounds but for scores and order. -/
def entriesOk (limit : Nat) (l : List Candidate) : Prop :=
  l.length ≤ Config.candidateEntries ∧ (l.map (·.head)).Nodup ∧
    ∀ e ∈ l, e.level ≤ 3520 ∧ e.missing ≤ 2 ∧ e.ttt ≤ limit

theorem candidatesOk.entries {limit : Nat} {l : List Candidate} (h : candidatesOk limit l) : entriesOk limit l :=
  ⟨h.1, h.2.1, fun e he => ⟨(h.2.2.2 e he).1, (h.2.2.2 e he).2.2⟩⟩

section
variable {k : Nat} {acc : List Accepted} {serving kept : Option HeadIx} {e d : Candidate}

/-- What filtering or ageing one entry can do (R72, R73). -/
theorem filterEntry_eq_some (h : filterEntry k acc serving kept e = some d) :
    (∃ a ∈ acc, a.head = e.head ∧
        d = { e with level := filterStep k e.level a.target, sector := a.sector, missing := 0 }) ∨
      (∀ a ∈ acc, a.head ≠ e.head) ∧
        (d = { e with level := filterStep k e.level 0 } ∨ (e.missing + 1 < 3 ∧ d = { e with missing := e.missing + 1 }) ∨
          d = { e with missing := 2 }) := by
  unfold filterEntry at h
  split at h
  · next a ha =>
    cases h
    exact .inl ⟨a, List.mem_of_find?_eq_some ha, by simpa using List.find?_some ha, rfl⟩
  · next hno =>
    refine .inr ⟨by simpa using hno, ?_⟩
    split at h
    · cases h; exact .inl rfl
    · split at h
      · cases h; exact .inr (.inl ⟨‹_›, rfl⟩)
      · split at h
        · cases h; exact .inr (.inr rfl)
        · cases h

theorem head_filterEntry (h : filterEntry k acc serving kept e = some d) : d.head = e.head := by
  rcases filterEntry_eq_some h with ⟨a, -, -, rfl⟩ | ⟨-, rfl | ⟨-, rfl⟩ | rfl⟩ <;> rfl

end

/-- Entries kept by a function that keeps their heads are for heads of the list, in their order. -/
theorem heads_filterMap_sublist {f : Candidate → Option Candidate} (hf : ∀ e d, f e = some d → d.head = e.head)
    (l : List Candidate) : ((l.filterMap f).map (·.head)).Sublist (l.map (·.head)) := by
  induction l with
  | nil => exact List.Sublist.refl _
  | cons e l ih =>
    rw [List.filterMap_cons]
    cases h : f e with
    | none => exact ih.cons _
    | some d =>
      simp only [List.map_cons, hf e d h]
      exact ih.cons_cons _

theorem entriesOk_filterMap {s : State} {limit k : Nat} {acc : List Accepted} {serving kept : Option HeadIx}
    {l : List Candidate} (h : entriesOk limit l) (hacc : AcceptedOk s acc) :
    entriesOk limit (l.filterMap (filterEntry k acc serving kept)) := by
  obtain ⟨hlen, hnodup, hranges⟩ := h
  refine ⟨(List.length_filterMap_le ..).trans hlen,
    hnodup.sublist (heads_filterMap_sublist (fun e d hd => head_filterEntry hd) l), fun d hd => ?_⟩
  obtain ⟨e, he, hed⟩ := List.mem_filterMap.mp hd
  obtain ⟨hlevel, hmiss, httt⟩ := hranges e he
  rcases filterEntry_eq_some hed with ⟨a, ha, -, rfl⟩ | ⟨-, rfl | ⟨hlt, rfl⟩ | rfl⟩
  · exact ⟨filterStep_le hlevel (hacc.2 a ha).1, Nat.zero_le _, httt⟩
  · exact ⟨filterStep_le hlevel (Nat.zero_le _), hmiss, httt⟩
  · exact ⟨hlevel, Nat.le_of_lt_succ hlt, httt⟩
  · exact ⟨hlevel, Nat.le_refl _, httt⟩

theorem weaker_eq (s : State) (c : Context) (a b : Candidate) : weaker s c a b = a ∨ weaker s c a b = b := by
  unfold weaker
  dsimp only
  split
  · exact .inl rfl
  · exact .inr rfl

theorem mem_of_weakest {s : State} {c : Context} {l : List Candidate} {w : Candidate} (h : weakest s c l = some w) :
    w ∈ l := by
  cases l with
  | nil => cases h
  | cons e es =>
    cases h
    have hfold : ∀ (l : List Candidate) (e : Candidate), l.foldl (weaker s c) e = e ∨ l.foldl (weaker s c) e ∈ l := by
      intro l
      induction l with
      | nil => exact fun e => .inl rfl
      | cons d l ih =>
        intro e
        rw [List.foldl_cons]
        rcases ih (weaker s c e d) with h | h
        · rcases weaker_eq s c e d with hw | hw
          · exact .inl (h.trans hw)
          · exact .inr (by rw [h, hw]; exact List.mem_cons_self)
        · exact .inr (List.mem_cons_of_mem _ h)
    rcases hfold es e with h | h
    · rw [h]; exact List.mem_cons_self
    · exact List.mem_cons_of_mem _ h

/-- The entry of a new head (R74). -/
def Accepted.entry (a : Accepted) : Candidate :=
  { head := a.head, sector := a.sector, level := a.target, ttt := 0, missing := 0, score := 0 }

/-- What taking a new head can do to the list (R74, R75). -/
theorem takeNewHead_cases (s : State) (c : Context) (kept : Option HeadIx) (l : List Candidate) (a : Accepted) :
    (l.length < Config.candidateEntries ∧ takeNewHead s c kept l a = l ++ [a.entry]) ∨
      (takeNewHead s c kept l a = l) ∨
      ∃ w ∈ l, c.serving ≠ some w.head ∧ kept ≠ some w.head ∧
        takeNewHead s c kept l a = (l.filter fun x => x.head != w.head) ++ [a.entry] := by
  unfold takeNewHead
  dsimp only
  split
  · exact .inl ⟨‹_›, rfl⟩
  · refine .inr ?_
    split
    · exact .inl rfl
    · next w hw =>
      split
      · obtain ⟨hmem, hserv⟩ := List.mem_filter.mp (mem_of_weakest hw)
        simp only [Bool.and_eq_true, bne_iff_ne, ne_eq] at hserv
        exact .inr ⟨w, hmem, hserv.1, hserv.2, rfl⟩
      · exact .inl rfl

/-- Taking a new head that has no entry keeps the list within its bounds and brings no other head in. -/
theorem entriesOk_takeNewHead {s : State} {c : Context} {kept : Option HeadIx} {limit : Nat} {l : List Candidate}
    {a : Accepted} (h : entriesOk limit l) (ha : a.target ≤ 3520) (hnew : a.head ∉ l.map (·.head)) :
    entriesOk limit (takeNewHead s c kept l a) ∧
      ∀ g ∈ (takeNewHead s c kept l a).map (·.head), g = a.head ∨ g ∈ l.map (·.head) := by
  obtain ⟨hlen, hnodup, hranges⟩ := id h
  have happend {m : List Candidate} (hsub : m.Sublist l) (hroom : m.length < Config.candidateEntries) :
      entriesOk limit (m ++ [a.entry]) ∧
        ∀ g ∈ (m ++ [a.entry]).map
          Candidate.head, g = a.head ∨ g ∈ l.map (·.head) := by
    refine ⟨⟨by simpa using hroom, ?_, fun e he => ?_⟩, fun g hg => ?_⟩
    · rw [List.map_append, List.nodup_append]
      refine ⟨hnodup.sublist (hsub.map _), by simp, fun g hg g' hg' e => hnew ?_⟩
      simp only [List.map_cons, List.map_nil, List.mem_singleton] at hg'
      have hmem := (hsub.map _).subset hg
      rwa [e, hg'] at hmem
    · rcases List.mem_append.mp he with he | he
      · exact hranges e (hsub.subset he)
      · cases List.mem_singleton.mp he
        exact ⟨ha, Nat.zero_le _, Nat.zero_le _⟩
    · rw [List.map_append, List.mem_append] at hg
      exact hg.symm.imp (by simp [Accepted.entry]) ((hsub.map _).subset ·)
  rcases takeNewHead_cases s c kept l a with ⟨hroom, e⟩ | e | ⟨w, hw, -, -, e⟩
  · rw [e]; exact happend (List.Sublist.refl _) hroom
  · rw [e]; exact ⟨h, fun g hg => .inr hg⟩
  · rw [e]
    refine happend List.filter_sublist ?_
    have hlt : (l.filter fun x => x.head != w.head).length < l.length :=
      List.length_filter_lt_length_iff_exists.mpr ⟨w, hw, by simp⟩
    exact Nat.lt_of_lt_of_le hlt hlen

theorem entriesOk_takeNewHeads {s : State} {c : Context} {kept : Option HeadIx} {limit : Nat} (news : List Accepted) :
    ∀ {l : List Candidate}, entriesOk limit l → (∀ a ∈ news, a.target ≤ 3520) → (news.map (·.head)).Nodup →
      (∀ a ∈ news, a.head ∉ l.map (·.head)) → entriesOk limit (news.foldl (takeNewHead s c kept) l) := by
  induction news with
  | nil => exact fun h _ _ _ => h
  | cons a news ih =>
    intro l h htarget hnodup hnew
    obtain ⟨hne, hnodup'⟩ := List.nodup_cons.mp hnodup
    obtain ⟨hok, hheads⟩ := entriesOk_takeNewHead (s := s) (c := c) (kept := kept) h (htarget a List.mem_cons_self)
      (hnew a List.mem_cons_self)
    refine ih hok (fun b hb => htarget b (List.mem_cons_of_mem _ hb)) hnodup' fun b hb hmem => ?_
    rcases hheads b.head hmem with e | e
    · exact hne (List.mem_map.mpr ⟨b, hb, e⟩)
    · exact hnew b (List.mem_cons_of_mem _ hb) e

theorem entriesOk_stageFilter {s : State} {c : Context} {kept : Option HeadIx} {limit : Nat} {acc : List Accepted}
    (h : entriesOk limit c.cands) (hacc : AcceptedOk s acc) : entriesOk limit (stageFilter s c kept acc) := by
  obtain ⟨hnodup, hall⟩ := id hacc
  refine entriesOk_takeNewHeads _ (entriesOk_filterMap h hacc) (fun a ha => (hall a (List.mem_filter.mp ha).1).1)
    (hnodup.sublist (List.filter_sublist.map _)) fun a ha hmem => ?_
  have hnot := (List.mem_filter.mp ha).2
  obtain ⟨e, he, hhead⟩ := List.mem_map.mp hmem
  simp only [Bool.not_eq_true', List.any_eq_false, beq_iff_eq] at hnot
  exact hnot e he hhead

/-! ### List order (R10) -/

theorem before_total (a b : Candidate) : before a b = true ∨ before b a = true := by
  simp only [before, Bool.or_eq_true, Bool.and_eq_true, decide_eq_true_eq, beq_iff_eq, Fin.le_def]
  omega

theorem before_trans {a b c : Candidate} (h : before a b = true) (h' : before b c = true) : before a c = true := by
  simp only [before, Bool.or_eq_true, Bool.and_eq_true, decide_eq_true_eq, beq_iff_eq, Fin.le_def] at *
  omega

theorem insertEntry_perm (e : Candidate) (l : List Candidate) : (insertEntry e l).Perm (e :: l) := by
  induction l with
  | nil => exact .refl _
  | cons d l ih =>
    unfold insertEntry
    split
    · exact .refl _
    · exact (ih.cons d).trans (.swap e d l)

theorem orderEntries_perm (l : List Candidate) : (orderEntries l).Perm l := by
  induction l with
  | nil => exact .refl _
  | cons e l ih => exact (insertEntry_perm e _).trans (ih.cons e)

theorem insertEntry_sorted {e : Candidate} {l : List Candidate} (h : l.Pairwise fun a b => before a b = true) :
    (insertEntry e l).Pairwise fun a b => before a b = true := by
  induction l with
  | nil => exact List.pairwise_singleton ..
  | cons d l ih =>
    obtain ⟨hd, hl⟩ := List.pairwise_cons.mp h
    unfold insertEntry
    split
    · next hed =>
      refine List.pairwise_cons.mpr ⟨fun x hx => ?_, h⟩
      rcases List.mem_cons.mp hx with rfl | hx
      · exact hed
      · exact before_trans hed (hd x hx)
    · next hed =>
      refine List.pairwise_cons.mpr ⟨fun x hx => ?_, ih hl⟩
      rcases List.mem_cons.mp ((insertEntry_perm e l).mem_iff.mp hx) with rfl | hx
      · exact (before_total d x).resolve_right hed
      · exact hd x hx

theorem orderEntries_sorted (l : List Candidate) : (orderEntries l).Pairwise fun a b => before a b = true := by
  induction l with
  | nil => exact List.Pairwise.nil
  | cons e l ih => exact insertEntry_sorted ih

theorem params_range {p : ParamSets} (h : p.inRange) (c : Class) :
    (p.get c).shift ≤ 6 ∧ (p.get c).hysteresis ≤ 30 ∧ 1 ≤ (p.get c).ttt ∧ (p.get c).ttt ≤ 15 ∧ -256 ≤ (p.get c).offset ∧
      (p.get c).offset ≤ 255 := by
  cases c <;> exact h _ (by simp [ParamSets.get])

theorem scoreOf_le {s : State} (h : s.params.inRange) (c : Context) (g : HeadIx) {f : Nat} (hf : f ≤ 3520) :
    scoreOf s c g f ≤ 3775 := by
  have hoff := (params_range h c.cls).2.2.2.2.2
  unfold scoreOf
  omega

theorem candidatesOk_stageScore {s : State} {c : Context} {limit : Nat} {l : List Candidate} (hp : s.params.inRange)
    (h : entriesOk limit l) : candidatesOk limit (stageScore s c l) := by
  obtain ⟨hlen, hnodup, hranges⟩ := h
  have hperm := orderEntries_perm (l.map fun e => { e with score := scoreOf s c e.head e.level })
  refine ⟨hperm.length_eq.trans_le (by simpa using hlen), ?_, orderEntries_sorted _, fun e he => ?_⟩
  · refine (hperm.map (·.head)).nodup_iff.mpr ?_
    simpa [Function.comp_def] using hnodup
  · obtain ⟨d, hd, rfl⟩ := List.mem_map.mp (hperm.mem_iff.mp he)
    obtain ⟨hlevel, hmiss, httt⟩ := hranges d hd
    exact ⟨hlevel, scoreOf_le hp c _ hlevel, hmiss, httt⟩

/-! ### Stage 4 (R84) -/

theorem candidatesOk_stageTrigger {p : ClassParams} {g : HeadIx} {l : List Candidate} (h : candidatesOk p.ttt l) :
    candidatesOk p.ttt (stageTrigger p g l) := by
  unfold stageTrigger
  split
  · exact h
  · apply candidatesOk_map h <;> intro e <;> split <;> try (split)
    all_goals simp

end Sys2Proof.Machine
end

section
/-! What the taken requests, events and the restart keep. -/

namespace Sys2Proof.Machine

variable {x : Option Law} {s : State}

/-! ### Contexts and reports -/

/-- A change of a context that leaves its identity and its candidate list. -/
theorem Keeps.modContext_same (k : Nat) {f : Context → Context} (hid : ∀ c, (f c).ids = c.ids)
    (hcands : ∀ c, (f c).cands = c.cands) : Keeps x s (s.modContext k f) :=
  .modContext k hid fun c _ _ _ h => by rwa [hcands]

theorem Keeps.setSegment (k : Nat) (g : Option Segment) : Keeps x s (s.modContext k fun c => { c with segment := g }) :=
  .modContext_same k (fun _ => rfl) fun _ => rfl

theorem Keeps.cranePath (k l units : Nat) (h : HeadIx) : Keeps x s (s.cranePath k l units h) := by
  unfold State.cranePath
  split
  · refine Keeps.trans (.join h .prepared l units) ?_
    exact .modLink l (fun _ => rfl) fun _ _ hok => CraneLink.ok_phase hok (by simp [Phase.count?])
  · exact .post _ _
  · exact .post _ _

theorem Keeps.immediateHandover (k : Nat) (c : Context) (old new : HeadIx) :
    Keeps x s (s.immediateHandover k c old new) :=
  Keeps.trans (Keeps.trans (Keeps.trans (.serveOn k new) (.order _)) (.moveReeferWork c new)) (.post _ _)

theorem Keeps.stageFive (k : Nat) (c : Context) (g : HeadIx) (l : List Candidate) : Keeps x s (stageFive s k c g l) := by
  refine .ite (fun _ => .refl s) fun _ => ?_
  dsimp only
  split
  · split
    · exact .cranePath k _ _ _
    · exact .refl s
  · split
    · exact .immediateHandover k c g _
    · exact .refl s

theorem Keeps.reEnter (k : Nat) (tag : Tag) (h : HeadIx) : Keeps x s (s.reEnter k tag h) :=
  Keeps.trans (Keeps.trans (.serveOn k h) (.order _)) (.post _ _)

/-- The candidate list that stage 2 of a report gives is within its bounds and in list order. -/
theorem candidatesOk_scored {c : Context} {kept : Option HeadIx} {es : List MeasEntry} (h : s.candidateLaw)
    (hc : candidatesOk (s.params.get c.cls).ttt c.cands) :
    candidatesOk (s.params.get c.cls).ttt (stageScore s c (stageFilter s c kept (acceptedEntries s es))) :=
  candidatesOk_stageScore h.1 (entriesOk_stageFilter hc.entries (acceptedOk_acceptedEntries s es))

theorem Keeps.takeReport {k : Nat} {c : Context} {tag : Tag} (es : List MeasEntry) (h : s.findTag tag = some (k, c)) :
    Keeps x s (takeReport k c es s) := by
  have hwrite {l : List Candidate} {f : Context → Context} (hid : ∀ c, (f c).ids = c.ids) (hf : ∀ c, (f c).cands = l)
      (hl : s.candidateLaw → candidatesOk (s.params.get c.cls).ttt c.cands → candidatesOk (s.params.get c.cls).ttt l) :
      Keeps x s (s.modContext k f) := by
    refine .modContext k hid fun c' hc' w hlaw hok => ?_
    cases (State.get?_of_findTag w.1 h).symm.trans hc'
    rw [hf]
    exact hl hlaw hok
  unfold Machine.takeReport
  dsimp only
  split
  · have hscored : Keeps x s (s.modContext k fun d =>
        { d with
          cands := stageScore s c (stageFilter s c (s.handoverTarget c) (acceptedEntries s es))
          lastReport := some s.frame }) :=
      hwrite (fun _ => rfl) (fun _ => rfl) candidatesOk_scored
    split
    · exact hscored
    · exact hscored.trans (.reEnter k c.tag _)
  · refine Keeps.trans ?_ (.stageFive k _ _ _)
    exact hwrite (fun _ => rfl) (fun _ => rfl) fun hlaw hok => candidatesOk_stageTrigger (candidatesOk_scored hlaw hok)

/-! ### Crane links -/

theorem links_of_pollFrame {t : State} (h : PollFrame s t) : t.links = s.links := by
  rw [h]

theorem length_inflight_of_linkFrame {t : State} (h : LinkFrame s t) : t.inflightFull = s.inflightFull := by
  rw [h]
  rfl

theorem Keeps.writeNext (l : Nat) (p : Setpoint) : Keeps x s (s.writeNext l p) :=
  .modLink l (fun _ => rfl) fun _ _ => id

theorem CraneSettings.start_ok {os : Options} {k : CraneLink} (h : k.ok) (p : Setpoint) :
    ((craneSettings os k).start p k).ok := by
  obtain ⟨hp, hp', hu, hu', hh, hh', hm, hm'⟩ := h.limits
  obtain ⟨he, -, -, hb, -⟩ := h.parts
  have hperiod := clampOpt_range (lo := 2) (hi := 64) (by decide) ⟨hp, hp'⟩ (os.nat .period)
  have hunits := clampOpt_range (lo := 4) (hi := 48) (by decide) ⟨hu, hu'⟩ (os.nat .units)
  have hhold := clampOpt_range (lo := 1) (hi := 15) (by decide) ⟨hh, hh'⟩ (os.nat .holdLimit)
  have hmiss := clampOpt_range (lo := 1) (hi := 15) (by decide) ⟨hm, hm'⟩ (os.nat .missLimit)
  refine (CraneLink.ok_iff _).mpr ⟨⟨hperiod.1, hperiod.2, hunits.1, hunits.2, hhold.1, hhold.2, hmiss.1, hmiss.2⟩,
    ⟨by simp [CraneSettings.start], fun _ => ⟨hhold.1, hmiss.1, rfl, by simp [CraneSettings.start]⟩, Nat.zero_le _,
      Nat.zero_le _, by simp [CraneSettings.start]⟩, he, nofun, nofun, hb, nofun⟩

theorem Keeps.takeCraneStart {l : Nat} {k : CraneLink} (h : HeadIx) (os : Options) (p : Setpoint)
    (hk : s.links.get? l = some k) : Keeps x s (takeCraneStart l h (craneSettings os k) p s) := by
  refine Keeps.trans (Keeps.trans (.joinStanding h l (craneSettings os k).units.value) ?_) (.sendDownlink l)
  refine .modLink l (fun _ => rfl) fun k' hk' hok => ?_
  rw [links_of_pollFrame (s.joinStanding_frame h l _)] at hk'
  cases hk.symm.trans hk'
  exact CraneSettings.start_ok hok p

theorem Keeps.dropNext (l : Nat) : Keeps x s (s.modLink l fun k => { k with next := none }) :=
  .modLink l (fun _ => rfl) fun _ _ => id

theorem Keeps.takeCraneStop {l : Nat} {k : CraneLink} (hk : s.links.get? l = some k) :
    Keeps x s (takeCraneStop l k s) := by
  have hstop (hne : k.state ≠ .idle) : Keeps x s (s.enterSafeStop l .ordered) :=
    .enterSafeStop l .ordered fun k' hk' => by cases hk.symm.trans hk'; exact hne
  refine Keeps.trans ?_ (.cancelHandover l .ordered)
  split
  · next e => exact hstop (by simp [e])
  · next e => exact hstop (by simp [e])
  · exact .dropNext l
  · exact .refl s

theorem Keeps.takeCraneResume (l : Nat) (o : Option HeadIx) (k : CraneLink) (p : Setpoint) :
    Keeps x s (takeCraneResume l o k p s) := by
  refine Keeps.trans ?_ (.writeNext l p)
  split
  · next h =>
    refine Keeps.trans (Keeps.trans (.joinStanding h l k.units) ?_) (.post _ _)
    refine .modLink l (fun _ => rfl) fun _ _ hok => ?_
    obtain ⟨hcycle, hruns, hr, hm, -⟩ := hok.state
    exact (CraneLink.ok_iff _).mpr ⟨hok.limits, ⟨hcycle, hruns, hr, hm, fun _ => rfl⟩, hok.parts⟩
  · exact .refl s

theorem Keeps.takeCraneRelease (handle l : Nat) (q : ReqTag) (hfull : s.inflightFull = false) :
    Keeps x s (takeCraneRelease handle l q s) := by
  have hmark : Keeps x s (s.modLink l fun k => { k with releasePending := true, next := none }) :=
    .modLink l (fun _ => rfl) fun _ _ => id
  refine (hmark.trans (.cancelHandover l .released)).trans (.joinInflight _ ?_)
  rw [length_inflight_of_linkFrame (State.cancelHandover_frame _ l .released)]
  exact hfull

theorem Keeps.placeBlock (handle l : Nat) (b : Bytes48) (q : ReqTag) (k : CraneLink) :
    Keeps x s (s.placeBlock handle l b q k) := by
  have hwait (w : Option WaitBlock) : Keeps x s (s.modLink l fun k => { k with waiting := w }) :=
    .modLink l (fun _ => rfl) fun _ _ => id
  unfold State.placeBlock
  split
  · exact .modLink l (fun _ => rfl) fun k _ hok => CraneLink.ok_down hok k.waiting fun b hb => by cases hb; exact Nat.zero_le _
  · exact hwait _
  · exact (hwait _).trans (.endNewest _ _)

theorem inflight_placeBlock_length (handle l : Nat) (b : Bytes48) (q : ReqTag) (k : CraneLink) :
    (s.placeBlock handle l b q k).inflight.length ≤ s.inflight.length := by
  unfold State.placeBlock
  split
  · exact Nat.le_refl _
  · exact Nat.le_refl _
  · exact State.endNewest_length _ _ _

theorem Keeps.takeSideDown (handle l : Nat) (b : Bytes48) (q : ReqTag) (k : CraneLink) (hfull : s.inflightFull = false) :
    Keeps x s (takeSideDown handle l b q k s) := by
  refine Keeps.trans (.placeBlock handle l b q k) (.joinInflight _ ?_)
  have := inflight_placeBlock_length (s := s) handle l b q k
  simp only [State.inflightFull, decide_eq_false_iff_not] at hfull ⊢
  omega

theorem Keeps.clearSideErrors (l : Nat) : Keeps x s (s.modLink l fun k => { k with sideErrors := 0 }) :=
  .modLink l (fun _ => rfl) fun k _ hok => CraneLink.ok_side hok k.sideBlock hok.parts.2.2.1 (Nat.zero_le _)

/-- 24 fragments are a block. -/
theorem assembled_isSome {l : List Fragment} (h : l.length = Config.sideFragments) : (assembled l).isSome := by
  have hlen : (l.flatMap fun f => [f.fst, f.snd]).length = 48 := by
    rw [List.length_flatMap]
    simp [h, Config.sideFragments]
  unfold assembled block?
  rw [dif_pos hlen]
  rfl

/-- A fragment leaves an assembly longer by one at most, and never an empty one. -/
theorem length_addFragment {a : Option (List Fragment)} {start : Bool} {f : Fragment} {l : List Fragment}
    (h : (addFragment a start f).1 = some l) : l.length = 1 ∨ ∃ l', a = some l' ∧ l.length = l'.length + 1 := by
  cases start <;> cases a <;> simp only [addFragment, Option.some.injEq, reduceCtorEq] at h <;> subst h
  · exact .inr ⟨_, rfl, by simp⟩
  · exact .inl rfl
  · exact .inl rfl

theorem takeBlock_modLink (handle l : Nat) (b : Bytes48) (f : CraneLink → CraneLink) :
    (s.modLink l f).takeBlock handle l b =
      ((s.modLink l fun k => { f k with sideBlock := some b, assembly := none }).modContext handle fun c =>
        { c with segment := blockSegment b }).post (.context handle) (.sideBlock b) := by
  unfold State.takeBlock
  rw [modLink_modLink]
  rfl

theorem Keeps.takeFragment (handle l : Nat) (start : Bool) (f : Fragment) (k : CraneLink)
    (hk : ∀ k', s.links.get? l = some k' → k'.assembly = k.assembly) : Keeps x s (s.takeFragment handle l start f k) := by
  have herrors {k' : CraneLink} (hok : k'.ok) (lost : Bool) :
      (if lost then satInc 255 k'.sideErrors else k'.sideErrors) ≤ 255 := by
    have := hok.parts.1
    split
    · exact satInc_le this
    · exact this
  unfold State.takeFragment
  cases hadd : addFragment k.assembly start f with
  | mk assembly lost =>
    have hfst : (addFragment k.assembly start f).1 = assembly := by rw [hadd]
    dsimp only
    cases assembly with
    | none => exact .modLink l (fun _ => rfl) fun k' _ hok => CraneLink.ok_side hok k'.sideBlock nofun (herrors hok lost)
    | some fs =>
      dsimp only
      have hlen {k' : CraneLink} (hk' : s.links.get? l = some k') (hok : k'.ok) :
          1 ≤ fs.length ∧ fs.length ≤ Config.sideFragments := by
        have h24 : Config.sideFragments = 24 := rfl
        rcases length_addFragment hfst with h | ⟨l', hl', h⟩
        · omega
        · have := (hok.parts.2.2.1 l' (hk k' hk' ▸ hl')).2
          omega
      split
      · next hlt =>
        refine .modLink l (fun _ => rfl) fun k' hk' hok => CraneLink.ok_side hok k'.sideBlock (fun a ha => ?_) (herrors hok lost)
        cases ha
        exact ⟨(hlen hk' hok).1, hlt⟩
      · next hge =>
        cases hb : assembled fs with
        | some b =>
          dsimp only
          rw [takeBlock_modLink]
          refine Keeps.trans (Keeps.trans ?_ (.setSegment handle _)) (.post _ _)
          exact .modLink l (fun _ => rfl) fun k' _ hok => CraneLink.ok_side hok (some b) nofun (herrors hok lost)
        | none =>
          refine .modLink l (fun _ => rfl) fun k' hk' hok => ?_
          have := assembled_isSome (Nat.le_antisymm (hlen hk' hok).2 (Nat.le_of_not_lt hge))
          rw [hb] at this
          cases this

theorem Keeps.takeUplink {handle l : Nat} {k : CraneLink} (h : HeadIx) (u : UplinkFields) (hk : s.links.get? l = some k) :
    Keeps x s (takeUplink handle l k h u s) := by
  have hfeed : Keeps x s (s.modLink l fun k => { k with feedback := some { bytes := u.feedback, seq := u.seq, age := 0 } }) :=
    .modLink l (fun _ => rfl) fun k _ hok =>
      CraneLink.ok_feedback hok k.heardLast k.heard fun g hg => by cases hg; exact Nat.zero_le _
  have hheard (t : State) : Keeps x t (t.modLink l fun k => { k with heard := true }) := .modLink l (fun _ => rfl) fun _ _ => id
  have htaken : Keeps x s (if k.heard
      then s.modLink l fun k => { k with feedback := some { bytes := u.feedback, seq := u.seq, age := 0 } }
      else (((s.modLink l fun k => { k with feedback := some { bytes := u.feedback, seq := u.seq, age := 0 } }).takeFragment
        handle l u.start u.frag k).modLink l fun k => { k with heard := true })) := by
    refine .ite (fun _ => hfeed) fun _ => (hfeed.trans (.takeFragment handle l _ _ k fun k' hk' => ?_)).trans (hheard _)
    rw [get?_modLink, hk] at hk'
    cases hk'
    rfl
  exact .ite (fun _ => htaken.trans (.completeHandover l)) fun _ => htaken

theorem Keeps.onUplink (handle : Nat) (c : Context) (u : UplinkFields) : Keeps x s (onUplink handle c u s) := by
  unfold Machine.onUplink
  split
  · exact .refl s
  · split
    · next k h hk _ => exact .ite (fun _ => .takeUplink h u hk) fun _ => .refl s
    · exact .refl s

/-! ### Reefers -/

theorem Keeps.onReefer (tag : Tag) {f : Nat → Reefer → State → State}
    (hf : ∀ i r, s.reefers.get? i = some r → Keeps x s (f i r s)) : Keeps x s (onReefer tag s f) := by
  unfold Machine.onReefer
  split
  · exact .unmatchedEvent _
  · refine .ite (fun _ => ?_) fun _ => .unmatchedEvent _
    split
    · exact .refl s
    · split
      · next r hr => exact hf _ r hr
      · exact .refl s

theorem Keeps.writeReeferPlan {os : Options} {r : Reefer} {p : ReeferPlan} {i : Nat} (hr : s.reefers.get? i = some r)
    (h : reeferParamsChecks os r = .ok p) : Keeps x s (s.modReefer i p.write) := by
  refine .modFigures i (fun _ => rfl) (fun _ => ⟨rfl, rfl, rfl⟩) fun r' hr' hfig => ?_
  cases hr.symm.trans hr'
  obtain ⟨h1, h2, h3, h4, h5, h6, h7, h8, h9, h10, h11⟩ := hfig
  unfold reeferParamsChecks at h
  split at h
  · cases h
  · split at h
    · cases h
    · cases h
      obtain ⟨hi, hi'⟩ := clampOpt_range (lo := 10) (hi := 3600) (by decide) ⟨h7, h8⟩ (os.nat .interval)
      obtain ⟨-, hg'⟩ := clampOpt_range (lo := 0) (hi := 600) (by decide) ⟨Nat.zero_le _, h9⟩ (os.nat .grace)
      refine ⟨h1, h2, h3, fun b hb => ?_, h5, h6, hi, hi', hg', h10, h11⟩
      simp only [ReeferPlan.write, bookedPlan] at hb
      split at hb
      · exact h4 b hb
      · cases hb
      · cases hb
        simp only [clampInt]
        omega

theorem Keeps.clearMissed (i : Nat) : Keeps x s (s.modReefer i fun r => { r with missed := 0 }) := by
  refine .modFigures i (fun _ => rfl) (fun _ => ⟨rfl, rfl, rfl⟩) fun r _ h => ?_
  obtain ⟨h1, h2, h3, h4, h5, h6, h7, h8, h9, h10, -⟩ := h
  exact ⟨h1, h2, h3, h4, h5, h6, h7, h8, h9, h10, Nat.zero_le _⟩

/-! ### The restart -/

theorem Keeps.restartReefers : Keeps x s s.restartReefers := by
  refine Keeps.trans (t := { s with reefers := s.reefers.mapAll fun r =>
      { r with page := none, poll := match r.poll with | .waiting => .none | q => q } }) ?_ (.of_records_same rfl)
  exact .mapReefers (fun _ => rfl) fun _ h => Reefer.ok_noPage h

theorem Keeps.dropStaged (h : HeadIx) : Keeps x s (s.modHead h fun y => { y with staged := none }) := by
  refine .modHead h _ rfl fun hok => ?_
  obtain ⟨ha, -, -, hsweep, hslot⟩ := hok.sweeps
  exact (Head.ok_iff _).mpr ⟨hok.set, ⟨ha, nofun, nofun, hsweep, hslot⟩, hok.timers⟩

theorem Keeps.restartHead (h : HeadIx) : Keeps x s (s.restartHead h) := by
  refine .ite (fun _ => .dropStaged h) fun _ => Keeps.trans (.dropStaged h) ?_
  exact .modAccount_fit h _ fun _ => rfl

theorem Keeps.restartHeads (hs : List HeadIx) : Keeps x s (restartHeads hs s) := by
  induction hs generalizing s with
  | nil => exact .refl s
  | cons h hs ih => exact Keeps.trans (.restartHead h) ih

theorem Keeps.restartLink (l : Nat) : Keeps x s (s.restartLink l) := by
  unfold State.restartLink
  cases e : s.links.get? l with
  | none => exact .refl s
  | some k =>
    have hafter : Keeps x s (s.modLink l CraneLink.afterRestart) :=
      .modLink l (fun _ => rfl) fun k _ hok => CraneLink.ok_down (k := { k with next := none, releasePending := false })
        hok none nofun
    have hstop (hne : k.state ≠ .idle) : Keeps x s ((s.modLink l CraneLink.afterRestart).enterSafeStop l .restart) := by
      refine hafter.trans (.enterSafeStop l .restart fun k' hk' => ?_)
      rw [get?_modLink, e] at hk'
      cases hk'
      exact hne
    refine Keeps.trans ?_ (.endHandover l .restart)
    split
    · next h => exact hstop (by simp [h])
    · next h => exact hstop (by simp [h])
    · exact hafter
    · exact hafter

theorem Keeps.restartLinks (ls : List Nat) : Keeps x s (restartLinks ls s) := by
  induction ls generalizing s with
  | nil => exact .refl s
  | cons l ls ih => exact Keeps.trans (.restartLink l) ih

theorem Keeps.takeRestart : Keeps x s (takeRestart s) := by
  refine Keeps.trans (Keeps.trans (Keeps.trans (t := { s with inflight := [], notices := [], restartCause := .warm })
    ?_ .restartReefers) (.restartHeads allHeads)) (.restartLinks _)
  exact .of_laws rfl (fun ⟨_, _, _, hrest⟩ => ⟨Nat.zero_le _, Nat.zero_le _, List.Pairwise.nil, hrest⟩) (fun _ => id)
    (fun _ => id) (fun _ => id) id

end Sys2Proof.Machine
end

section
/-! What every command keeps of the records' laws, and of the fixed view. -/

namespace Sys2Proof.Machine

variable {s t u : State}

/-- A command answers a next state, of which `p` holds. -/
def Gives (o : Out) (p : State → Prop) : Prop := ∃ t, o = .next t ∧ p t

theorem Gives.mono {o : Out} {p q : State → Prop} (h : Gives o p) (hpq : ∀ t, p t → q t) : Gives o q := by
  obtain ⟨t, ht, hp⟩ := h
  exact ⟨t, ht, hpq t hp⟩

theorem gives_next {p : State → Prop} (h : p t) : Gives (.next t) p := ⟨t, rfl, h⟩

theorem Keeps.refuse {x : Option Law} (q : ReqKind) (r : Request) (e : Refused) : Keeps x s (refuse q r e s) := .reply _

theorem Keeps.answer {x : Option Law} {q : ReqKind} {r : Request} {res : Result} {c : Bool} {i : Identity} {b : List Byte}
    (h : Keeps x s t) : Keeps x s (answer q r res c i b t) :=
  h.trans (.reply _)

theorem get?_of_craneTarget {q : ReqKind} {r : Request} {a : CraneTarget} (h : craneTarget q r s = .ok a) :
    s.links.get? a.link = some a.record := by
  unfold craneTarget at h
  split at h
  · cases h
  · split at h
    · cases h
    · split at h
      · cases h
      · next hk => cases h; exact hk

theorem get?_of_reeferTarget {q : ReqKind} {r : Request} {a : ReeferTarget} (h : reeferTarget q r s = .ok a) :
    s.reefers.get? a.index = some a.record := by
  unfold reeferTarget at h
  split at h
  · cases h
  · split at h
    · cases h
    · split at h
      · cases h
      · next hk => cases h; exact hk

/-! ### The requests that leave settings and identities alone -/

section
variable {r : Request}

theorem keeps_find : Gives (execFind r s) (Keeps none s) := by
  unfold execFind
  split
  · exact gives_next (.refuse _ r _)
  · exact gives_next (Keeps.refl s).answer

theorem keeps_read : Gives (execRead r s) (Keeps none s) := by
  unfold execRead
  split
  · exact gives_next (.refuse _ r _)
  · exact gives_next (Keeps.refl s).answer

theorem keeps_amend : Gives (execAmend r s) (Keeps none s) := by
  unfold execAmend
  split
  · exact gives_next (.refuse _ r _)
  · split
    · exact gives_next (.refuse _ r _)
    · refine gives_next (Keeps.answer ?_)
      exact .modContext_same _ (fun _ => rfl) fun _ => rfl

theorem keeps_craneStart : Gives (execCraneStart r s) (Keeps none s) := by
  unfold execCraneStart
  split
  · exact gives_next (.refuse _ r _)
  · next a ha =>
    split
    · exact gives_next (.refuse _ r _)
    · dsimp only
      split
      · exact gives_next (.refuse _ r _)
      · exact gives_next (Keeps.takeCraneStart _ a.opts _ (get?_of_craneTarget ha)).answer

theorem keeps_setpoint : Gives (execSetpoint r s) (Keeps none s) := by
  unfold execSetpoint
  split
  · exact gives_next (.refuse _ r _)
  · split
    · exact gives_next (.refuse _ r _)
    · split
      · exact gives_next (Keeps.writeNext _ _).answer
      · exact gives_next (Keeps.writeNext _ _).answer
      · exact gives_next (.refuse _ r _)
      · exact gives_next (.refuse _ r _)

theorem keeps_craneStop : Gives (execCraneStop r s) (Keeps none s) := by
  unfold execCraneStop
  split
  · exact gives_next (.refuse _ r _)
  · next a ha =>
    split
    · exact gives_next (.refuse _ r _)
    · exact gives_next (Keeps.takeCraneStop (get?_of_craneTarget ha)).answer

theorem keeps_craneResume : Gives (execCraneResume r s) (Keeps none s) := by
  unfold execCraneResume
  split
  · exact gives_next (.refuse _ r _)
  · split
    · exact gives_next (.refuse _ r _)
    · split
      · exact gives_next (.refuse _ r _)
      · exact gives_next (Keeps.takeCraneResume _ _ _ _).answer

theorem room_of_craneReleaseCheck {k : CraneLink} (h : craneReleaseCheck k s = none) : s.inflightFull = false := by
  unfold craneReleaseCheck at h
  split at h
  · cases h
  · split at h
    · cases h
    · split at h
      · cases h
      · next hfull => exact Bool.not_eq_true _ ▸ hfull

theorem keeps_craneRelease : Gives (execCraneRelease r s) (Keeps none s) := by
  unfold execCraneRelease
  split
  · exact gives_next (.refuse _ r _)
  · split
    · exact gives_next (.refuse _ r _)
    · next hcheck => exact gives_next (.takeCraneRelease _ _ _ (room_of_craneReleaseCheck hcheck))

theorem keeps_sideDown : Gives (execSideDown r s) (Keeps none s) := by
  unfold execSideDown
  split
  · exact gives_next (.refuse _ r _)
  · split
    · exact gives_next (.refuse _ r _)
    · split
      · exact gives_next (.refuse _ r _)
      · next hfull => exact gives_next (.takeSideDown _ _ _ _ _ (Bool.not_eq_true _ ▸ hfull))

theorem keeps_craneRead : Gives (execCraneRead r s) (Keeps none s) := by
  unfold execCraneRead
  split
  · exact gives_next (.refuse _ r _)
  · exact gives_next (Keeps.clearSideErrors _).answer

theorem keeps_reeferRead : Gives (execReeferRead r s) (Keeps none s) := by
  unfold execReeferRead
  split
  · exact gives_next (.refuse _ r _)
  · exact gives_next (Keeps.clearMissed _).answer

theorem keeps_reeferParams : Gives (execReeferParams r s) (Keeps none s) := by
  unfold execReeferParams
  split
  · exact gives_next (.refuse _ r _)
  · next a ha =>
    split
    · exact gives_next (.refuse _ r _)
    · next p hp => exact gives_next (Keeps.writeReeferPlan (get?_of_reeferTarget ha) hp).answer

theorem pageDeal_queue {a : ReeferTarget} {h : HeadIx} (hd : pageDeal a s = .queue h) : a.record.doze ≠ .awake := by
  unfold pageDeal at hd
  split at hd
  · cases hd
  · assumption

theorem keeps_page : Gives (execPage r s) (Keeps none s) := by
  unfold execPage
  split
  · exact gives_next (.refuse _ r _)
  · next a ha =>
    split
    · exact gives_next (.refuse _ r _)
    · next hfull =>
      have hroom : s.inflightFull = false := Bool.not_eq_true _ ▸ hfull
      split
      · exact gives_next (Keeps.refl s).answer
      · exact gives_next (.refuse _ r _)
      · refine gives_next (Keeps.trans ?_ (.joinInflight _ hroom))
        exact .modPage _ fun _ _ _ _ hatt => ⟨hatt, Iff.rfl⟩
      · next h hdeal =>
        refine gives_next (Keeps.trans (.queuePage h _ _ fun r' hr' => ?_) (.joinInflight _ hroom))
        cases (get?_of_reeferTarget ha).symm.trans hr'
        exact pageDeal_queue hdeal

theorem keeps_headRead : Gives (execHeadRead r s) (Keeps none s) := by
  unfold execHeadRead
  split
  · exact gives_next (.refuse _ r _)
  · exact gives_next (Keeps.refl s).answer

theorem keeps_headClear : Gives (execHeadClear r s) (Keeps none s) := by
  unfold execHeadClear
  split
  · exact gives_next (.refuse _ r _)
  · split
    · next hst => exact gives_next (Keeps.headClear _ hst).answer
    · exact gives_next (.refuse _ r _)

theorem bytes_ok {q : ReqKind} {l : List Byte} {os : Options} (h : checkOptions q l = .ok os) {o : Opt} {v : List Byte}
    (hv : os.bytes o = some v) : o.lengthOk v.length = true := by
  obtain ⟨e, he, rfl⟩ := Option.map_eq_some_iff.mp hv
  have hmem := List.mem_of_find?_eq_some he
  have ho : e.1 = o := by simpa using List.find?_some he
  unfold checkOptions at h
  split at h
  · cases h
  · split at h
    · cases h
    · split at h
      · cases h
      · split at h
        · cases h
        · split at h
          · cases h
          · next hlen =>
            split at h
            · cases h
            · cases h
              simp only [List.any_eq_true, Bool.not_eq_true', not_exists, not_and, Bool.not_eq_false] at hlen
              exact ho ▸ hlen e hmem

theorem has_required {q : ReqKind} {l : List Byte} {os : Options} (h : checkOptions q l = .ok os) {o : Opt}
    (ho : o ∈ optionsRequired q) : ∃ v, os.bytes o = some v := by
  unfold checkOptions at h
  split at h
  · cases h
  · split at h
    · cases h
    · split at h
      · cases h
      · split at h
        · cases h
        · split at h
          · cases h
          · split at h
            · cases h
            · next hreq =>
              cases h
              simp only [List.any_eq_true, Bool.not_eq_true', not_exists, not_and, Bool.not_eq_false,
                List.contains_eq_mem, decide_eq_true_eq] at hreq
              obtain ⟨e, he, rfl⟩ := List.mem_map.mp (hreq o ho)
              cases hf : os.find? fun d => d.1 == e.1 with
              | none => exact absurd (List.find?_eq_none.mp hf e he) (by simp)
              | some d => exact ⟨d.2, by simp [Options.bytes, hf]⟩

theorem length_slotsOf {l : List Byte} {xs : List (Option Sector)} (h : slotsOf l = some xs) : xs.length = l.length := by
  induction l generalizing xs with
  | nil => cases h; rfl
  | cons b l ih =>
    unfold slotsOf at h
    split at h
    · next hxs => cases h; simp [ih hxs]
    · cases h

/-- The slot values of a SWEEP_SET are 1 to 16. -/
theorem length_slots {l : List Byte} {os : Options} (h : checkOptions .sweepSet l = .ok os) {xs : List (Option Sector)}
    (hxs : slotsOf ((os.bytes .slots).getD []) = some xs) : 1 ≤ xs.length ∧ xs.length ≤ 16 := by
  obtain ⟨v, hv⟩ := has_required h (o := .slots) (by simp [optionsRequired])
  have hlen := bytes_ok h hv
  rw [hv, Option.getD_some] at hxs
  rw [length_slotsOf hxs]
  simpa [Opt.lengthOk] using hlen

theorem keeps_sweepSet : Gives (execSweepSet r s) (Keeps none s) := by
  unfold execSweepSet
  split
  · exact gives_next (.refuse _ r _)
  · next os h htarget =>
    obtain ⟨hos, -, -⟩ := headTarget_ok.mp htarget
    split
    · exact gives_next (.refuse _ r _)
    · next xs hxs =>
      split
      · exact gives_next (.refuse _ r _)
      · next hfull =>
        have hplan (hok : (s.head h).ok) := sweepPlan_ok hok.sweeps.1 (length_slots hos hxs) (os := os)
        dsimp only
        split
        · next hserv => exact gives_next (.stage h _ hplan hserv (Bool.not_eq_true _ ▸ hfull))
        · next hserv => exact gives_next (Keeps.applySchedule h hplan (Bool.not_eq_true _ ▸ hserv)).answer

theorem keeps_shadowRead : Gives (execShadowRead r s) (Keeps none s) := by
  unfold execShadowRead
  split
  · exact gives_next (.refuse _ r _)
  · exact gives_next (Keeps.refl s).answer

theorem keeps_partStatus : Gives (execPartStatus r s) (Keeps none s) := by
  unfold execPartStatus
  split
  · exact gives_next (.refuse _ r _)
  · refine gives_next (Keeps.answer ?_)
    exact .of_laws rfl (fun ⟨hin, hn, hd, _, hdiv⟩ => ⟨hin, hn, hd, Nat.zero_le _, hdiv⟩) (fun _ => id) (fun _ => id)
      (fun _ => id) id

theorem keeps_restart : Gives (execRestart r s) (Keeps none s) := by
  unfold execRestart
  split
  · exact gives_next (.refuse _ r _)
  · exact gives_next Keeps.takeRestart.answer

end

/-! ### Events and the outgoing sides -/

theorem keeps_measurementReport (tag : Tag) (es : List MeasEntry) : Gives (execMeasurementReport tag es s) (Keeps none s) := by
  unfold execMeasurementReport
  split
  · next k c h => exact gives_next (.takeReport es h)
  · exact gives_next (.unmatchedEvent _)

theorem keeps_craneUplink (tag : Tag) (f : UplinkFields) : Gives (execCraneUplink tag f s) (Keeps none s) := by
  unfold execCraneUplink
  split
  · exact gives_next (.unmatchedEvent _)
  · split
    · exact gives_next (.onUplink _ _ f)
    · exact gives_next (.unmatchedEvent none)

theorem keeps_noticeSend : Gives (execNoticeSend s) (Keeps none s) := by
  unfold execNoticeSend
  split
  · next n rest _ hn =>
    refine gives_next (.of_laws rfl (fun ⟨hin, hlen, hd, hrest⟩ => ?_) (fun _ => id) (fun _ => id) (fun _ => id) id)
    rw [hn] at hlen hd
    exact ⟨hin, Nat.le_of_succ_le hlen, (List.pairwise_cons.mp hd).2, hrest⟩
  · exact gives_next (.refl s)

theorem keeps_replySend : Gives (execReplySend s) (Keeps none s) := by
  unfold execReplySend
  split
  · exact gives_next (.refl s)
  · exact gives_next (.of_records_same rfl)

theorem keeps_orderSend : Gives (execOrderSend s) (Keeps none s) := by
  unfold execOrderSend
  split
  · exact gives_next (.refl s)
  · exact gives_next (.of_records_same rfl)

end Sys2Proof.Machine
end

section
/-! What every step keeps of the records' laws: the commands that change settings, identities or counts, and then all. -/

namespace Sys2Proof.Machine

variable {s t u : State}

/-- Each law of the records holds after when it held before. -/
structure StepKeeps (s t : State) : Prop where
  tables : s.tablesLaw → t.tablesLaw
  owners : s.tablesLaw → s.ownershipLaw → t.ownershipLaw
  cands : s.tablesLaw → s.candidateLaw → t.candidateLaw
  links : s.tablesLaw → s.linkLaw → t.linkLaw
  reefers : s.tablesLaw → s.reeferLaw → t.reeferLaw
  heads : s.headLaw → t.headLaw
  ports : s.portLaw → t.portLaw
  settings : s.settingsLaw → t.settingsLaw

theorem StepKeeps.refl (s : State) : StepKeeps s s := ⟨id, fun _ => id, fun _ => id, fun _ => id, fun _ => id, id, id, id⟩

theorem StepKeeps.trans (a : StepKeeps s t) (b : StepKeeps t u) : StepKeeps s u :=
  ⟨b.tables ∘ a.tables, fun w => b.owners (a.tables w) ∘ a.owners w, fun w => b.cands (a.tables w) ∘ a.cands w,
    fun w => b.links (a.tables w) ∘ a.links w, fun w => b.reefers (a.tables w) ∘ a.reefers w, b.heads ∘ a.heads,
    b.ports ∘ a.ports, b.settings ∘ a.settings⟩

/-! ### The ownership law is one of the fixed view -/

theorem get?_map {α β : Type} (t : Table α) (f : α → β) (k : Nat) :
    Table.get? (t.map fun e => (e.1, f e.2)) k = (t.get? k).map f := by
  induction t with
  | nil => rfl
  | cons e t ih =>
    obtain ⟨j, v⟩ := e
    simp only [List.map_cons, Table.get?, ih]
    split <;> rfl

/-- The ownership law in terms of identities and owners. -/
def Fixed.owned (v : Fixed) : Prop :=
  (∀ e ∈ v.contexts, e.2.2.1 = .crane → (e.2.2.2.bind (Table.get? v.links)).any fun o => o == e.1) ∧
  (∀ e ∈ v.contexts, e.2.2.1 = .reefer → (e.2.2.2.bind (Table.get? v.reefers)).any fun o => o == e.1) ∧
  (∀ e ∈ v.contexts, e.2.2.1 ≠ .crane → e.2.2.1 ≠ .reefer → e.2.2.2 = none) ∧
  (∀ e ∈ v.links, (Table.get? v.contexts e.2).any fun c => c.2.1 == .crane && c.2.2 == some e.1) ∧
  (∀ e ∈ v.reefers, (Table.get? v.contexts e.2).any fun c => c.2.1 == .reefer && c.2.2 == some e.1)

theorem ownershipLaw_iff (s : State) : s.ownershipLaw ↔ s.fixed.owned := by
  have hlink : ∀ o : Option Nat, o.bind (Table.get? s.fixed.links) = (o.bind s.links.get?).map CraneLink.owner := by
    intro o
    cases o with
    | none => rfl
    | some l => exact get?_map s.links CraneLink.owner l
  have hreefer : ∀ o : Option Nat, o.bind (Table.get? s.fixed.reefers) = (o.bind s.reefers.get?).map Reefer.owner := by
    intro o
    cases o with
    | none => rfl
    | some i => exact get?_map s.reefers Reefer.owner i
  have hcontext : ∀ k, Table.get? s.fixed.contexts k = (s.contexts.get? k).map Context.ids :=
    fun k => get?_map s.contexts Context.ids k
  unfold State.ownershipLaw Fixed.owned
  simp only [hlink, hreefer, hcontext, Option.any_map]
  simp only [State.fixed, List.forall_mem_map]
  rfl

theorem Keeps.step (h : Keeps none s t) : StepKeeps s t where
  tables := tablesLaw_of_fixed h.fixed
  owners _ ho := by rw [ownershipLaw_iff] at ho ⊢; rwa [h.fixed]
  cands w hc := h.laws .cands nofun (fun _ => hc) (tablesLaw_of_fixed h.fixed w)
  links w hl := h.laws .links nofun (fun _ => hl) (tablesLaw_of_fixed h.fixed w)
  reefers w hr := h.laws .reefers nofun (fun _ => hr) (tablesLaw_of_fixed h.fixed w)
  heads := h.laws .heads nofun
  ports := h.laws .ports nofun
  settings hs := by
    have hset : t.settings = s.settings := congrArg Fixed.settings h.fixed
    have hw : t.loadWeight = s.loadWeight := congrArg Fixed.loadWeight h.fixed
    unfold State.settingsLaw
    rwa [hset, hw]

/-! ### ATTACH -/

theorem attachChecks_ok {os : Options} {p : AttachPlan} (h : attachChecks os s = .ok p) :
    p.handle = s.contexts.lowestFree ∧ s.contexts.lowestFree < Config.contextSlots ∧ s.findTag p.ctx.tag = none ∧
      freeExtension p.ctx.cls s = some p.ctx.ext ∧ p.ctx.cands = [] ∧ p.ctx.serving = none := by
  unfold attachChecks at h
  split at h
  · split at h
    · cases h
    · split at h
      · cases h
      · next htag =>
        split at h
        · cases h
        · next hfree =>
          split at h
          · cases h
          · next hext =>
            cases h
            exact ⟨rfl, Nat.not_le.mp hfree, by simpa using htag, hext, rfl, rfl⟩
  · cases h

/-- The extension record that ATTACH allocates, by the class (R3). -/
theorem freeExtension_cases {cls : Class} {ext : Option Nat} (h : freeExtension cls s = some ext) :
    (cls = .crane ∧ ext = some s.links.lowestFree ∧ s.links.lowestFree < Config.craneLinks) ∨
      (cls = .reefer ∧ ext = some s.reefers.lowestFree ∧ s.reefers.lowestFree < Config.reeferRecords) ∨
      (cls ≠ .crane ∧ cls ≠ .reefer ∧ ext = none) := by
  unfold freeExtension at h
  split at h
  · split at h
    · cases h; exact .inl ⟨rfl, rfl, ‹_›⟩
    · cases h
  · split at h
    · cases h; exact .inr (.inl ⟨rfl, rfl, ‹_›⟩)
    · cases h
  · cases h; exact .inr (.inr ⟨nofun, nofun, rfl⟩)
  · cases h; exact .inr (.inr ⟨nofun, nofun, rfl⟩)

/-- A taken ATTACH of a CRANE, of a REEFER, and of another class. -/
theorem takeAttach_cases {p : AttachPlan} (h : freeExtension p.ctx.cls s = some p.ctx.ext) :
    (p.ctx.cls = .crane ∧ p.ctx.ext = some s.links.lowestFree ∧ s.links.lowestFree < Config.craneLinks ∧
        takeAttach p s = { s with
          contexts := s.contexts.set p.handle p.ctx
          links := s.links.set s.links.lowestFree (CraneLink.fresh p.handle) }) ∨
      (p.ctx.cls = .reefer ∧ p.ctx.ext = some s.reefers.lowestFree ∧ s.reefers.lowestFree < Config.reeferRecords ∧
        takeAttach p s = { s with
          contexts := s.contexts.set p.handle p.ctx
          reefers := s.reefers.set s.reefers.lowestFree (Reefer.fresh p.handle) }) ∨
      (p.ctx.cls ≠ .crane ∧ p.ctx.cls ≠ .reefer ∧ p.ctx.ext = none ∧
        takeAttach p s = { s with contexts := s.contexts.set p.handle p.ctx }) := by
  unfold takeAttach
  rcases freeExtension_cases h with ⟨hc, he, hlt⟩ | ⟨hc, he, hlt⟩ | ⟨hc, hr, he⟩
  · exact .inl ⟨hc, he, hlt, by simp only [hc, he]⟩
  · exact .inr (.inl ⟨hc, he, hlt, by simp only [hc, he]⟩)
  · refine .inr (.inr ⟨hc, hr, he, ?_⟩)
    dsimp only
    split
    · exact absurd ‹_› hc
    · exact absurd ‹_› hr
    · rfl

/-- A relation that holds of a new record and each of a table holds pairwise of the table with the record. -/
theorem Table.pairwise_set {α : Type} {r : Nat × α → Nat × α → Prop} (hsym : ∀ a b, r a b → r b a) {t : Table α} {k : Nat}
    {v : α} (h : t.Pairwise r) (hnew : ∀ e ∈ t, r (k, v) e) : (t.set k v).Pairwise r := by
  induction t with
  | nil => exact List.pairwise_singleton ..
  | cons d t ih =>
    obtain ⟨j, w⟩ := d
    obtain ⟨hd, ht⟩ := List.pairwise_cons.mp h
    have hnew' : ∀ e ∈ t, r (k, v) e := fun e he => hnew e (List.mem_cons_of_mem _ he)
    unfold Table.set
    split
    · exact List.pairwise_cons.mpr ⟨fun e he => hnew e he, h⟩
    · split
      · exact List.pairwise_cons.mpr ⟨hnew', ht⟩
      · refine List.pairwise_cons.mpr ⟨fun e he => ?_, ih ht hnew'⟩
        rcases Table.mem_set he with rfl | he
        · exact hsym _ _ (hnew _ List.mem_cons_self)
        · exact hd e he

theorem tablesLaw_takeAttach {p : AttachPlan} {os : Options} (hp : attachChecks os s = .ok p) (h : s.tablesLaw) :
    (takeAttach p s).tablesLaw := by
  obtain ⟨hhandle, hlt, htag, hext, -, -⟩ := attachChecks_ok hp
  obtain ⟨wc, wl, wr, htags⟩ := h
  have hfresh : ∀ e ∈ s.contexts, p.ctx.tag ≠ e.2.tag := fun e he heq => by
    have := List.find?_eq_none.mp htag e he
    simp [heq] at this
  have hcontexts : (s.contexts.set p.handle p.ctx).wf Config.contextSlots := Table.set_wf _ wc (hhandle ▸ hlt)
  have htags' : (s.contexts.set p.handle p.ctx).Pairwise fun a b => a.2.tag ≠ b.2.tag :=
    Table.pairwise_set (fun _ _ => Ne.symm) htags hfresh
  rcases takeAttach_cases hext with ⟨-, -, hl, e⟩ | ⟨-, -, hr, e⟩ | ⟨-, -, -, e⟩ <;> rw [e]
  · exact ⟨hcontexts, Table.set_wf _ wl hl, wr, htags'⟩
  · exact ⟨hcontexts, wl, Table.set_wf _ wr hr, htags'⟩
  · exact ⟨hcontexts, wl, wr, htags'⟩

/-- Extensions and owners found before a free slot is written are found after. -/
theorem any_get?_set {α : Type} {t : Table α} {n k : Nat} (w : t.wf n) (v : α) {o : Option Nat} {p : α → Bool}
    (hk : k = t.lowestFree) (h : (o.bind t.get?).any p = true) : (o.bind (t.set k v).get?).any p = true := by
  cases o with
  | none => cases h
  | some j =>
    simp only [Option.bind_some] at h ⊢
    rw [Table.get?_set_of_ne _ _ fun hj => ?_]
    · exact h
    · rw [hj, hk, Table.get?_lowestFree w] at h
      cases h

theorem ownershipLaw_takeAttach {p : AttachPlan} {os : Options} (hp : attachChecks os s = .ok p) (w : s.tablesLaw)
    (h : s.ownershipLaw) : (takeAttach p s).ownershipLaw := by
  obtain ⟨hhandle, hlt, htag, hext, -, -⟩ := attachChecks_ok hp
  obtain ⟨wc, wl, wr, -⟩ := w
  obtain ⟨hcrane, hreefer, hother, hlink, hrecord⟩ := h
  have hown {cls : Class} {k i : Nat} (hk : (s.contexts.get? k).any (fun c => c.cls == cls && c.ext == some i) = true) :
      ((s.contexts.set p.handle p.ctx).get? k).any (fun c => c.cls == cls && c.ext == some i) = true :=
    any_get?_set (o := some k) wc p.ctx hhandle hk
  have hnew (k : Nat) (hk : k = p.handle) : (s.contexts.set p.handle p.ctx).get? k = some p.ctx := by
    rw [hk, Table.get?_set_self]
  rcases takeAttach_cases hext with ⟨hc, he, -, e⟩ | ⟨hc, he, -, e⟩ | ⟨hc, hr, he, e⟩ <;> rw [e]
  · refine ⟨?_, ?_, ?_, ?_, fun d hd => hown (hrecord d hd)⟩ <;> intro d hd <;> rcases Table.mem_set hd with rfl | hd
    · exact fun _ => by simp [he, CraneLink.fresh]
    · exact fun hd' => any_get?_set wl _ rfl (hcrane d hd hd')
    · exact fun hd' => absurd (hd'.symm.trans hc) nofun
    · exact hreefer d hd
    · exact fun hd' => absurd hc hd'
    · exact hother d hd
    · simp [hnew _ rfl, CraneLink.fresh, hc, he]
    · exact hown (hlink d hd)
  · refine ⟨?_, ?_, ?_, fun d hd => hown (hlink d hd), ?_⟩ <;> intro d hd <;> rcases Table.mem_set hd with rfl | hd
    · exact fun hd' => absurd (hd'.symm.trans hc) nofun
    · exact hcrane d hd
    · exact fun _ => by simp [he, Reefer.fresh]
    · exact fun hd' => any_get?_set wr _ rfl (hreefer d hd hd')
    · exact fun _ hd' => absurd hc hd'
    · exact hother d hd
    · simp [hnew _ rfl, Reefer.fresh, hc, he]
    · exact hown (hrecord d hd)
  · refine ⟨?_, ?_, ?_, fun d hd => hown (hlink d hd), fun d hd => hown (hrecord d hd)⟩ <;> intro d hd <;>
      rcases Table.mem_set hd with rfl | hd
    · exact fun hd' => absurd hd' hc
    · exact hcrane d hd
    · exact fun hd' => absurd hd' hr
    · exact hreefer d hd
    · exact fun _ _ => he
    · exact hother d hd

theorem forall_mem_set {α : Type} {t : Table α} {k : Nat} {v : α} {p : α → Prop} (h : ∀ e ∈ t, p e.2) (hv : p v) :
    ∀ e ∈ t.set k v, p e.2 := by
  intro e he
  rcases Table.mem_set he with rfl | he
  · exact hv
  · exact h e he

theorem CraneLink.fresh_ok (o : Nat) : (CraneLink.fresh o).ok := by
  simp [CraneLink.ok, CraneLink.fresh, Config.period, Config.standingUnits, Config.holdLimit, Config.missLimit,
    Phase.count?]

theorem Reefer.fresh_ok (o : Nat) : (Reefer.fresh o).ok := by
  simp [Reefer.ok, Reefer.fresh, Config.interval, Config.grace]

theorem candidatesOk_nil (limit : Nat) : candidatesOk limit [] :=
  ⟨Nat.zero_le _, List.nodup_nil, List.Pairwise.nil, nofun⟩

theorem step_takeAttach {p : AttachPlan} {os : Options} (hp : attachChecks os s = .ok p) : StepKeeps s (takeAttach p s) := by
  obtain ⟨-, -, -, hext, hcands, -⟩ := attachChecks_ok hp
  have hset (h : s.candidateLaw) : ∀ e ∈ s.contexts.set p.handle p.ctx,
      candidatesOk (s.params.get e.2.cls).ttt e.2.cands :=
    forall_mem_set (p := fun c : Context => candidatesOk (s.params.get c.cls).ttt c.cands) h.2 (by rw [hcands]; exact candidatesOk_nil _)
  refine ⟨tablesLaw_takeAttach hp, ownershipLaw_takeAttach hp, ?_, ?_, ?_, ?_, ?_, ?_⟩ <;>
    rcases takeAttach_cases hext with ⟨-, -, -, e⟩ | ⟨-, -, -, e⟩ | ⟨-, -, -, e⟩ <;> rw [e]
  · exact fun _ h => ⟨h.1, hset h⟩
  · exact fun _ h => ⟨h.1, hset h⟩
  · exact fun _ h => ⟨h.1, hset h⟩
  · exact fun _ h => forall_mem_set h (CraneLink.fresh_ok _)
  · exact fun _ h => h
  · exact fun _ h => h
  · exact fun _ h => h
  · exact fun _ h => forall_mem_set h (Reefer.fresh_ok _)
  · exact fun _ h => h
  all_goals exact id

end Sys2Proof.Machine
end

section
/-! The commands that change identities, settings or counts: RETIRE, HEAD_CONFIG, the settings' requests, the strobe; and
what every command keeps. -/

namespace Sys2Proof.Machine

variable {s t u : State}

/-! ### RETIRE -/

theorem Keeps.endExtensionWork (k : Nat) (c : Context) : Keeps none s (s.endExtensionWork k c) := by
  unfold State.endExtensionWork
  split
  · exact .endAll _ _
  · exact .endReeferWork _
  · exact .refl s

theorem Keeps.withdrawNotices (k : Nat) :
    Keeps none s { s with notices := s.notices.filter fun n => n.subject != Subject.context k } :=
  .of_laws rfl (fun ⟨hin, hlen, hd, hrest⟩ => ⟨hin, (List.length_filter_le ..).trans hlen, hd.filter _, hrest⟩)
    (fun _ => id) (fun _ => id) (fun _ => id) id

/-- A taken RETIRE up to the freeing of slot and record. -/
def State.retiring (s : State) (k : Nat) (c : Context) : State :=
  let s1 := s.endExtensionWork k c
  let s2 := match c.serving with | some h => s1.order (.drop h c.tag) | none => s1
  { s2 with notices := s2.notices.filter fun n => n.subject != Subject.context k }

theorem takeRetire_eq (k : Nat) (c : Context) : takeRetire k c s = (s.retiring k c).freeContext k c := rfl

theorem Keeps.retiring (k : Nat) (c : Context) : Keeps none s (s.retiring k c) := by
  refine Keeps.trans (Keeps.trans (.endExtensionWork k c) ?_) (.withdrawNotices k)
  split
  · exact .order _
  · exact .refl _

theorem freeContext_cases (s : State) (k : Nat) (c : Context) :
    (∃ l, c.cls = .crane ∧ c.ext = some l ∧
        s.freeContext k c = { s with links := s.links.erase l, contexts := s.contexts.erase k }) ∨
      (∃ i, c.cls = .reefer ∧ c.ext = some i ∧
        s.freeContext k c = { s with reefers := s.reefers.erase i, contexts := s.contexts.erase k }) ∨
      ((∀ l, c.cls = .crane → c.ext ≠ some l) ∧ (∀ i, c.cls = .reefer → c.ext ≠ some i) ∧
        s.freeContext k c = { s with contexts := s.contexts.erase k }) := by
  unfold State.freeContext
  split
  · next l hc he => exact .inl ⟨l, hc, he, rfl⟩
  · next i hc he => exact .inr (.inl ⟨i, hc, he, rfl⟩)
  · next h1 h2 => exact .inr (.inr ⟨h1, h2, rfl⟩)

theorem mem_erase {α : Type} {t : Table α} {k : Nat} {e : Nat × α} (h : e ∈ t.erase k) : e ∈ t ∧ e.1 ≠ k := by
  obtain ⟨hmem, hne⟩ := List.mem_filter.mp h
  exact ⟨hmem, by simpa using hne⟩

theorem any_get?_erase {α : Type} {t : Table α} {k j : Nat} {p : α → Bool} (h : (t.get? j).any p = true) (hj : j ≠ k) :
    ((t.erase k).get? j).any p = true := by
  rw [Table.get?_erase, if_neg hj]
  exact h

theorem ownershipLaw_freeContext {k : Nat} {c : Context} (hc : s.contexts.get? k = some c) (h : s.ownershipLaw) : (s.freeContext k c).ownershipLaw := by
  obtain ⟨hcrane, hreefer, hother, hlink, hrecord⟩ := h
  have hlinkOwner {l : Nat} (hcls : c.cls = .crane) (hext : c.ext = some l) :
      (s.links.get? l).any (fun x => x.owner == k) = true := by
    simpa [hext] using hcrane (k, c) (Table.mem_of_get? hc) hcls
  have hreeferOwner {i : Nat} (hcls : c.cls = .reefer) (hext : c.ext = some i) :
      (s.reefers.get? i).any (fun x => x.owner == k) = true := by
    simpa [hext] using hreefer (k, c) (Table.mem_of_get? hc) hcls
  have hlinks (m : Table CraneLink) (hm : ∀ e ∈ m, e ∈ s.links ∧ c.ext ≠ some e.1 ∨ e ∈ s.links ∧ c.cls ≠ .crane) :
      ∀ e ∈ m, ((s.contexts.erase k).get? e.2.owner).any fun d => d.cls == .crane && d.ext == some e.1 := by
    intro e he
    have hne : e.2.owner ≠ k := fun heq => by
      rcases hm e he with ⟨hmem, hext⟩ | ⟨hmem, hcls⟩
      all_goals
        have := hlink e hmem
        rw [heq, hc] at this
        simp at this
      · exact hext this.2
      · exact hcls this.1
    rcases hm e he with ⟨hmem, -⟩ | ⟨hmem, -⟩ <;> exact any_get?_erase (hlink e hmem) hne
  have hrecords (m : Table Reefer) (hm : ∀ e ∈ m, e ∈ s.reefers ∧ c.ext ≠ some e.1 ∨ e ∈ s.reefers ∧ c.cls ≠ .reefer) :
      ∀ e ∈ m, ((s.contexts.erase k).get? e.2.owner).any fun d => d.cls == .reefer && d.ext == some e.1 := by
    intro e he
    have hne : e.2.owner ≠ k := fun heq => by
      rcases hm e he with ⟨hmem, hext⟩ | ⟨hmem, hcls⟩
      all_goals
        have := hrecord e hmem
        rw [heq, hc] at this
        simp at this
      · exact hext this.2
      · exact hcls this.1
    rcases hm e he with ⟨hmem, -⟩ | ⟨hmem, -⟩ <;> exact any_get?_erase (hrecord e hmem) hne
  have hdisjoint {α : Type} {t : Table α} {o : Option Nat} {own : α → Nat} {l j : Nat} (hl : (t.get? l).any (fun x => own x == k) = true)
      (ho : (o.bind t.get?).any (fun x => own x == j) = true) (hj : j ≠ k) :
      (o.bind (t.erase l).get?).any (fun x => own x == j) = true := by
    cases o with
    | none => cases ho
    | some m =>
      refine any_get?_erase ho fun heq => ?_
      rw [heq] at ho
      simp only [Option.bind_some] at ho
      cases hget : t.get? l with
      | none => rw [hget] at ho; cases ho
      | some v =>
        rw [hget] at ho hl
        simp only [Option.any_some, beq_iff_eq] at ho hl
        exact hj (ho.symm.trans hl)
  rcases freeContext_cases s k c with ⟨l, hcls, hext, e⟩ | ⟨i, hcls, hext, e⟩ | ⟨hnc, hnr, e⟩ <;> rw [e]
  · refine ⟨fun d hd hd' => ?_, fun d hd => hreefer d (mem_erase hd).1, fun d hd => hother d (mem_erase hd).1,
      hlinks _ fun d hd => .inl ⟨(mem_erase hd).1, fun he => (mem_erase hd).2 ?_⟩,
      hrecords _ fun d hd => .inr ⟨hd, by simp [hcls]⟩⟩
    · exact hdisjoint (own := CraneLink.owner) (hlinkOwner hcls hext) (hcrane d (mem_erase hd).1 hd') (mem_erase hd).2
    · rw [hext] at he
      exact (Option.some.inj he).symm
  · refine ⟨fun d hd => hcrane d (mem_erase hd).1, fun d hd hd' => ?_, fun d hd => hother d (mem_erase hd).1,
      hlinks _ fun d hd => .inr ⟨hd, by simp [hcls]⟩,
      hrecords _ fun d hd => .inl ⟨(mem_erase hd).1, fun he => (mem_erase hd).2 ?_⟩⟩
    · exact hdisjoint (own := Reefer.owner) (hreeferOwner hcls hext) (hreefer d (mem_erase hd).1 hd') (mem_erase hd).2
    · rw [hext] at he
      exact (Option.some.inj he).symm
  · have hext (hcls : c.cls = .crane ∨ c.cls = .reefer) : c.ext = none := by
      refine Option.eq_none_iff_forall_ne_some.mpr fun l => ?_
      rcases hcls with hcls | hcls
      · exact hnc l hcls
      · exact hnr l hcls
    refine ⟨fun d hd => hcrane d (mem_erase hd).1, fun d hd => hreefer d (mem_erase hd).1,
      fun d hd => hother d (mem_erase hd).1, hlinks _ fun d hd => ?_, hrecords _ fun d hd => ?_⟩
    · by_cases hcls : c.cls = .crane
      · exact .inl ⟨hd, by simp [hext (.inl hcls)]⟩
      · exact .inr ⟨hd, hcls⟩
    · by_cases hcls : c.cls = .reefer
      · exact .inl ⟨hd, by simp [hext (.inr hcls)]⟩
      · exact .inr ⟨hd, hcls⟩

theorem tablesLaw_freeContext (k : Nat) (c : Context) (h : s.tablesLaw) : (s.freeContext k c).tablesLaw := by
  obtain ⟨wc, wl, wr, htags⟩ := h
  rcases freeContext_cases s k c with ⟨l, -, -, e⟩ | ⟨i, -, -, e⟩ | ⟨-, -, e⟩ <;> rw [e]
  · exact ⟨Table.erase_wf k wc, Table.erase_wf l wl, wr, htags.filter _⟩
  · exact ⟨Table.erase_wf k wc, wl, Table.erase_wf i wr, htags.filter _⟩
  · exact ⟨Table.erase_wf k wc, wl, wr, htags.filter _⟩

/-- Freeing a slot and its record; that slot and context belong together where the tables are in canonical form. -/
theorem step_freeContext {k : Nat} {c : Context} (hc : s.tablesLaw → s.contexts.get? k = some c) :
    StepKeeps s (s.freeContext k c) := by
  refine ⟨tablesLaw_freeContext k c, fun w => ownershipLaw_freeContext (hc w), ?_, ?_, ?_, ?_, ?_, ?_⟩ <;>
    rcases freeContext_cases s k c with ⟨l, -, -, e⟩ | ⟨i, -, -, e⟩ | ⟨-, -, e⟩ <;> rw [e]
  · exact fun _ h => ⟨h.1, fun d hd => h.2 d (mem_erase hd).1⟩
  · exact fun _ h => ⟨h.1, fun d hd => h.2 d (mem_erase hd).1⟩
  · exact fun _ h => ⟨h.1, fun d hd => h.2 d (mem_erase hd).1⟩
  · exact fun _ h d hd => h d (mem_erase hd).1
  · exact fun _ h => h
  · exact fun _ h => h
  · exact fun _ h => h
  · exact fun _ h d hd => h d (mem_erase hd).1
  · exact fun _ h => h
  all_goals exact id

theorem get?_of_resolveContext {r : Request} {k : Nat} {c : Context} (w : s.tablesLaw)
    (h : resolveContext r s = .ok (k, c)) : s.contexts.get? k = some c := by
  unfold resolveContext at h
  split at h
  · split at h
    · cases h
    · split at h
      · next hc => cases h; exact hc
      · cases h
  · split at h
    · split at h
      · next htag => cases h; exact State.get?_of_findTag w.1 htag
      · cases h
    · cases h

/-! ### The fixed view after each command -/

/-- What of the fixed view a command may change. -/
def fixedAs (i : Instr) (s t : State) : Prop :=
  match i with
  | .attach _ | .retire _ =>
    t.fixed = { s.fixed with contexts := t.fixed.contexts, links := t.fixed.links, reefers := t.fixed.reefers }
  | .headConfig _ => t.fixed = { s.fixed with heads := t.fixed.heads }
  | .shadowSet _ => t.fixed = { s.fixed with shadow := t.fixed.shadow }
  | .classParams _ => t.fixed = { s.fixed with params := t.fixed.params, loadWeight := t.fixed.loadWeight }
  | .pollWindowSet _ => t.fixed = { s.fixed with windows := t.fixed.windows }
  | .partConfig _ => t.fixed = { s.fixed with settings := t.fixed.settings }
  | .frameStrobe =>
    t.fixed =
      { s.fixed with frame := s.frame + 1, divider := if 1000 ≤ s.divider + 1 then 0 else s.divider + 1 }
  | .coldReset => t.pending = s.pending
  | _ => t.fixed = s.fixed

/-- What a command keeps, and what of the fixed view it may change. -/
def Kept (i : Instr) (s t : State) : Prop := fixedAs i s t ∧ StepKeeps s t

section
variable {r : Request}

theorem kept_attach : Gives (execAttach r s) (Kept (.attach r) s) := by
  unfold execAttach
  split
  · exact gives_next ⟨rfl, (Keeps.refuse _ r _).step⟩
  · split
    · exact gives_next ⟨rfl, (Keeps.refuse _ r _).step⟩
    · next p hp =>
      refine gives_next ⟨?_, (step_takeAttach hp).trans (Keeps.answer (.refl _)).step⟩
      obtain ⟨-, -, -, hext, -, -⟩ := attachChecks_ok hp
      rcases takeAttach_cases hext with ⟨-, -, -, e⟩ | ⟨-, -, -, e⟩ | ⟨-, -, -, e⟩ <;> rw [e] <;> rfl

theorem contexts_endReeferWork (i : Nat) : (s.endReeferWork i).contexts = s.contexts := by
  unfold State.endReeferWork
  rw [State.endPoll_frame]
  change (s.endPage i .retired).contexts = s.contexts
  rw [State.endPage_frame s i .retired]

theorem contexts_retiring (k : Nat) (c : Context) : (s.retiring k c).contexts = s.contexts := by
  have hwork : (s.endExtensionWork k c).contexts = s.contexts := by
    unfold State.endExtensionWork
    split
    · rfl
    · exact contexts_endReeferWork _
    · rfl
  unfold State.retiring
  dsimp only
  split
  · exact hwork
  · exact hwork

theorem fixed_freeContext (k : Nat) (c : Context) (h : u.fixed = s.fixed) :
    (u.freeContext k c).fixed =
      { s.fixed with
        contexts := (u.freeContext k c).fixed.contexts, links := (u.freeContext k c).fixed.links
        reefers := (u.freeContext k c).fixed.reefers } := by
  rw [← h]
  rcases freeContext_cases u k c with ⟨l, -, -, e⟩ | ⟨i, -, -, e⟩ | ⟨-, -, e⟩ <;> rw [e] <;> rfl

theorem kept_retire : Gives (execRetire r s) (Kept (.retire r) s) := by
  unfold execRetire
  split
  · exact gives_next ⟨rfl, (Keeps.refuse _ r _).step⟩
  · next a ha =>
    split
    · exact gives_next ⟨rfl, (Keeps.refuse _ r _).step⟩
    · obtain ⟨-, hres, -⟩ := contextTarget_ok.mp ha
      have hretiring := Keeps.retiring (s := s) a.handle a.ctx
      have hget : (s.retiring a.handle a.ctx).tablesLaw →
          (s.retiring a.handle a.ctx).contexts.get? a.handle = some a.ctx := fun w => by
        rw [contexts_retiring]
        exact get?_of_resolveContext (tablesLaw_of_fixed hretiring.fixed.symm w) hres
      exact gives_next ⟨fixed_freeContext a.handle a.ctx hretiring.fixed,
        (hretiring.step.trans (step_freeContext hget)).trans (Keeps.answer (.refl _)).step⟩

/-! ### HEAD_CONFIG -/

theorem headConfigChecks_ok {os : Options} {y : Head} {a : Account} {p : HeadPlan} (h : headConfigChecks os y a = .ok p)
    (hok : y.ok) : (p.write y).ok := by
  obtain ⟨hc, hc', hs, hs', hl, hl', hh, hh', -⟩ := hok.set
  have hcap := clampOpt_range (lo := 16) (hi := 240) (by decide) ⟨hc, hc'⟩ (os.nat .capacity)
  have hstart := clampOpt_range (lo := 1) (hi := 65535) (by decide) ⟨hs, hs'⟩ (os.nat .startFrames)
  have hlock := clampOpt_range (lo := 1) (hi := 65535) (by decide) ⟨hl, hl'⟩ (os.nat .lockLimit)
  have hhold := clampOpt_range (lo := 1) (hi := 65535) (by decide) ⟨hh, hh'⟩ (os.nat .holdoverLimit)
  unfold headConfigChecks at h
  split at h
  · split at h
    · cases h
    · split at h
      · cases h
      · next hspan =>
        dsimp only at h
        split at h
        · cases h
        · cases h
          exact (Head.ok_iff _).mpr ⟨⟨hcap.1, hcap.2, hstart.1, hstart.2, hlock.1, hlock.2, hhold.1, hhold.2,
            Fin.not_lt.mp hspan⟩, hok.sweeps, hok.timers⟩
  · cases h

theorem Keeps.headWork {x : Option Law} (h : HeadIx) (withCapacity : Bool) :
    Keeps x s (if withCapacity then s.newCapacity h else s) :=
  .ite (fun _ => .newCapacity h) fun _ => .refl s

theorem kept_headConfig : Gives (execHeadConfig r s) (Kept (.headConfig r) s) := by
  unfold execHeadConfig
  split
  · exact gives_next ⟨rfl, (Keeps.refuse _ r _).step⟩
  · next os h _ =>
    split
    · exact gives_next ⟨rfl, (Keeps.refuse _ r _).step⟩
    · next p hp =>
      have hwork : Keeps none (s.modHead h p.write) (takeHeadConfig h (os.has .capacity) p s) := .headWork h _
      have hwrite : StepKeeps s (s.modHead h p.write) :=
        ⟨id, fun _ => id, fun _ => id, fun _ => id, fun _ => id,
          fun hs => headLaw_setHead hs (headConfigChecks_ok hp (hs h)), id, id⟩
      refine gives_next ⟨?_, (hwrite.trans hwork.step).trans (Keeps.answer (.refl _)).step⟩
      show (takeHeadConfig h (os.has .capacity) p s).fixed = { s.fixed with heads := (takeHeadConfig h (os.has .capacity) p s).fixed.heads }
      rw [hwork.fixed]
      rfl

/-! ### SHADOW_SET, CLASS_PARAMS, POLL_WINDOW_SET, PART_CONFIG -/

theorem kept_shadowSet : Gives (execShadowSet r s) (Kept (.shadowSet r) s) := by
  unfold execShadowSet
  split
  · exact gives_next ⟨rfl, (Keeps.refuse _ r _).step⟩
  · split
    · exact gives_next ⟨rfl, (Keeps.refuse _ r _).step⟩
    · exact gives_next ⟨rfl, ⟨id, fun _ => id, fun _ => id, fun _ => id, fun _ => id, id, id, id⟩⟩

theorem ParamSets.get_set (p : ParamSets) (c d : Class) (y : ClassParams) :
    (p.set c y).get d = if d = c then y else p.get d := by
  cases c <;> cases d <;> rfl

theorem ParamSets.inRange_iff (p : ParamSets) :
    p.inRange ↔ ∀ c, (p.get c).shift ≤ 6 ∧ (p.get c).hysteresis ≤ 30 ∧ 1 ≤ (p.get c).ttt ∧ (p.get c).ttt ≤ 15 ∧
      -256 ≤ (p.get c).offset ∧ (p.get c).offset ≤ 255 := by
  refine ⟨params_range, fun h y hy => ?_⟩
  simp only [List.mem_cons, List.not_mem_nil, or_false] at hy
  rcases hy with rfl | rfl | rfl | rfl
  · exact h .crane
  · exact h .reefer
  · exact h .vehicle
  · exact h .handheld

theorem paramsChecks_ok {os : Options} {p : ParamsPlan} (h : paramsChecks os s = .ok p) :
    (s.loadWeight ≤ 255 → p.weight ≤ 255) ∧
      (s.params.inRange → p.params.shift ≤ 6 ∧ p.params.hysteresis ≤ 30 ∧ 1 ≤ p.params.ttt ∧ p.params.ttt ≤ 15 ∧
        -256 ≤ p.params.offset ∧ p.params.offset ≤ 255) := by
  unfold paramsChecks at h
  split at h
  · cases h
  · next cls _ =>
    split at h
    · cases h
    · cases h
      refine ⟨fun hw => ?_, fun hp => ?_⟩
      · exact (clampOpt_range (by decide) ⟨Nat.zero_le _, hw⟩ (os.nat .loadWeight)).2
      · obtain ⟨h1, h2, h3, h4, h5, h6⟩ := params_range hp (cls.getD .crane)
        have hk := clampOpt_range (by decide) ⟨Nat.zero_le _, h1⟩ (os.nat .shift)
        have hh := clampOpt_range (by decide) ⟨Nat.zero_le _, h2⟩ (os.nat .hysteresis)
        have ht := clampOpt_range (by decide) ⟨h3, h4⟩ (os.nat .ttt)
        have ho := clampOptInt_range (by decide) ⟨h5, h6⟩ (os.int .offset)
        exact ⟨hk.2, hh.2, ht.1, ht.2, ho.1, ho.2⟩

theorem candidatesOk_capCounts {limit : Nat} {c : Context} (limit' : Nat) (h : candidatesOk limit c.cands) :
    candidatesOk limit' (c.capCounts limit').cands := by
  apply candidatesOk_map h <;> intro e <;> simp

theorem fixed_contexts_mapAll {f : Context → Context} (hid : ∀ c, (f c).ids = c.ids) :
    ((s.contexts.mapAll f).map fun e => (e.1, e.2.ids)) = s.contexts.map fun e => (e.1, e.2.ids) := by
  simp only [Table.mapAll, List.map_map, Function.comp_def, hid]

theorem ids_capIf (cls : Class) (limit : Nat) (c : Context) :
    (if c.cls = cls then c.capCounts limit else c).ids = c.ids := by
  split <;> rfl

theorem fixed_takeParams (p : ParamsPlan) :
    (takeParams p s).fixed =
      { s.fixed with params := (takeParams p s).fixed.params, loadWeight := (takeParams p s).fixed.loadWeight } := by
  unfold takeParams
  split
  · rfl
  · next cls _ =>
    simp only [State.fixed]
    rw [fixed_contexts_mapAll (ids_capIf cls p.params.ttt)]
    rfl

theorem tables_of_fixedParams {p : ParamSets} {w : Nat} (h : t.fixed = { s.fixed with params := p, loadWeight := w }) :
    (s.tablesLaw → t.tablesLaw) ∧ (s.ownershipLaw → t.ownershipLaw) := by
  simp only [tablesLaw_iff, ownershipLaw_iff, h]
  exact ⟨id, id⟩

theorem step_takeParams {os : Options} {p : ParamsPlan} (h : paramsChecks os s = .ok p) : StepKeeps s (takeParams p s) := by
  obtain ⟨hweight, hrange⟩ := paramsChecks_ok h
  obtain ⟨htables, howned⟩ := tables_of_fixedParams (fixed_takeParams (s := s) p)
  refine ⟨htables, fun _ => howned, fun _ hc => ?_, ?_, ?_, ?_, ?_, ?_⟩ <;> unfold takeParams <;> split
  · exact hc
  · next cls _ =>
    obtain ⟨hparams, hcands⟩ := hc
    refine ⟨(ParamSets.inRange_iff _).mpr fun d => ?_, fun e he => ?_⟩
    · rw [ParamSets.get_set]
      split
      · exact hrange hparams
      · exact params_range hparams d
    · obtain ⟨d, hd, rfl⟩ := List.mem_map.mp he
      dsimp only
      rw [ParamSets.get_set]
      by_cases hcls : d.2.cls = cls
      · rw [if_pos hcls, if_pos (show (d.2.capCounts p.params.ttt).cls = cls from hcls)]
        exact candidatesOk_capCounts _ (hcands d hd)
      · rw [if_neg hcls, if_neg hcls]
        exact hcands d hd
  · exact fun _ => id
  · exact fun _ => id
  · exact fun _ => id
  · exact fun _ => id
  · exact id
  · exact id
  · exact id
  · exact id
  · exact fun ⟨hset, hw, hrest⟩ => ⟨hset, hweight hw, hrest⟩
  · exact fun ⟨hset, hw, hrest⟩ => ⟨hset, hweight hw, hrest⟩

theorem kept_classParams : Gives (execClassParams r s) (Kept (.classParams r) s) := by
  unfold execClassParams
  split
  · exact gives_next ⟨rfl, (Keeps.refuse _ r _).step⟩
  · split
    · exact gives_next ⟨rfl, (Keeps.refuse _ r _).step⟩
    · next p hp => exact gives_next ⟨fixed_takeParams p, (step_takeParams hp).trans (Keeps.answer (.refl _)).step⟩

theorem kept_pollWindowSet : Gives (execPollWindowSet r s) (Kept (.pollWindowSet r) s) := by
  unfold execPollWindowSet
  split
  · exact gives_next ⟨rfl, (Keeps.refuse _ r _).step⟩
  · next os h _ =>
    have hfit : Keeps none (s.modAccount h fun a => { a with wreq := (clampOpt 0 240 (s.account h).wreq (os.nat .window)).value })
        (setWindow h (clampOpt 0 240 (s.account h).wreq (os.nat .window)).value s) := .fit h
    refine gives_next ⟨?_, StepKeeps.trans (t := s.modAccount h fun a =>
      { a with wreq := (clampOpt 0 240 (s.account h).wreq (os.nat .window)).value })
      ⟨id, fun _ => id, fun _ => id, fun _ => id, fun _ => id, id, id, id⟩
      (hfit.trans (Keeps.answer (.refl _))).step⟩
    show (setWindow h (clampOpt 0 240 (s.account h).wreq (os.nat .window)).value s).fixed =
      { s.fixed with
        windows := (setWindow h (clampOpt 0 240 (s.account h).wreq (os.nat .window)).value s).fixed.windows }
    rw [hfit.fixed]
    rfl

theorem configPlan_ok {os : Options} (h : s.settingsLaw) (hc : (configPlan os s.settings).settings.consistent = true) :
    ({ s with settings := (configPlan os s.settings).settings } : State).settingsLaw := by
  obtain ⟨-, hw, h1, h2, h3, h4, h5, h6, h7, h8, h9, h10, h11, h12, h13, h14⟩ := h
  have g1 := clampOpt_range (lo := 5) (hi := 200) (by decide) ⟨h1, h2⟩ (os.nat .devThreshold)
  have g2 := clampOpt_range (lo := 1) (hi := 50) (by decide) ⟨h3, h4⟩ (os.nat .devHysteresis)
  have g3 := clampOpt_range (lo := 10) (hi := 400) (by decide) ⟨h5, h6⟩ (os.nat .critThreshold)
  have g4 := clampOpt_range (lo := 1) (hi := 15) (by decide) ⟨h7, h8⟩ (os.nat .persistence)
  have g5 := clampOpt_range (lo := 1) (hi := 4095) (by decide) ⟨h9, h10⟩ (os.nat .ackLimit)
  have g6 := clampOpt_range (lo := 1) (hi := 4095) (by decide) ⟨h11, h12⟩ (os.nat .pageLimit)
  have g7 := clampOpt_range (lo := 1) (hi := 4095) (by decide) ⟨h13, h14⟩ (os.nat .pollLimit)
  exact ⟨hc, hw, g1.1, g1.2, g2.1, g2.2, g3.1, g3.2, g4.1, g4.2, g5.1, g5.2, g6.1, g6.2, g7.1, g7.2⟩

theorem kept_partConfig : Gives (execPartConfig r s) (Kept (.partConfig r) s) := by
  unfold execPartConfig
  split
  · exact gives_next ⟨rfl, (Keeps.refuse _ r _).step⟩
  · dsimp only
    split
    · next hc =>
      exact gives_next ⟨rfl, ⟨id, fun _ => id, fun _ => id, fun _ => id, fun _ => id, id, id, fun h => configPlan_ok h hc⟩⟩
    · exact gives_next ⟨rfl, (Keeps.refuse _ r _).step⟩

end

/-! ### The strobe -/

theorem Keeps.takeEach {α : Type} {f : State → α → State} (hf : ∀ (s : State) a, Keeps none s (f s a)) (l : List α) :
    Keeps none s (takeEach f l s) := by
  induction l generalizing s with
  | nil => exact .refl s
  | cons a l ih => exact (hf s a).trans ih

theorem Keeps.takeDue : Keeps none s s.takeDue := by
  have hheads (s : State) : Keeps none s s.headExpiries := .takeEach (fun s h => Keeps.trans (Keeps.trans (Keeps.trans
    (.startTimerExpiry h) (.lockWaitExpiry h)) (.holdoverExpiry h)) (.dwellExpiry h)) _
  have hlinks (s : State) : Keeps none s s.linkExpiries := .takeEach (fun _ l => .cycleExpiry l) _
  have hreefers (s : State) : Keeps none s s.reeferExpiries :=
    Keeps.trans (Keeps.trans (Keeps.trans (Keeps.trans (.takeEach (fun _ i => .ackExpiry i) _)
      (.takeEach (fun _ i => .pageExpiry i) _)) (.takeEach (fun _ i => .pollExpiry i) _)) .secondPass)
      (.takeEach (fun _ i => .overdueExpiry i) _)
  exact ((hheads s).trans (hlinks _)).trans (hreefers _)

theorem Head.strobe_ok {y : Head} (h : y.ok) : y.strobe.ok := by
  obtain ⟨ha, hd, hserv, hsweep, hslot⟩ := h.sweeps
  obtain ⟨hstart, hlock, hhold, hlocked⟩ := h.timers
  refine (Head.ok_iff _).mpr ⟨h.set, ⟨ha, hd, hserv, ?_, fun p hp => ?_⟩, ?_⟩
  · simpa [Head.strobe] using hsweep
  · obtain ⟨q, hq, rfl⟩ := Option.map_eq_some_iff.mp hp
    exact hslot q hq
  · simpa [Head.timersOk, Head.strobe, tick] using ⟨hstart, hlock, hhold, hlocked⟩

theorem CraneLink.strobe_ok {k : CraneLink} (h : k.ok) : k.strobe.ok := by
  obtain ⟨hcycle, hrest⟩ := h.state
  refine (CraneLink.ok_iff _).mpr ⟨h.limits, ⟨?_, hrest⟩, h.parts⟩
  simpa [CraneLink.strobe, tick] using hcycle

theorem Reefer.strobe_ok {r : Reefer} (h : r.ok) : r.strobe.ok := by
  obtain ⟨hack, hpage⟩ := h.dozes
  refine (Reefer.ok_iff _).mpr ⟨h.figures, by simpa [Reefer.strobe, tick] using hack, fun q hq => ?_⟩
  obtain ⟨p, hp, rfl⟩ := Option.map_eq_some_iff.mp hq
  obtain ⟨hatt, hne, hphase⟩ := hpage p hp
  refine ⟨hatt, hne, ?_⟩
  unfold Page.strobe
  cases hph : p.phase <;> simp_all [Reefer.strobe]

theorem head_count (h : HeadIx) : s.count.head h = (s.head h).strobe := by
  simp [State.head, State.count, mapEach, Vector.get]
  rfl

theorem fixed_count : s.count.fixed =
    { s.fixed with frame := s.frame + 1, divider := if 1000 ≤ s.divider + 1 then 0 else s.divider + 1 } := by
  have hheads : (fun h => (s.count.head h).config) = fun h => (s.head h).config := by
    funext h
    rw [head_count]
    rfl
  rw [State.fixed, hheads]
  simp only [State.count, Table.mapAll, List.map_map, Function.comp_def]
  rfl

theorem step_count : StepKeeps s s.count := by
  have hfixed := fixed_count (s := s)
  refine ⟨?_, fun _ => ?_, fun _ => id, fun _ hl => ?_, fun _ hr => ?_, fun hh h => ?_, ?_, id⟩
  · simp only [tablesLaw_iff, hfixed]
    exact id
  · simp only [ownershipLaw_iff, hfixed]
    exact id
  · exact List.forall_mem_map.mpr fun e he => CraneLink.strobe_ok (hl e he)
  · exact List.forall_mem_map.mpr fun e he => Reefer.strobe_ok (hr e he)
  · rw [head_count]
    exact Head.strobe_ok (hh h)
  · rintro ⟨hin, hn, hd, hu, hdiv⟩
    refine ⟨hin, hn, hd, hu, ?_⟩
    have h1000 : Config.framesPerSecond = 1000 := rfl
    show (if Config.framesPerSecond ≤ s.divider + 1 then 0 else s.divider + 1) < Config.framesPerSecond
    split <;> omega

theorem counts_of_fixed (h : t.fixed = s.fixed) : t.frame = s.frame ∧ t.divider = s.divider :=
  ⟨congrArg Fixed.frame h, congrArg Fixed.divider h⟩

theorem kept_frameStrobe : Gives (execFrameStrobe s) (Kept .frameStrobe s) := by
  refine gives_next ⟨?_, Keeps.takeDue.step.trans step_count⟩
  have hdue := (Keeps.takeDue (s := s)).fixed
  show s.takeDue.count.fixed = _
  obtain ⟨hframe, hdivider⟩ := counts_of_fixed hdue
  rw [fixed_count, hdue, hframe, hdivider]

/-! ### Every command -/

theorem reset_laws : (State.reset.tablesLaw ∧ State.reset.ownershipLaw ∧ State.reset.candidateLaw) ∧
    State.reset.linkLaw ∧ State.reset.reeferLaw ∧ State.reset.headLaw ∧ State.reset.portLaw ∧ State.reset.settingsLaw := by
  obtain ⟨h1, h2, h3, -, h5, -, -, -, h9, h10, -, -, h13, h14⟩ := resetMeetsEveryLaw
  exact ⟨⟨h1, h2, h3⟩, h9, h10, h5, h13, h14⟩

theorem kept_coldReset : Gives (execColdReset s) (Kept .coldReset s) := by
  obtain ⟨⟨h1, h2, h3⟩, h4, h5, h6, h7, h8⟩ := reset_laws
  exact gives_next ⟨rfl, ⟨fun _ => h1, fun _ _ => h2, fun _ _ => h3, fun _ _ => h4, fun _ _ => h5, fun _ => h6, fun _ => h7,
    fun _ => h8⟩⟩

theorem Gives.kept {i : Instr} {o : Out} (h : Gives o (Keeps none s)) (hi : ∀ t, t.fixed = s.fixed → fixedAs i s t) :
    Gives o (Kept i s) :=
  h.mono fun t ht => ⟨hi t ht.fixed, ht.step⟩

/-- Every command answers a next state and keeps the laws of the records. -/
theorem exec_kept (i : Instr) (s : State) : Gives (exec i s) (Kept i s) := by
  cases i with
  | attach r => exact kept_attach
  | find r => exact keeps_find.kept fun _ => id
  | read r => exact keeps_read.kept fun _ => id
  | amend r => exact keeps_amend.kept fun _ => id
  | retire r => exact kept_retire
  | craneStart r => exact keeps_craneStart.kept fun _ => id
  | setpoint r => exact keeps_setpoint.kept fun _ => id
  | craneStop r => exact keeps_craneStop.kept fun _ => id
  | craneResume r => exact keeps_craneResume.kept fun _ => id
  | craneRelease r => exact keeps_craneRelease.kept fun _ => id
  | sideDown r => exact keeps_sideDown.kept fun _ => id
  | craneRead r => exact keeps_craneRead.kept fun _ => id
  | reeferRead r => exact keeps_reeferRead.kept fun _ => id
  | reeferParams r => exact keeps_reeferParams.kept fun _ => id
  | page r => exact keeps_page.kept fun _ => id
  | headConfig r => exact kept_headConfig
  | headRead r => exact keeps_headRead.kept fun _ => id
  | headClear r => exact keeps_headClear.kept fun _ => id
  | sweepSet r => exact keeps_sweepSet.kept fun _ => id
  | shadowSet r => exact kept_shadowSet
  | shadowRead r => exact keeps_shadowRead.kept fun _ => id
  | classParams r => exact kept_classParams
  | pollWindowSet r => exact kept_pollWindowSet
  | partConfig r => exact kept_partConfig
  | partStatus r => exact keeps_partStatus.kept fun _ => id
  | restart r => exact keeps_restart.kept fun _ => id
  | unknownRequestKind kind r => exact (gives_next (Keeps.reply _)).kept fun _ => id
  | incompleteRequestHeader msg => exact (gives_next (Keeps.refl s)).kept fun _ => id
  | measurementReport tag es => exact (keeps_measurementReport tag es).kept fun _ => id
  | craneUplink tag u => exact (keeps_craneUplink tag u).kept fun _ => id
  | reeferReport tag f => exact (gives_next (Keeps.onReefer tag fun i r _ => .takeReeferReport i r f)).kept fun _ => id
  | dozeAck tag head code => exact (gives_next (Keeps.onReefer tag fun i r hr => .takeDozeAck code i r hr)).kept fun _ => id
  | pageAnswer tag head => exact (gives_next (Keeps.onReefer tag fun i r hr => .takePageAnswer i r hr)).kept fun _ => id
  | headUp b => exact (gives_next (Keeps.onHead b fun h => .headUp h)).kept fun _ => id
  | syncLock b => exact (gives_next (Keeps.onHead b fun h => .syncLock h)).kept fun _ => id
  | syncLost b => exact (gives_next (Keeps.onHead b fun h => .syncLost h)).kept fun _ => id
  | lineFault b short => exact (gives_next (Keeps.onHead b fun h => .lineFault short h)).kept fun _ => id
  | unknownEventKind msg => exact (gives_next (Keeps.unmatchedEvent none)).kept fun _ => id
  | frameStrobe => exact kept_frameStrobe
  | coldReset => exact kept_coldReset
  | startTimerExpiry h => exact (gives_next (Keeps.startTimerExpiry h)).kept fun _ => id
  | lockWaitExpiry h => exact (gives_next (Keeps.lockWaitExpiry h)).kept fun _ => id
  | holdoverExpiry h => exact (gives_next (Keeps.holdoverExpiry h)).kept fun _ => id
  | dwellExpiry h => exact (gives_next (Keeps.dwellExpiry h)).kept fun _ => id
  | cycleExpiry l => exact (gives_next (Keeps.cycleExpiry l.val)).kept fun _ => id
  | ackLimitExpiry i => exact (gives_next (Keeps.ackExpiry i.val)).kept fun _ => id
  | pageAnswerExpiry i => exact (gives_next (Keeps.pageExpiry i.val)).kept fun _ => id
  | pollAnswerExpiry i => exact (gives_next (Keeps.pollExpiry i.val)).kept fun _ => id
  | secondExpiry => exact (gives_next Keeps.secondPass).kept fun _ => id
  | overdueExpiry i => exact (gives_next (Keeps.overdueExpiry i.val)).kept fun _ => id
  | replySend => exact keeps_replySend.kept fun _ => id
  | noticeSend => exact keeps_noticeSend.kept fun _ => id
  | orderSend => exact keeps_orderSend.kept fun _ => id

theorem kept_of_exec {i : Instr} (h : exec i s = .next t) : Kept i s t := by
  obtain ⟨t', ht, hk⟩ := exec_kept i s
  rw [h] at ht
  cases ht
  exact hk

/-- A step runs the front command on a state that differs in the queue alone, or idles. -/
theorem stepKeeps_of_step (h : step s = .next t) : StepKeeps s t := by
  unfold step at h
  split at h
  · cases h; exact .refl s
  · next c rest hp =>
    have hqueue : StepKeeps s { s with pending := rest } :=
      ⟨id, fun _ => id, fun _ => id, fun _ => id, fun _ => id, id, id, id⟩
    exact hqueue.trans (kept_of_exec h).2

theorem pending_of_fixedAs {i : Instr} (h : fixedAs i s t) : t.pending = s.pending := by
  unfold fixedAs at h
  split at h
  case h_9 => exact h
  all_goals exact congrArg Fixed.pending h

theorem counts_of_fixedAs {i : Instr} (h : fixedAs i s t) (hs : i ≠ .frameStrobe) (hc : i ≠ .coldReset) :
    t.frame = s.frame ∧ t.divider = s.divider := by
  unfold fixedAs at h
  split at h
  case h_8 => exact absurd rfl hs
  case h_9 => exact absurd rfl hc
  all_goals exact ⟨congrArg Fixed.frame h, congrArg Fixed.divider h⟩

theorem identities_of_fixedAs {i : Instr} (h : fixedAs i s t) (ha : ∀ r, i ≠ .attach r) (hr : ∀ r, i ≠ .retire r)
    (hc : i ≠ .coldReset) : t.fixed.contexts = s.fixed.contexts := by
  unfold fixedAs at h
  split at h
  case h_1 r => exact absurd rfl (ha r)
  case h_2 r => exact absurd rfl (hr r)
  case h_9 => exact absurd rfl hc
  all_goals
    have hview := congrArg Fixed.contexts h
    exact hview

theorem params_of_fixedAs {i : Instr} (h : fixedAs i s t) (hc : i ≠ .coldReset) (hi : ∀ r, i ≠ .classParams r) :
    t.params = s.params ∧ t.loadWeight = s.loadWeight := by
  unfold fixedAs at h
  split at h
  case h_5 r => exact absurd rfl (hi r)
  case h_9 => exact absurd rfl hc
  all_goals exact ⟨congrArg Fixed.params h, congrArg Fixed.loadWeight h⟩

theorem settings_of_fixedAs {i : Instr} (h : fixedAs i s t) (hc : i ≠ .coldReset) (hi : ∀ r, i ≠ .partConfig r) :
    t.settings = s.settings := by
  unfold fixedAs at h
  split at h
  case h_7 r => exact absurd rfl (hi r)
  case h_9 => exact absurd rfl hc
  all_goals exact congrArg Fixed.settings h

theorem shadow_of_fixedAs {i : Instr} (h : fixedAs i s t) (hc : i ≠ .coldReset) (hi : ∀ r, i ≠ .shadowSet r) :
    t.shadow = s.shadow := by
  unfold fixedAs at h
  split at h
  case h_4 r => exact absurd rfl (hi r)
  case h_9 => exact absurd rfl hc
  all_goals exact congrArg Fixed.shadow h

theorem windows_of_fixedAs {i : Instr} (h : fixedAs i s t) (hc : i ≠ .coldReset) (hi : ∀ r, i ≠ .pollWindowSet r) :
    t.fixed.windows = s.fixed.windows := by
  unfold fixedAs at h
  split at h
  case h_6 r => exact absurd rfl (hi r)
  case h_9 => exact absurd rfl hc
  all_goals
    have hview := congrArg Fixed.windows h
    exact hview

theorem heads_of_fixedAs {i : Instr} (h : fixedAs i s t) (hc : i ≠ .coldReset) (hi : ∀ r, i ≠ .headConfig r) :
    t.fixed.heads = s.fixed.heads := by
  unfold fixedAs at h
  split at h
  case h_3 r => exact absurd rfl (hi r)
  case h_9 => exact absurd rfl hc
  all_goals
    have hview := congrArg Fixed.heads h
    exact hview

/-- Two records with the same settings agree on each. -/
theorem Head.settings_eq {y z : Head} (h : y.config = z.config) :
    y.capacity = z.capacity ∧ y.startFrames = z.startFrames ∧ y.lockLimit = z.lockLimit ∧
      y.holdoverLimit = z.holdoverLimit ∧ y.spanFirst = z.spanFirst ∧ y.spanLast = z.spanLast := by
  simpa [Head.config, Head.cold] using h

/-! ### The obligations -/

/-- Settles O2. -/
theorem everyCommandIsTaken : Obligations.EveryCommandIsTaken := by
  intro i s
  obtain ⟨t, ht, hk⟩ := exec_kept i s
  exact ⟨t, ht, pending_of_fixedAs hk.1⟩

/-- Settles O5. -/
theorem everyStepKeepsTheTables : Obligations.EveryStepKeepsTheTables :=
  fun _ _ w ho h => ⟨(stepKeeps_of_step h).tables w, (stepKeeps_of_step h).owners w ho⟩

/-- Settles O8. -/
theorem everyStepKeepsTheCandidateLists : Obligations.EveryStepKeepsTheCandidateLists :=
  fun _ _ w hc h => (stepKeeps_of_step h).cands w hc

/-- Settles O10. -/
theorem everyStepKeepsTheHeadRecords : Obligations.EveryStepKeepsTheHeadRecords :=
  fun _ _ hh h => (stepKeeps_of_step h).heads hh

/-- Settles O11. -/
theorem everyStepKeepsTheLinkRecords : Obligations.EveryStepKeepsTheLinkRecords :=
  fun _ _ w hl h => (stepKeeps_of_step h).links w hl

/-- Settles O12. -/
theorem everyStepKeepsTheReeferRecords : Obligations.EveryStepKeepsTheReeferRecords :=
  fun _ _ w hr h => (stepKeeps_of_step h).reefers w hr

/-- Settles O15. -/
theorem everyStepKeepsThePortsAndSettings : Obligations.EveryStepKeepsThePortsAndSettings :=
  fun _ _ h => ⟨(stepKeeps_of_step h).ports, (stepKeeps_of_step h).settings⟩

/-- Settles O16. -/
theorem onlyStrobesAdvanceTheFrameCounts : Obligations.OnlyStrobesAdvanceTheFrameCounts := by
  intro i s t h
  have hfixed := (kept_of_exec h).1
  refine ⟨?_, counts_of_fixedAs hfixed⟩
  rintro rfl
  exact ⟨congrArg Fixed.frame hfixed, congrArg Fixed.divider hfixed⟩

/-- Settles O17. -/
theorem onlyAttachAndRetireChangeIdentities : Obligations.OnlyAttachAndRetireChangeIdentities :=
  fun _ _ _ h ha hr hc => identities_of_fixedAs (kept_of_exec h).1 ha hr hc

/-- Settles O18: the fixed view after each command, read setting by setting. -/
theorem settingsChangeByTheirRequestsAlone : Obligations.SettingsChangeByTheirRequestsAlone := by
  intro i s t h hc
  have hfixed := (kept_of_exec h).1
  exact ⟨params_of_fixedAs hfixed hc, settings_of_fixedAs hfixed hc, shadow_of_fixedAs hfixed hc,
    fun hi g => congrFun (windows_of_fixedAs hfixed hc hi) g,
    fun hi g => Head.settings_eq (congrFun (heads_of_fixedAs hfixed hc hi) g)⟩

end Sys2Proof.Machine
end

section
/-! The airtime law (R50, R51, R57, R35): when a reservation list fits its head, and that every operation that ends in a
fit leaves the law as it found it. -/

namespace Sys2Proof.Machine

/-! ### Lists that fit -/

/-- The airtime law of one head. -/
def airOk (x : Head) (a : Account) : Prop :=
  a.wg = grantedWindow x a ∧ a.committed ≤ x.capacity ∧
    (x.effective < a.committed → a.preparedOwners = [] ∧ a.wg = 0) ∧ (x.state ≠ .active → a.preparedOwners = [])

/-- The reservations of an account fit its head: within C together, and without prepared ones where they exceed E or the
head is not ACTIVE. -/
def fits (x : Head) (a : Account) : Prop :=
  a.standing + a.prepared ≤ x.capacity ∧ (x.effective < a.standing + a.prepared → a.preparedOwners = []) ∧
    (x.state ≠ .active → a.preparedOwners = [])

theorem effective_le_capacity (x : Head) : x.effective ≤ x.capacity := by
  unfold Head.effective
  split <;> omega

theorem sum_filter_le {l m : List Reservation} (h : l.Sublist m) (p : Reservation → Bool) :
    ((l.filter p).map (·.units)).sum ≤ ((m.filter p).map (·.units)).sum := by
  have hsub := (h.filter p).map (·.units)
  exact hsub.sum_le_sum fun _ _ => Nat.zero_le _

/-- An account without prepared reservations holds no prepared units. -/
theorem prepared_eq_zero {a : Account} (h : a.preparedOwners = []) : a.prepared = 0 := by
  have hnone : a.list.filter (fun r => r.kind == .prepared) = [] := List.map_eq_nil_iff.mp h
  simp [Account.prepared, Account.sum, hnone]

/-- The law of a head is that its reservations fit, and that its window is the granted one. -/
theorem airOk_iff (x : Head) (a : Account) : airOk x a ↔ a.wg = grantedWindow x a ∧ fits x a := by
  have hle := effective_le_capacity x
  unfold airOk fits grantedWindow Account.committed
  constructor
  · rintro ⟨hwg, hcap, hover, hstate⟩
    exact ⟨hwg, by omega, fun h => (hover (by omega)).1, hstate⟩
  · rintro ⟨hwg, hcap, hover, hstate⟩
    refine ⟨hwg, by omega, fun h => ?_, hstate⟩
    have hlt : x.effective < a.standing + a.prepared := by omega
    exact ⟨hover hlt, by omega⟩

theorem fits_of_sublist {x : Head} {a b : Account} (h : fits x a) (hb : b.list.Sublist a.list) : fits x b := by
  obtain ⟨hcap, hover, hstate⟩ := h
  have hs : b.standing ≤ a.standing := sum_filter_le hb _
  have hp : b.prepared ≤ a.prepared := sum_filter_le hb _
  have hown (h : a.preparedOwners = []) : b.preparedOwners = [] :=
    List.sublist_nil.mp (h ▸ (hb.filter fun r : Reservation => r.kind == .prepared).map Reservation.owner)
  exact ⟨by omega, fun hlt => hown (hover (by omega)), fun hne => hown (hstate hne)⟩

/-- A list without prepared reservations fits within C. -/
theorem fits_of_no_prepared {x : Head} {a : Account} (h : a.preparedOwners = []) (hs : a.standing ≤ x.capacity) :
    fits x a :=
  ⟨by rw [prepared_eq_zero h]; exact hs, fun _ => h, fun _ => h⟩

/-- The units of a list by kind: the standing and the prepared ones are all. -/
theorem standing_add_prepared (a : Account) : a.standing + a.prepared = (a.list.map (·.units)).sum := by
  unfold Account.standing Account.prepared Account.sum
  induction a.list with
  | nil => rfl
  | cons r l ih =>
    cases hk : r.kind <;> simp [hk] <;> simp at ih <;> omega

/-- An admitted reservation at the tail fits (R52). -/
theorem fits_admitted {x : Head} {a : Account} {u : Nat} (h : admissionTest x a u = .admitted) (k : ResKind) (l : Nat) :
    fits x { a with list := a.list ++ [{ kind := k, units := u, owner := l }] } := by
  unfold admissionTest at h
  split at h
  · cases h
  · next hactive =>
    split at h
    · next hle =>
      have hstate : x.state = .active := not_not.mp hactive
      have hcap := effective_le_capacity x
      unfold fits
      rw [standing_add_prepared]
      rw [standing_add_prepared] at hle
      simp only [List.map_append, List.map_cons, List.map_nil, List.sum_append, List.sum_singleton]
      exact ⟨by omega, fun hlt => absurd hle (by omega), fun hne => absurd hstate hne⟩
    · cases h

/-- Prepared reservations made standing fit as before (R55). -/
theorem fits_convert {x : Head} {a : Account} (h : fits x a) (l : Nat) :
    fits x { a with list := a.list.map fun r =>
      if r.kind == .prepared && r.owner == l then { r with kind := .standing } else r } := by
  have hunits : ((a.list.map fun r => if r.kind == .prepared && r.owner == l then { r with kind := .standing } else r).map
      (·.units)) = a.list.map (·.units) := by
    rw [List.map_map]
    refine List.map_congr_left fun r _ => ?_
    simp only [Function.comp_apply]
    split <;> rfl
  have hown (hno : a.preparedOwners = []) : ({ a with list := a.list.map fun r =>
      if r.kind == .prepared && r.owner == l then { r with kind := .standing } else r } : Account).preparedOwners = [] := by
    have hnone := List.filter_eq_nil_iff.mp (List.map_eq_nil_iff.mp hno)
    refine List.map_eq_nil_iff.mpr (List.filter_eq_nil_iff.mpr (List.forall_mem_map.mpr fun r hr => ?_))
    have hkind : r.kind ≠ .prepared := by simpa using hnone r hr
    simp [hkind]
  unfold fits at h ⊢
  rw [standing_add_prepared] at h ⊢
  rw [hunits]
  exact ⟨h.1, fun hlt => hown (h.2.1 hlt), fun hne => hown (h.2.2 hne)⟩

/-! ### The air view of a state -/

/-- What the airtime law reads of a head. -/
structure AirView where
  state : HeadState
  capacity : Nat
  list : List Reservation
  wreq : Nat
  wg : Nat

def State.air (s : State) (h : HeadIx) : AirView :=
  { state := (s.head h).state, capacity := (s.head h).capacity, list := (s.account h).list, wreq := (s.account h).wreq,
    wg := (s.account h).wg }

def AirView.ok (v : AirView) : Prop :=
  airOk { Head.cold with state := v.state, capacity := v.capacity } { list := v.list, wreq := v.wreq, wg := v.wg, polls := 0 }

variable {s t u : State}

theorem airtimeLaw_iff (s : State) : s.airtimeLaw ↔ ∀ h, (s.air h).ok := Iff.rfl

/-- The airtime law is kept. -/
def Air (s t : State) : Prop := s.airtimeLaw → t.airtimeLaw

theorem Air.refl (s : State) : Air s s := id
theorem Air.trans (a : Air s t) (b : Air t u) : Air s u := b ∘ a

theorem Air.ite {c : Prop} [Decidable c] (a : c → Air s t) (b : ¬ c → Air s u) : Air s (if c then t else u) := by
  split
  · exact a ‹_›
  · exact b ‹_›

theorem Air.of_same (h : t.air = s.air) : Air s t := by
  intro hs
  rw [airtimeLaw_iff] at hs ⊢
  rwa [h]

/-- What leaves heads and accounts as they are. -/
theorem Air.of_eq (hh : t.heads = s.heads) (ha : t.airtime = s.airtime) : Air s t := by
  refine .of_same ?_
  unfold State.air State.head State.account
  rw [hh, ha]

theorem Air.order (o : Order) : Air s (s.order o) := .of_eq rfl rfl
theorem Air.reply (r : Reply) : Air s (s.reply r) := .of_eq rfl rfl
theorem Air.modContext (k : Nat) (f : Context → Context) : Air s (s.modContext k f) := .of_eq rfl rfl
theorem Air.modLink (l : Nat) (f : CraneLink → CraneLink) : Air s (s.modLink l f) := .of_eq rfl rfl
theorem Air.modReefer (i : Nat) (f : Reefer → Reefer) : Air s (s.modReefer i f) := .of_eq rfl rfl

theorem PageFrame.air (h : PageFrame s t) : Air s t := .of_eq (by rw [h]) (by rw [h])
theorem SendFrame.air (h : SendFrame s t) : Air s t := .of_eq (by rw [h]) (by rw [h])

theorem air_setAccount (s : State) (h : HeadIx) (a : Account) (g : HeadIx) :
    (s.setAccount h a).air g =
      if g = h then { state := (s.head h).state, capacity := (s.head h).capacity, list := a.list, wreq := a.wreq, wg := a.wg }
      else s.air g := by
  unfold State.air
  rw [State.account_setAccount]
  split
  · next e => rw [e]; rfl
  · rfl

theorem air_setPolls (s : State) (h : HeadIx) (n : Nat) : (s.setAccount h { s.account h with polls := n }).air = s.air := by
  funext g
  rw [air_setAccount]
  split
  · next e => rw [e]; rfl
  · rfl

/-! ### Polls -/

theorem air_sendPoll (s : State) (h : HeadIx) (i : Nat) : (s.sendPoll h i).air = s.air := by
  unfold State.sendPoll
  split
  · exact air_setPolls s h _
  · rfl

theorem air_waitPassFrom (h : HeadIx) (q : List Nat) (s : State) : (waitPassFrom h q s).air = s.air := by
  induction q generalizing s with
  | nil => rfl
  | cons i rest ih =>
    unfold waitPassFrom
    split
    · exact (ih _).trans (air_sendPoll _ h i)
    · rfl

theorem air_waitPass (s : State) (h : HeadIx) : (s.waitPass h).air = s.air := air_waitPassFrom h _ s

theorem air_makePoll (s : State) (i : Nat) : (s.makePoll i).air = s.air := by
  unfold State.makePoll
  split
  · split
    · split
      · exact air_sendPoll s _ i
      · rfl
    · rfl
  · rfl

theorem air_returnCredit (s : State) (h : HeadIx) : (s.returnCredit h).air = s.air :=
  (air_waitPass _ h).trans (air_setPolls s h _)

theorem air_endPoll (s : State) (i : Nat) : (s.endPoll i).air = s.air := by
  unfold State.endPoll
  split
  · rfl
  · split
    · rfl
    · exact air_returnCredit _ _
    · rfl

/-! ### The fit -/

theorem air_fit (s : State) (h : HeadIx) :
    (s.fit h).air = (s.setAccount h { s.account h with wg := grantedWindow (s.head h) (s.account h) }).air := by
  obtain ⟨hle, hlt⟩ := s.fit_cases h
  rcases Nat.lt_or_ge (s.account h).wg (grantedWindow (s.head h) (s.account h)) with lt | ge
  · rw [hlt lt, air_waitPass]
  · rw [hle ge]

/-- A fit restores the law of its head, given reservations that fit and the law of the other heads. -/
theorem airtimeLaw_fit {h : HeadIx} (hother : ∀ g, g ≠ h → airOk (s.head g) (s.account g))
    (hfits : fits (s.head h) (s.account h)) : (s.fit h).airtimeLaw := by
  refine (airtimeLaw_iff _).mpr fun g => ?_
  rw [air_fit, air_setAccount]
  split
  · exact (airOk_iff (s.head h) { s.account h with wg := grantedWindow (s.head h) (s.account h) }).mpr ⟨rfl, hfits⟩
  · next hne => exact hother g hne

/-- A change of an account with the fit keeps the law where its reservations still fit. -/
theorem Air.modAccount_fit (h : HeadIx) {f : Account → Account}
    (hf : fits (s.head h) (s.account h) → fits (s.head h) (f (s.account h))) : Air s ((s.modAccount h f).fit h) := by
  intro hs
  refine airtimeLaw_fit (fun g hne => ?_) ?_
  · rw [State.modAccount, State.account_setAccount, if_neg hne]
    exact hs g
  · rw [State.modAccount, State.account_setAccount_self]
    exact hf ((airOk_iff _ _).mp (hs h)).2

theorem Air.fit (h : HeadIx) : Air s (s.fit h) :=
  fun hs => airtimeLaw_fit (fun g _ => hs g) ((airOk_iff _ _).mp (hs h)).2

theorem Air.join {h : HeadIx} {n : Nat} (k : ResKind) (l : Nat)
    (ha : admissionTest (s.head h) (s.account h) n = .admitted) : Air s (s.join h k l n) :=
  .modAccount_fit h fun _ => fits_admitted ha k l

theorem Air.joinStanding {h : HeadIx} {l n : Nat} (ha : s.askStanding h l n = .admitted) :
    Air s (s.joinStanding h l n) := by
  unfold State.joinStanding
  unfold State.askStanding at ha
  split
  · exact .refl s
  · next hno =>
    rw [hno] at ha
    exact .join .standing l ha

theorem Air.releaseOn (h : HeadIx) (k : ResKind) (l : Nat) : Air s (s.releaseOn h k l) := by
  unfold State.releaseOn
  exact .ite (fun _ => .modAccount_fit h fun hfits => fits_of_sublist hfits List.filter_sublist) fun _ => .refl s

theorem Air.releaseStanding (l : Nat) : Air s (s.releaseStanding l) := by
  unfold State.releaseStanding
  split
  · exact .releaseOn _ .standing l
  · exact .refl s

theorem Air.convert (h : HeadIx) (l : Nat) : Air s (s.convert h l) := .modAccount_fit h fun hfits => fits_convert hfits l

/-! ### Handovers and links -/

theorem Air.post (sub : Subject) (c : NoticeContent) : Air s (s.post sub c) := .of_eq (s.post_heads sub c) (s.post_airtime sub c)

theorem endHandover_view (s : State) (l : Nat) (cause : HandoverCause) :
    (s.endHandover l cause).heads = s.heads ∧ (s.endHandover l cause).airtime = s.airtime := by
  rcases s.endHandover_cases l cause with ⟨h, -⟩ | ⟨k, g, -, -, h⟩
  · rw [h]; exact ⟨rfl, rfl⟩
  · rw [h]
    dsimp only
    rw [State.post_heads, State.post_airtime]
    split <;> exact ⟨rfl, rfl⟩

theorem Air.endHandover (l : Nat) (cause : HandoverCause) : Air s (s.endHandover l cause) :=
  .of_eq (endHandover_view s l cause).1 (endHandover_view s l cause).2

theorem Air.cancelHandover (l : Nat) (cause : HandoverCause) : Air s (s.cancelHandover l cause) := by
  unfold State.cancelHandover
  split
  · exact (Air.releaseOn _ .prepared l).trans (.endHandover l cause)
  · exact .refl s

theorem Air.enterSafeStop (l : Nat) (cause : SafeCause) : Air s (s.enterSafeStop l cause) := by
  unfold State.enterSafeStop
  split
  · exact .refl s
  · exact (Air.modLink l _).trans (.post _ _)

theorem Air.completeHandover (l : Nat) : Air s (s.completeHandover l) := by
  unfold State.completeHandover
  split
  · split
    · exact .refl s
    · next k c _ _ _ g _ =>
      have hconvert := (Air.modContext (s := s) k.owner fun c => c.serveOn g).trans (.convert g l)
      refine Air.trans (Air.trans (Air.trans ?_ (.modLink l _)) (.order _)) (.post _ _)
      split
      · exact hconvert.trans (.releaseOn _ .standing l)
      · exact hconvert
  · exact .refl s

theorem Air.rescue (l : Nat) (h g : HeadIx) : Air s (s.rescue l h g) := by
  unfold State.rescue
  split
  · exact (((Air.modContext _ _).trans (.convert g l)).trans (.modLink l _)).trans (Air.trans (.order _) (.post _ _))
  · exact .refl s

theorem Air.losePath (l : Nat) (held : Bool) : Air s (s.losePath l held) := by
  unfold State.losePath
  split
  · exact .refl s
  · split
    · exact .enterSafeStop l .pathLost
    · exact .enterSafeStop l .pathLost
    · exact .ite (fun _ => .enterSafeStop l .pathLost) fun _ => .refl s
    · exact .refl s

theorem Air.loseHead (l : Nat) (h : HeadIx) (held : Bool) : Air s (s.loseHead l h held) := by
  unfold State.loseHead
  split
  · exact .rescue l h _
  · exact .losePath l held

theorem Air.faultContext (h : HeadIx) (held : List Nat) (k : Nat) : Air s (faultContext h held k s) := by
  unfold Machine.faultContext
  split
  · exact .refl s
  · have hctx : ∀ f, Air s (s.modContext k f) := .modContext k
    dsimp only
    split
    · split
      · exact ((hctx _).trans (.post _ _)).trans (.loseHead _ h _)
      · exact (hctx _).trans (.post _ _)
    · exact hctx _

theorem Air.faultContexts (h : HeadIx) (held ks : List Nat) : Air s (faultContexts h held ks s) := by
  induction ks generalizing s with
  | nil => exact .refl s
  | cons k rest ih => exact (Air.faultContext h held k).trans ih

/-! ### Prepared reservations cancelled -/

/-- The account of a head after prepared reservations of the links given are cancelled there. -/
def Account.without (a : Account) (ls : List Nat) : Account :=
  { a with list := a.list.filter fun r => !(r.kind == .prepared && ls.contains r.owner) }

theorem airtime_cancelEach (h : HeadIx) (cause : HandoverCause) (ls : List Nat) (s : State) :
    (cancelEach h cause ls s).heads = s.heads ∧
      (cancelEach h cause ls s).airtime = (s.setAccount h ((s.account h).without ls)).airtime := by
  induction ls generalizing s with
  | nil =>
    have : (s.account h).without [] = s.account h := by
      simp [Account.without]
    rw [this]
    exact ⟨rfl, (bank_set_get _ _).symm⟩
  | cons l rest ih =>
    obtain ⟨hheads, hair⟩ := ih ((s.dropPrepared h l).endHandover l cause)
    obtain ⟨hheads', hair'⟩ := endHandover_view (s.dropPrepared h l) l cause
    have hacc : ((s.dropPrepared h l).endHandover l cause).account h = (s.dropPrepared h l).account h := by
      unfold State.account; rw [hair']
    refine ⟨hheads.trans hheads', hair.trans ?_⟩
    unfold State.setAccount
    dsimp only
    rw [hacc, hair', State.dropPrepared, State.modAccount, State.account_setAccount_self]
    unfold State.setAccount
    dsimp only
    rw [Vector.set_set]
    congr 1
    simp only [Account.without, List.filter_filter, List.contains_cons]
    congr 2
    funext r
    cases hk : r.kind == .prepared <;> cases ho : r.owner == l <;> simp

end Sys2Proof.Machine
end

section
/-! The airtime law through changes of heads, crane links, reefers and all commands. -/

namespace Sys2Proof.Machine

variable {s t u : State}

/-! ### Heads -/

theorem account_of_airtime (h : t.airtime = s.airtime) (g : HeadIx) : t.account g = s.account g := by
  unfold State.account
  rw [h]

theorem head_of_heads (h : t.heads = s.heads) (g : HeadIx) : t.head g = s.head g := by
  unfold State.head
  rw [h]

theorem Account.preparedOwners_without_of_nil {a : Account} (h : a.preparedOwners = []) (ls : List Nat) :
    (a.without ls).preparedOwners = [] :=
  List.sublist_nil.mp (h ▸ ((List.filter_sublist (l := a.list)).filter fun r : Reservation => r.kind == .prepared).map
    Reservation.owner)

theorem Account.standing_without (a : Account) (ls : List Nat) : (a.without ls).standing = a.standing := by
  unfold Account.standing Account.sum Account.without
  rw [List.filter_filter]
  congr 2
  refine List.filter_congr fun r _ => ?_
  cases r.kind <;> simp

theorem Account.preparedOwners_without {a : Account} {ls : List Nat} (h : ∀ l ∈ a.preparedOwners, l ∈ ls) :
    (a.without ls).preparedOwners = [] := by
  refine List.map_eq_nil_iff.mpr (List.filter_eq_nil_iff.mpr fun r hr hk => ?_)
  obtain ⟨hmem, hkept⟩ := List.mem_filter.mp hr
  have hown : r.owner ∈ ls := h _ (List.mem_map_of_mem (List.mem_filter.mpr ⟨hmem, hk⟩))
  simp [hown] at hkept
  exact hkept (by simpa using hk)

theorem account_cancelEach (h : HeadIx) (cause : HandoverCause) (ls : List Nat) (s : State) (g : HeadIx) :
    (cancelEach h cause ls s).account g = if g = h then (s.account h).without ls else s.account g :=
  (account_of_airtime (airtime_cancelEach h cause ls s).2 g).trans (State.account_setAccount ..)

theorem head_cancelEach (h : HeadIx) (cause : HandoverCause) (ls : List Nat) (s : State) (g : HeadIx) :
    (cancelEach h cause ls s).head g = s.head g :=
  head_of_heads (airtime_cancelEach h cause ls s).1 g

/-- A change of a head that keeps its capacity, with the cancelling and the fit it brings. -/
theorem Air.changeHead (h : HeadIx) (f : Head → Head) (hcap : (f (s.head h)).capacity = (s.head h).capacity) :
    Air s (s.changeHead h f) := by
  intro hs
  have hfits := ((airOk_iff _ _).mp (hs h)).2
  obtain ⟨hall, -, hstate⟩ := id hfits
  have hhead (g : HeadIx) : ((s.modHead h f).postHeadState h).head g = if g = h then f (s.head h) else s.head g := by
    rw [State.postHeadState, State.head_post, State.modHead_eq, State.head_setHead]
  have hacc (g : HeadIx) : ((s.modHead h f).postHeadState h).account g = s.account g := State.account_post ..
  unfold State.changeHead
  dsimp only
  split
  · refine airtimeLaw_fit (fun g hne => ?_) ?_
    · rw [State.cancelPrepared, head_cancelEach, account_cancelEach, if_neg hne, hhead, if_neg hne, hacc]
      exact hs g
    · rw [State.cancelPrepared, head_cancelEach, account_cancelEach, if_pos rfl, hhead, if_pos rfl, hacc]
      refine fits_of_no_prepared (Account.preparedOwners_without fun _ => id) ?_
      rw [Account.standing_without, hcap]
      omega
  · next hno =>
    refine airtimeLaw_fit (fun g hne => ?_) ?_
    · rw [hhead, if_neg hne, hacc]
      exact hs g
    · rw [hhead, if_pos rfl] at hno ⊢
      rw [hacc]
      by_cases hactive : (s.head h).state = .active
      · have hactive' : (f (s.head h)).state = .active := by
          by_contra hne
          exact hno ⟨hactive, hne⟩
        have heff : (f (s.head h)).effective = (f (s.head h)).capacity := by simp [Head.effective, hactive']
        refine ⟨by omega, fun hlt => ?_, fun hne => absurd hactive' hne⟩
        omega
      · exact fits_of_no_prepared (hstate hactive) (by omega)

/-- A fit behind a change of the state of a head that was not ACTIVE. -/
theorem Air.fit_of_state {h : HeadIx} (hair : t.airtime = s.airtime) (hother : ∀ g, g ≠ h → t.head g = s.head g)
    (hcap : (t.head h).capacity = (s.head h).capacity) (hstate : (s.head h).state ≠ .active) : Air s (t.fit h) := by
  intro hs
  have hacc (g : HeadIx) : t.account g = s.account g := by unfold State.account; rw [hair]
  have hfits := ((airOk_iff _ _).mp (hs h)).2
  obtain ⟨hall, -, hno⟩ := hfits
  refine airtimeLaw_fit (fun g hne => ?_) ?_
  · rw [hother g hne, hacc]
    exact hs g
  · rw [hacc]
    exact fits_of_no_prepared (hno hstate) (by omega)

theorem Air.modHead (h : HeadIx) (f : Head → Head) (hstate : (f (s.head h)).state = (s.head h).state)
    (hcap : (f (s.head h)).capacity = (s.head h).capacity) : Air s (s.modHead h f) := by
  refine .of_same ?_
  funext g
  unfold State.air
  rw [State.modHead_eq, State.head_setHead]
  split
  · next e => rw [hstate, hcap, e]; rfl
  · rfl

theorem enterSlot_view (s : State) (h : HeadIx) (k : Nat) :
    (s.enterSlot h k).airtime = s.airtime ∧ ∀ g, ((s.enterSlot h k).head g).state = (s.head g).state ∧
      ((s.enterSlot h k).head g).capacity = (s.head g).capacity ∧ (g ≠ h → (s.enterSlot h k).head g = s.head g) := by
  refine ⟨?_, fun g => ?_⟩
  · unfold State.enterSlot
    dsimp only
    split
    · rw [State.releasePages_frame]; rfl
    · rfl
  · have hhead : (s.enterSlot h k).head g =
        (s.modHead h fun y => { y with sweep := some { slot := k, remaining := 2 * y.active.dwell } }).head g := by
      unfold State.head
      rw [heads_enterSlot]
    rw [hhead, State.modHead_eq, State.head_setHead]
    split
    · next e => exact ⟨by rw [e], by rw [e], fun hne => absurd e hne⟩
    · exact ⟨rfl, rfl, fun _ => rfl⟩

theorem Air.enterSlot (h : HeadIx) (k : Nat) : Air s (s.enterSlot h k) := by
  obtain ⟨hair, hheads⟩ := enterSlot_view s h k
  refine .of_same ?_
  funext g
  obtain ⟨hstate, hcap, -⟩ := hheads g
  unfold State.air State.account
  rw [hstate, hcap, hair]

theorem Air.endOldest (p : InFlight → Bool) (res : Result) : Air s (s.endOldest p res) := by
  rw [s.endOldest_frame p res]
  exact .of_eq rfl rfl

theorem Air.applyStaged (h : HeadIx) : Air s (s.applyStaged h) := by
  unfold State.applyStaged
  split
  · exact Air.trans (.modHead h _ rfl rfl) (.endOldest _ _)
  · exact .refl s

theorem Air.dwellExpiry (h : HeadIx) : Air s (s.dwellExpiry h) := by
  unfold State.dwellExpiry
  split
  · exact .ite (fun _ => .ite (fun _ => .enterSlot h _) fun _ =>
      ((Air.applyStaged h).trans (State.wrapPages_frame _ h).air).trans (.enterSlot h 0)) fun _ => .refl s
  · exact .refl s

theorem Air.enterActive (h : HeadIx) : Air s (s.enterActive h) := .changeHead h _ rfl

theorem faultReefers_view (s : State) (h : HeadIx) :
    (s.faultReefers h).heads = s.heads ∧ (s.faultReefers h).airtime = s.airtime := by
  unfold State.faultReefers
  dsimp only
  have hframe := endPages_frame .noPath (s.pageQueue h) s
  constructor
  · show (endPages .noPath (s.pageQueue h) s).heads = s.heads
    rw [hframe]
  · show (endPages .noPath (s.pageQueue h) s).airtime = s.airtime
    rw [hframe]

/-- The account of a faulted head is cleared and fitted, whatever its state was. -/
theorem airtimeLaw_cleared {h : HeadIx} (hother : ∀ g, g ≠ h → airOk (s.head g) (s.account g)) :
    ((s.modAccount h fun a => { a with list := [], polls := 0 }).fit h).airtimeLaw := by
  refine airtimeLaw_fit (fun g hne => ?_) ?_
  · rw [State.modAccount, State.account_setAccount, if_neg hne]
    exact hother g hne
  · rw [State.modAccount, State.account_setAccount_self]
    exact fits_of_no_prepared rfl (Nat.zero_le _)

theorem Air.enterFault (h : HeadIx) (cause : FaultCause) : Air s (s.enterFault h cause) := by
  intro hs
  have hpost (g : HeadIx) (hne : g ≠ h) (f : Head → Head) :
      airOk (((s.modHead h f).postHeadState h).head g) (((s.modHead h f).postHeadState h).account g) := by
    rw [State.postHeadState, State.head_post, State.account_post, State.modHead_eq, State.head_setHead, if_neg hne]
    exact hs g
  have hcancelled (g : HeadIx) (hne : g ≠ h) (f : Head → Head) (c : Prop) [Decidable c] :
      airOk ((if c then ((s.modHead h f).postHeadState h).cancelPrepared h else (s.modHead h f).postHeadState h).head g)
        ((if c then ((s.modHead h f).postHeadState h).cancelPrepared h else (s.modHead h f).postHeadState h).account g) := by
    split
    · rw [State.cancelPrepared, head_cancelEach, account_cancelEach, if_neg hne]
      exact hpost g hne f
    · exact hpost g hne f
  have hreefers (t : State) : Air t (t.faultReefers h) := .of_eq (faultReefers_view t h).1 (faultReefers_view t h).2
  unfold State.enterFault
  dsimp only
  split
  · exact (Air.faultContexts h _ _).trans ((hreefers _).trans (.endOldest _ _))
      (airtimeLaw_cleared fun g hne => hcancelled g hne _ _)
  · exact (Air.faultContexts h _ _).trans (hreefers _) (airtimeLaw_cleared fun g hne => hcancelled g hne _ _)

theorem Air.headUp (h : HeadIx) : Air s (headUp h s) := by
  refine .ite (fun hoff => ?_) fun _ => .refl s
  have hview := enterSlot_view (s.modHead h fun x =>
    { x with
      state := .starting, cause := .none, locked := false, startTimer := some x.startFrames,
      lockTimer := some x.lockLimit, holdoverTimer := none }) h 0
  obtain ⟨hair, hheads⟩ := hview
  refine .fit_of_state ?_ (fun g hne => ?_) ?_ (by simp [hoff])
  · rw [State.postHeadState, State.post_airtime, hair]
    rfl
  · rw [State.postHeadState, State.head_post, (hheads g).2.2 hne, State.modHead_eq, State.head_setHead, if_neg hne]
  · rw [State.postHeadState, State.head_post, (hheads h).2.1, State.modHead_eq, State.head_setHead_self]

theorem Air.syncLock (h : HeadIx) : Air s (syncLock h s) := by
  unfold Machine.syncLock
  split
  · exact .ite (fun _ => .refl s) fun _ => .ite (fun _ => .enterActive h) fun _ => .modHead h _ rfl rfl
  · exact .enterActive h
  all_goals exact .refl s

theorem Air.syncLost (h : HeadIx) : Air s (syncLost h s) := by
  unfold Machine.syncLost
  split
  · exact .modHead h _ rfl rfl
  · exact .changeHead h _ rfl
  all_goals exact .refl s

theorem Air.lineFault (short : Bool) (h : HeadIx) : Air s (lineFault short h s) :=
  .ite (fun _ => .enterFault h _) fun _ => .refl s

theorem Air.unmatchedEvent (tag : Option Tag) : Air s (s.unmatchedEvent tag) := .of_eq rfl rfl

theorem Air.onHead (b : Byte) {f : HeadIx → State → State} (hf : ∀ h, Air s (f h s)) : Air s (onHead b s f) := by
  unfold Machine.onHead
  split
  · exact hf _
  · exact .unmatchedEvent none

theorem Air.startTimerExpiry (h : HeadIx) : Air s (s.startTimerExpiry h) :=
  .ite (fun _ => .ite (fun _ => .enterActive h) fun _ => .modHead h _ rfl rfl) fun _ => .refl s

theorem Air.lockWaitExpiry (h : HeadIx) : Air s (s.lockWaitExpiry h) :=
  .ite (fun _ => .enterFault h .noLock) fun _ => .refl s

theorem Air.holdoverExpiry (h : HeadIx) : Air s (s.holdoverExpiry h) :=
  .ite (fun _ => .enterFault h .holdoverExpired) fun _ => .refl s

/-! ### HEAD_CONFIG and POLL_WINDOW_SET -/

theorem Account.without_without (a : Account) (ls ms : List Nat) : (a.without ls).without ms = a.without (ls ++ ms) := by
  simp only [Account.without, List.filter_filter]
  congr 1
  refine List.filter_congr fun r _ => ?_
  cases hk : r.kind == .prepared <;> simp [Bool.and_comm]

/-- Cancelling from the links given until the rest fits: those cancelled are links given, and where the rest does not fit
they are all of them (R61). -/
theorem cancelUntilFits_view (h : HeadIx) (ls : List Nat) (s : State) :
    (cancelUntilFits h ls s).heads = s.heads ∧
      ∃ ms, (cancelUntilFits h ls s).airtime = (s.setAccount h ((s.account h).without ms)).airtime ∧
        (((s.account h).without ms).standing + ((s.account h).without ms).prepared ≤ (s.head h).effective ∨ ms = ls) := by
  induction ls generalizing s with
  | nil => exact ⟨rfl, [], (airtime_cancelEach h .capacity [] s).2, .inr rfl⟩
  | cons l rest ih =>
    unfold cancelUntilFits
    split
    · next hle =>
      refine ⟨rfl, [], (airtime_cancelEach h .capacity [] s).2, .inl ?_⟩
      have hsame : (s.account h).without [] = s.account h := by simp [Account.without]
      rwa [hsame]
    · have hone := airtime_cancelEach h .capacity [l] s
      obtain ⟨hheads, ms, hair, hfit⟩ := ih ((s.dropPrepared h l).endHandover l .capacity)
      have hacc : ((s.dropPrepared h l).endHandover l .capacity).account h = (s.account h).without [l] := by
        have := account_cancelEach h .capacity [l] s h
        rwa [if_pos rfl] at this
      have hhead : ((s.dropPrepared h l).endHandover l .capacity).head h = s.head h := head_cancelEach h .capacity [l] s h
      rw [hacc, Account.without_without] at hair hfit
      rw [hhead] at hfit
      refine ⟨hheads.trans hone.1, l :: ms, hair.trans ?_, hfit.imp id (congrArg (l :: ·))⟩
      have hair' : ((s.dropPrepared h l).endHandover l .capacity).airtime = (s.setAccount h ((s.account h).without [l])).airtime :=
        hone.2
      unfold State.setAccount
      dsimp only
      rw [hair']
      unfold State.setAccount
      dsimp only
      rw [Vector.set_set]
      rfl

theorem headConfigChecks_standing {os : Options} {x : Head} {a : Account} {p : HeadPlan}
    (h : headConfigChecks os x a = .ok p) :
    (os.has .capacity = true → a.standing ≤ p.capacity.value) ∧ (os.has .capacity = false → p.capacity.value = x.capacity) := by
  unfold headConfigChecks at h
  split at h
  · split at h
    · cases h
    · split at h
      · cases h
      · dsimp only at h
        split at h
        · cases h
        · next hcap =>
          cases h
          refine ⟨fun hhas => Nat.le_of_not_lt fun hlt => hcap ⟨hhas, hlt⟩, fun hno => ?_⟩
          have hnone : os.nat .capacity = none := by
            simpa [Options.has, Options.nat] using hno
          simp only [hnone, clampOpt]
  · cases h

theorem Air.takeHeadConfig {os : Options} {h : HeadIx} {p : HeadPlan}
    (hp : headConfigChecks os (s.head h) (s.account h) = .ok p) : Air s (takeHeadConfig h (os.has .capacity) p s) := by
  obtain ⟨hstanding, hheld⟩ := headConfigChecks_standing hp
  unfold Machine.takeHeadConfig
  dsimp only
  split
  · next hhas =>
    intro hs
    obtain ⟨hheads, ms, hair, hfit⟩ :=
      cancelUntilFits_view h ((s.modHead h p.write).account h).preparedOwners.reverse (s.modHead h p.write)
    have hacc (g : HeadIx) : (cancelUntilFits h ((s.modHead h p.write).account h).preparedOwners.reverse
        (s.modHead h p.write)).account g = if g = h then (s.account h).without ms else s.account g :=
      (account_of_airtime hair g).trans (State.account_setAccount ..)
    have hhead (g : HeadIx) : (cancelUntilFits h ((s.modHead h p.write).account h).preparedOwners.reverse
        (s.modHead h p.write)).head g = if g = h then p.write (s.head h) else s.head g :=
      (head_of_heads hheads g).trans (State.head_setHead ..)
    have hown : (s.head h).state ≠ .active → (s.account h).preparedOwners = [] := (((airOk_iff _ _).mp (hs h)).2).2.2
    refine airtimeLaw_fit (fun g hne => ?_) ?_
    · rw [hhead, hacc, if_neg hne, if_neg hne]
      exact hs g
    · rw [hhead, hacc, if_pos rfl, if_pos rfl]
      have hst : ((s.account h).without ms).standing ≤ (p.write (s.head h)).capacity := by
        rw [Account.standing_without]
        exact hstanding hhas
      rcases hfit with hle | rfl
      · have heff : ((s.modHead h p.write).head h) = p.write (s.head h) := by
          rw [State.modHead_eq, State.head_setHead_self]
        rw [heff] at hle
        have hcap := effective_le_capacity (p.write (s.head h))
        refine ⟨Nat.le_trans hle hcap, fun hlt => absurd hle (Nat.not_le.mpr hlt), fun hne => ?_⟩
        exact Account.preparedOwners_without_of_nil (hown hne) ms
      · exact fits_of_no_prepared (Account.preparedOwners_without fun l hl => List.mem_reverse.mpr hl) hst
  · next hno => exact .modHead h _ rfl (hheld (Bool.not_eq_true _ ▸ hno))

end Sys2Proof.Machine
end

section
/-! The airtime law (R50, R51, R57, R35) through crane links, reefers, reports, the restart and all commands. -/

namespace Sys2Proof.Machine

variable {s t u : State}

/-! ### The restart -/

theorem Air.setWindow (h : HeadIx) (w : Nat) : Air s (setWindow h w s) := .modAccount_fit h id

theorem Air.restartReefers : Air s s.restartReefers := .of_eq rfl rfl

theorem Air.restartHead (h : HeadIx) : Air s (s.restartHead h) := by
  have hstaged : Air s (s.modHead h fun x => { x with staged := none }) := .modHead h _ rfl rfl
  exact .ite (fun _ => hstaged) fun _ => hstaged.trans (.modAccount_fit h fun hfits => fits_of_sublist hfits List.filter_sublist)

theorem Air.restartHeads (hs : List HeadIx) : Air s (restartHeads hs s) := by
  induction hs generalizing s with
  | nil => exact .refl s
  | cons h hs ih => exact Air.trans (.restartHead h) ih

theorem Air.restartLink (l : Nat) : Air s (s.restartLink l) := by
  unfold State.restartLink
  split
  · exact .refl s
  · refine Air.trans ?_ (.endHandover l .restart)
    split
    · exact (Air.modLink l _).trans (.enterSafeStop l .restart)
    · exact (Air.modLink l _).trans (.enterSafeStop l .restart)
    · exact .modLink l _
    · exact .modLink l _

theorem Air.restartLinks (ls : List Nat) : Air s (restartLinks ls s) := by
  induction ls generalizing s with
  | nil => exact .refl s
  | cons l ls ih => exact Air.trans (.restartLink l) ih

theorem Air.takeRestart : Air s (takeRestart s) :=
  (((Air.of_eq (t := { s with inflight := [], notices := [], restartCause := .warm }) rfl rfl).trans .restartReefers).trans
    (.restartHeads allHeads)).trans (.restartLinks _)

/-! ### Crane links -/

theorem Air.uplinkCheck (l : Nat) : Air s (s.uplinkCheck l) := by
  unfold State.uplinkCheck
  split
  · exact .refl s
  · exact .ite (fun _ => (Air.modLink l _).trans (.enterSafeStop l .uplinkLimit)) fun _ => .modLink l _

theorem Air.setpointStage (l : Nat) : Air s (s.setpointStage l) := by
  by_cases h : ∃ k, s.links.get? l = some k ∧ (k.state = .running ∨ k.state = .holding)
  · obtain ⟨k, e, hstate⟩ := h
    cases hp : k.next with
    | some p => rw [setpointStage_of_next e hstate hp]; exact .modLink l _
    | none =>
      rcases Nat.lt_or_ge (k.repeats + 1) k.holdLimit with hlt | hge
      · rw [setpointStage_of_lt e hstate hp hlt]; exact .modLink l _
      · rw [setpointStage_of_le e hstate hp hge]; exact (Air.modLink l _).trans (.post _ _)
  · rw [setpointStage_of_not fun k e => ⟨fun hr => h ⟨k, e, .inl hr⟩, fun hh => h ⟨k, e, .inr hh⟩⟩]
    exact .refl s

theorem Air.handoverStep (l : Nat) : Air s (s.handoverStep l) := by
  unfold State.handoverStep
  split
  · exact .refl s
  · split
    · exact .refl s
    · exact .modLink l _
    · exact .ite (fun _ => .modLink l _) fun _ => (Air.modLink l _).trans (.cancelHandover l .noAnswer)

theorem Air.resume (l : Nat) (p : Setpoint) : Air s (s.resume l p) := by
  unfold State.resume
  split
  · exact .refl s
  · exact (Air.modLink l _).trans (.post _ _)

theorem Air.advanceBlock (l : Nat) : Air s (s.advanceBlock l) := by
  rw [s.advanceBlock_frame l]
  exact .of_eq rfl rfl

theorem Air.sendDownlink (l : Nat) : Air s (s.sendDownlink l) := by
  unfold State.sendDownlink
  split
  · split
    · exact .refl s
    · refine Air.trans ?_ (.advanceBlock l)
      split
      · exact (Air.order _).trans (.order _)
      · exact .order _
  · exact .refl s

theorem Air.closeCycle (l : Nat) : Air s (s.closeCycle l) := .modLink l _

theorem Air.completeRelease (l : Nat) : Air s (s.completeRelease l) := by
  unfold State.completeRelease
  split
  · exact .refl s
  · have hreleased : Air s ((((s.cancelHandover l .released).sendDownlink l).closeCycle l).releaseStanding l) :=
      (((Air.cancelHandover l .released).trans (.sendDownlink l)).trans (.closeCycle l)).trans (.releaseStanding l)
    exact ((hreleased.trans (.modLink l _)).trans (.post _ _)).trans (.endOldest _ _)

theorem Air.runningExpiry (l : Nat) : Air s (s.runningExpiry l) :=
  (((((Air.uplinkCheck l).trans (.modLink l _)).trans (.setpointStage l)).trans (.handoverStep l)).trans
    (.sendDownlink l)).trans (.closeCycle l)

theorem Air.stoppedExpiry (l : Nat) (k : CraneLink) : Air s (s.stoppedExpiry l k) := by
  have hcheck : Air s (s.assemblyCheck l) := .modLink l _
  refine .ite (fun _ => hcheck.trans (.completeRelease l)) fun _ => ?_
  refine Air.trans (Air.trans (Air.trans ?_ (.handoverStep l)) (.sendDownlink l)) (.closeCycle l)
  split
  · exact hcheck.trans (.resume l _)
  · exact hcheck

theorem Air.cycleExpiry (l : Nat) : Air s (s.cycleExpiry l) := by
  unfold State.cycleExpiry
  split
  · exact .refl s
  · refine .ite (fun _ => ?_) fun _ => .refl s
    split
    · exact (Air.modLink l _).trans (.runningExpiry l)
    · exact (Air.modLink l _).trans (.runningExpiry l)
    · exact (Air.modLink l _).trans (.stoppedExpiry l _)
    · exact .refl s

/-- The head of a taken CRANE_START has admitted the units asked for. -/
theorem craneStartChecks_ok {a : CraneTarget} {n : Nat} {h : HeadIx} (hc : craneStartChecks a n s = .ok h) :
    a.record.state = .idle ∧ a.ctx.serving = some h ∧ s.askStanding h a.link n = .admitted := by
  unfold craneStartChecks at hc
  split at hc
  · cases hc
  · next hidle =>
    split at hc
    · cases hc
    · next hserv =>
      split at hc
      · next hadm => cases hc; exact ⟨not_not.mp hidle, hserv, hadm⟩
      · cases hc

/-- A taken CRANE_RESUME: the link holds its standing reservation, or its serving head has admitted one. -/
theorem craneResumeChecks_ok {a : CraneTarget} {o : Option HeadIx} (hc : craneResumeChecks a s = .ok o) :
    a.record.state = .safeStop ∧ a.record.releasePending = false ∧ a.record.heardLast = true ∧
      ((o = none ∧ (s.reservation .standing a.link).isSome) ∨
        ∃ h, o = some h ∧ s.reservation .standing a.link = none ∧ a.ctx.serving = some h ∧
          s.askStanding h a.link a.record.units = .admitted) := by
  unfold craneResumeChecks at hc
  split at hc
  · cases hc
  · next hstate =>
    obtain ⟨hsafe, hpend⟩ := not_or.mp hstate
    split at hc
    · cases hc
    · next hres =>
      split at hc
      · next hheard => cases hc; exact ⟨not_not.mp hsafe, Bool.not_eq_true _ ▸ hpend, hheard, .inl ⟨rfl, by simp [hres]⟩⟩
      · cases hc
    · next hres hserv =>
      split at hc
      · next hheard =>
        split at hc
        · next hadm =>
          cases hc
          exact ⟨not_not.mp hsafe, Bool.not_eq_true _ ▸ hpend, hheard, .inr ⟨_, rfl, hres, hserv, hadm⟩⟩
        · cases hc
      · cases hc

theorem Air.takeCraneStart {l : Nat} {h : HeadIx} {g : CraneSettings} (p : Setpoint)
    (ha : s.askStanding h l g.units.value = .admitted) : Air s (takeCraneStart l h g p s) :=
  ((Air.joinStanding ha).trans (.modLink l _)).trans (.sendDownlink l)

theorem Air.takeCraneResume {a : CraneTarget} {o : Option HeadIx} (p : Setpoint) (hc : craneResumeChecks a s = .ok o) :
    Air s (takeCraneResume a.link o a.record p s) := by
  obtain ⟨-, -, -, ⟨rfl, -⟩ | ⟨h, rfl, -, -, hadm⟩⟩ := craneResumeChecks_ok hc
  · exact .modLink a.link _
  · exact (((Air.joinStanding hadm).trans (.modLink a.link _)).trans (.post _ _)).trans (.modLink a.link _)

theorem Air.takeCraneStop (l : Nat) (k : CraneLink) : Air s (takeCraneStop l k s) := by
  refine Air.trans ?_ (.cancelHandover l .ordered)
  split
  · exact .enterSafeStop l .ordered
  · exact .enterSafeStop l .ordered
  · exact .modLink l _
  · exact .refl s

theorem Air.takeCraneRelease (handle l : Nat) (q : ReqTag) : Air s (takeCraneRelease handle l q s) :=
  ((Air.modLink l _).trans (.cancelHandover l .released)).trans (.of_eq rfl rfl)

theorem Air.endNewest (p : InFlight → Bool) (res : Result) : Air s (s.endNewest p res) := by
  rw [s.endNewest_frame p res]
  exact .of_eq rfl rfl

theorem Air.placeBlock (handle l : Nat) (b : Bytes48) (q : ReqTag) (k : CraneLink) :
    Air s (s.placeBlock handle l b q k) := by
  unfold State.placeBlock
  split
  · exact .modLink l _
  · exact .modLink l _
  · exact (Air.modLink l _).trans (.endNewest _ _)

theorem Air.takeSideDown (handle l : Nat) (b : Bytes48) (q : ReqTag) (k : CraneLink) :
    Air s (takeSideDown handle l b q k s) := (Air.placeBlock handle l b q k).trans (.of_eq rfl rfl)

theorem Air.takeFragment (handle l : Nat) (start : Bool) (f : Fragment) (k : CraneLink) :
    Air s (s.takeFragment handle l start f k) := by
  unfold State.takeFragment
  dsimp only
  split
  · refine .ite (fun _ => .modLink l _) fun _ => ?_
    split
    · exact (Air.modLink l _).trans (((Air.modLink l _).trans (.modContext handle _)).trans (.post _ _))
    · exact .modLink l _
  · exact .modLink l _

theorem Air.takeUplink (handle l : Nat) (k : CraneLink) (h : HeadIx) (f : UplinkFields) :
    Air s (takeUplink handle l k h f s) := by
  have htaken : Air s (if k.heard
      then s.modLink l fun k => { k with feedback := some { bytes := f.feedback, seq := f.seq, age := 0 } }
      else (((s.modLink l fun k => { k with feedback := some { bytes := f.feedback, seq := f.seq, age := 0 } }).takeFragment
        handle l f.start f.frag k).modLink l fun k => { k with heard := true })) :=
    .ite (fun _ => .modLink l _) fun _ => ((Air.modLink l _).trans (.takeFragment handle l _ _ k)).trans (.modLink l _)
  exact .ite (fun _ => htaken.trans (.completeHandover l)) fun _ => htaken

theorem Air.onUplink (handle : Nat) (c : Context) (f : UplinkFields) : Air s (onUplink handle c f s) := by
  unfold Machine.onUplink
  split
  · exact .refl s
  · split
    · exact .ite (fun _ => .takeUplink handle _ _ _ f) fun _ => .refl s
    · exact .refl s

/-! ### Reefers -/

theorem Air.makePoll (i : Nat) : Air s (s.makePoll i) := .of_same (air_makePoll s i)
theorem Air.endPoll (i : Nat) : Air s (s.endPoll i) := .of_same (air_endPoll s i)
theorem Air.endPage (i : Nat) (res : Result) : Air s (s.endPage i res) := (s.endPage_frame i res).air

theorem Air.setContact (i : Nat) (c : Contact) : Air s (s.setContact i c) := by
  rcases s.setContact_cases i c with ⟨h, -⟩ | ⟨r, -, -, h⟩
  · rw [h]; exact .refl s
  · rw [h]; exact (Air.modReefer i _).trans (.post _ _)

theorem Air.failPage (i : Nat) : Air s (s.failPage i) := (Air.endPage i .failed).trans (.setContact i .unreachable)

theorem Air.pollIfOverdue (i : Nat) : Air s (s.pollIfOverdue i) := by
  unfold State.pollIfOverdue
  split
  · exact .ite (fun _ => .makePoll i) fun _ => .refl s
  · exact .refl s

theorem Air.wake (i : Nat) : Air s (s.wake i) := (Air.modReefer i _).trans (.endPage i .done)

theorem Air.wakeByReport (i : Nat) : Air s (s.wakeByReport i) := by
  unfold State.wakeByReport
  split
  · exact .ite (fun _ => .wake i) fun _ => .refl _
  · exact .refl _

theorem Air.classify (i : Nat) : Air s (s.classify i) := by
  unfold State.classify
  split
  · exact .refl _
  · exact .ite (fun _ => .modReefer i _) fun _ => (Air.modReefer i _).trans (.post _ _)

theorem Air.dozeDecision (i : Nat) (woken : Bool) : Air s (s.dozeDecision i woken) := by
  unfold State.dozeDecision
  split
  · split
    · exact .ite (fun _ => (Air.order _).trans (.modReefer i _)) fun _ => .refl _
    · exact .refl _
  · exact .refl _

theorem Air.takeReeferReport (i : Nat) (r : Reefer) (f : ReportFields) : Air s (takeReeferReport i r f s) :=
  (((((Air.modReefer i _).trans (.setContact i .reachable)).trans (.wakeByReport i)).trans (.endPoll i)).trans
    (.classify i)).trans (.dozeDecision i _)

theorem Air.takeDozeAck (code : Byte) (i : Nat) (r : Reefer) : Air s (takeDozeAck code i r s) := by
  have hcontact : Air s (s.setContact i .reachable) := .setContact i .reachable
  unfold Machine.takeDozeAck
  dsimp only
  split
  · exact .ite (fun _ => (hcontact.trans (.modReefer i _)).trans (State.releaseAckPage_frame _ i).air) fun _ => hcontact
  · exact hcontact

theorem Air.takePageAnswer (i : Nat) (r : Reefer) : Air s (takePageAnswer i r s) := by
  have hcontact : Air s (s.setContact i .reachable) := .setContact i .reachable
  exact .ite (fun _ => (hcontact.trans (.wake i)).trans (.pollIfOverdue i)) fun _ => hcontact

theorem Air.onReefer (tag : Tag) {f : Nat → Reefer → State → State} (hf : ∀ i r, Air s (f i r s)) :
    Air s (onReefer tag s f) := by
  unfold Machine.onReefer
  split
  · exact .unmatchedEvent _
  · refine .ite (fun _ => ?_) fun _ => .unmatchedEvent _
    split
    · exact .refl s
    · split
      · exact hf _ _
      · exact .refl s

theorem Air.ackExpiry (i : Nat) : Air s (s.ackExpiry i) := by
  unfold State.ackExpiry
  split
  · exact .refl s
  · refine .ite (fun _ => Air.trans ?_ (.pollIfOverdue i)) fun _ => .refl s
    split
    · exact .ite (fun _ => (Air.modReefer i _).trans (.endPage i .alreadyAwake)) fun _ => .modReefer i _
    · exact .modReefer i _

theorem Air.pageExpiry (i : Nat) : Air s (s.pageExpiry i) := by
  unfold State.pageExpiry
  split
  · exact .refl s
  · split
    · exact .refl s
    · exact .ite (fun _ => .ite (fun _ => .modReefer i _) fun _ => .failPage i) fun _ => .refl s

theorem Air.pollExpiry (i : Nat) : Air s (s.pollExpiry i) := by
  unfold State.pollExpiry
  split
  · exact .refl s
  · split
    · exact .ite (fun _ => (Air.modReefer i _).trans (.of_same (air_returnCredit _ _))) fun _ => .refl s
    · exact .refl s
    · exact .refl s

theorem Air.secondPass : Air s s.secondPass := .ite (fun _ => .of_eq rfl rfl) fun _ => .refl s

theorem Air.overdueAction (i : Nat) : Air s (s.overdueAction i) := by
  unfold State.overdueAction
  split
  · split
    · exact .makePoll i
    all_goals exact .ite (fun _ => (State.internalPage_frame _ _ i).air) fun _ => .refl _
  · exact .refl _

theorem Air.overdueExpiry (i : Nat) : Air s (s.overdueExpiry i) := by
  unfold State.overdueExpiry
  split
  · exact .refl s
  · exact .ite (fun _ => (Air.modReefer i _).trans (.overdueAction i)) fun _ => .refl s

/-! ### Reports -/

theorem Air.moveReeferWork (c : Context) (g : HeadIx) : Air s (s.moveReeferWork c g) := by
  unfold State.moveReeferWork
  split
  · next i _ _ =>
    refine Air.trans (t := s.movePage i g) ?_ ?_
    · unfold State.movePage
      split
      · exact .refl s
      · split
        · exact .refl s
        · refine .ite (fun _ => .failPage i) fun _ => .ite (fun _ => .endPage i _) fun _ => .ite (fun _ => ?_) fun _ => .endPage i _
          exact .of_eq rfl rfl
    · unfold State.moveWait
      split
      · exact .refl _
      · refine .ite (fun _ => ?_) fun _ => .refl _
        exact Air.trans (.of_eq rfl rfl) (.of_same (air_waitPass _ g))
  · exact .refl s

theorem Air.immediateHandover (k : Nat) (c : Context) (old new : HeadIx) : Air s (s.immediateHandover k c old new) :=
  (((Air.modContext k _).trans (.order _)).trans (.moveReeferWork c new)).trans (.post _ _)

theorem admissionTest_of_askPrepared {h : HeadIx} {l n : Nat} (ha : s.askPrepared h l n = .admitted) :
    admissionTest (s.head h) (s.account h) n = .admitted := by
  unfold State.askPrepared at ha
  split at ha
  · cases ha
  · exact ha

theorem Air.cranePath (k l n : Nat) (h : HeadIx) : Air s (s.cranePath k l n h) := by
  unfold State.cranePath
  split
  · next hadm => exact (Air.join .prepared l (admissionTest_of_askPrepared hadm)).trans (.modLink l _)
  · exact .post _ _
  · exact .post _ _

theorem Air.stageFive (k : Nat) (c : Context) (h : HeadIx) (l : List Candidate) : Air s (stageFive s k c h l) := by
  refine .ite (fun _ => .refl s) fun _ => ?_
  dsimp only
  split
  · split
    · exact .cranePath k _ _ _
    · exact .refl s
  · split
    · exact .immediateHandover k c h _
    · exact .refl s

theorem Air.takeReport (k : Nat) (c : Context) (es : List MeasEntry) : Air s (takeReport k c es s) := by
  unfold Machine.takeReport
  dsimp only
  split
  · split
    · exact .modContext k _
    · exact (Air.modContext k _).trans (((Air.modContext k _).trans (.order _)).trans (.post _ _))
  · exact (Air.modContext k _).trans (.stageFive k _ _ _)

/-! ### Contexts -/

theorem Air.takeAttach (p : AttachPlan) : Air s (takeAttach p s) := by
  unfold Machine.takeAttach
  split <;> exact .of_eq rfl rfl

theorem Air.endReeferWork (i : Nat) : Air s (s.endReeferWork i) :=
  ((Air.endPage i .retired).trans (.of_eq rfl rfl)).trans (Air.endPoll (s := (s.endPage i .retired).leaveWaitLists i) i)

theorem Air.retiring (k : Nat) (c : Context) : Air s (s.retiring k c) := by
  have hwork : Air s (s.endExtensionWork k c) := by
    unfold State.endExtensionWork
    split
    · exact .of_eq rfl rfl
    · exact .endReeferWork _
    · exact .refl s
  unfold State.retiring
  dsimp only
  split
  · exact hwork.trans (.of_eq rfl rfl)
  · exact hwork.trans (.of_eq rfl rfl)

theorem Air.takeRetire (k : Nat) (c : Context) : Air s (takeRetire k c s) := by
  rw [takeRetire_eq]
  refine (Air.retiring k c).trans ?_
  rcases freeContext_cases (s.retiring k c) k c with ⟨l, -, -, h⟩ | ⟨i, -, -, h⟩ | ⟨-, -, h⟩
  all_goals rw [h]; exact .of_eq rfl rfl

/-! ### The strobe -/

theorem Air.count : Air s s.count := by
  refine .of_same ?_
  funext h
  unfold State.air
  rw [head_count]
  rfl

end Sys2Proof.Machine
end

section
/-! From the operations to all commands: a relation of states that the taken requests, the events, the expiries and the
strobe meet is met by every step. -/

namespace Sys2Proof.Machine

variable {s t u : State}

/-- The tables, heads, accounts and queues are the same. -/
structure SameRecords (s t : State) : Prop where
  contexts : t.contexts = s.contexts
  heads : t.heads = s.heads
  airtime : t.airtime = s.airtime
  links : t.links = s.links
  reefers : t.reefers = s.reefers
  pageQueues : t.pageQueues = s.pageQueues
  pollWaits : t.pollWaits = s.pollWaits

/-- A change of a link record that leaves what its reservations and its handover depend on. -/
def CraneLink.sameUse (f : CraneLink → CraneLink) : Prop :=
  ∀ k, (f k).owner = k.owner ∧ (f k).state = k.state ∧ (f k).phase = k.phase

/-- A change of a reefer record that leaves what its pages and polls depend on. -/
def Reefer.sameUse (f : Reefer → Reefer) : Prop :=
  ∀ r, (f r).owner = r.owner ∧ (f r).doze = r.doze ∧ (f r).poll = r.poll ∧ ((f r).page.isSome ↔ r.page.isSome)

/-- What the commands do, operation by operation, each with the checks it has passed. -/
structure Steps (R : State → State → Prop) : Prop where
  trans : ∀ {s t u}, R s t → R t u → R s u
  same : ∀ {s t}, SameRecords s t → R s t
  amend : ∀ s k g p, R s (s.modContext k fun c => { c with segment := g, pinned := p })
  modLink : ∀ s l f, CraneLink.sameUse f → R s (s.modLink l f)
  modReefer : ∀ s i f, Reefer.sameUse f → R s (s.modReefer i f)
  attach : ∀ s os p, attachChecks os s = .ok p → R s (takeAttach p s)
  retire : ∀ s r a, contextTarget .retire none r s = .ok a → s.retireBlocked a.ctx = false →
    R s (takeRetire a.handle a.ctx s)
  craneStart : ∀ s r a h p, craneTarget .craneStart r s = .ok a →
    craneStartChecks a (craneSettings a.opts a.record).units.value s = .ok h →
    R s (takeCraneStart a.link h (craneSettings a.opts a.record) p s)
  craneStop : ∀ s r a, craneTarget .craneStop r s = .ok a → a.record.state ≠ .idle →
    R s (takeCraneStop a.link a.record s)
  craneResume : ∀ s r a o p, craneTarget .craneResume r s = .ok a → craneResumeChecks a s = .ok o →
    R s (takeCraneResume a.link o a.record p s)
  cancelHandover : ∀ s l cause, R s (s.cancelHandover l cause)
  takeOver : ∀ s i q, R s (s.modPage i fun p => { p with owner := q })
  queuePage : ∀ s r a h q, reeferTarget .page r s = .ok a → pageDeal a s = .queue h → R s (s.queuePage h a.index q)
  headConfig : ∀ s os h p, headConfigChecks os (s.head h) (s.account h) = .ok p →
    R s (takeHeadConfig h (os.has .capacity) p s)
  headClear : ∀ s h, (s.head h).state = .faulted → R s (s.changeHead h fun x => { x with state := .offline })
  schedule : ∀ s h (a : Head → Schedule) (b : Head → Option Schedule), R s (s.modHead h fun x => { x with active := a x, staged := b x })
  setWindow : ∀ s h w, R s (setWindow h w s)
  params : ∀ s p, R s (takeParams p s)
  restart : ∀ s, R s (takeRestart s)
  report : ∀ s tag k c es, s.findTag tag = some (k, c) → R s (takeReport k c es s)
  uplink : ∀ s tag k c f, s.findTag tag = some (k, c) → c.cls = .crane → R s (onUplink k c f s)
  reeferReport : ∀ s i r f, s.reefers.get? i = some r → R s (takeReeferReport i r f s)
  dozeAck : ∀ s code i r, s.reefers.get? i = some r → R s (takeDozeAck code i r s)
  pageAnswer : ∀ s i r, s.reefers.get? i = some r → R s (takePageAnswer i r s)
  headUp : ∀ s h, R s (headUp h s)
  syncLock : ∀ s h, R s (syncLock h s)
  syncLost : ∀ s h, R s (syncLost h s)
  lineFault : ∀ s h short, R s (lineFault short h s)
  startTimer : ∀ s h, R s (s.startTimerExpiry h)
  lockWait : ∀ s h, R s (s.lockWaitExpiry h)
  holdover : ∀ s h, R s (s.holdoverExpiry h)
  dwell : ∀ s h, R s (s.dwellExpiry h)
  cycle : ∀ s l, R s (s.cycleExpiry l)
  ack : ∀ s i, R s (s.ackExpiry i)
  page : ∀ s i, R s (s.pageExpiry i)
  poll : ∀ s i, R s (s.pollExpiry i)
  overdue : ∀ s i, R s (s.overdueExpiry i)
  second : ∀ s, R s s.secondPass
  count : ∀ s, R s s.count
  reset : ∀ s, R s { State.reset with pending := s.pending }

namespace Steps

variable {R : State → State → Prop} (x : Steps R) {r : Request}
include x

theorem refl (s : State) : R s s := x.same ⟨rfl, rfl, rfl, rfl, rfl, rfl, rfl⟩

theorem reply (s : State) (q : Reply) : R s (s.reply q) := x.same ⟨rfl, rfl, rfl, rfl, rfl, rfl, rfl⟩

theorem joinInflight (s : State) (e : InFlight) : R s (s.joinInflight e) := x.same ⟨rfl, rfl, rfl, rfl, rfl, rfl, rfl⟩

theorem refuse (q : ReqKind) (r : Request) (e : Refused) (s : State) : Gives (.next (Machine.refuse q r e s)) (R s) :=
  gives_next (x.reply s _)

theorem answer {q : ReqKind} {r : Request} {res : Result} {c : Bool} {i : Identity} {b : List Byte} (h : R s t) :
    Gives (.next (Machine.answer q r res c i b t)) (R s) :=
  gives_next (x.trans h (x.reply t _))

theorem endOldest (s : State) (p : InFlight → Bool) (res : Result) : R s (s.endOldest p res) := by
  rw [s.endOldest_frame p res]
  exact x.same ⟨rfl, rfl, rfl, rfl, rfl, rfl, rfl⟩

theorem endNewest (s : State) (p : InFlight → Bool) (res : Result) : R s (s.endNewest p res) := by
  rw [s.endNewest_frame p res]
  exact x.same ⟨rfl, rfl, rfl, rfl, rfl, rfl, rfl⟩

theorem unmatchedEvent (s : State) (tag : Option Tag) : R s (s.unmatchedEvent tag) :=
  x.same ⟨rfl, rfl, rfl, rfl, rfl, rfl, rfl⟩

/-! ### Requests -/

theorem ofAttach : Gives (execAttach r s) (R s) := by
  unfold execAttach
  split
  · exact x.refuse _ r _ s
  · split
    · exact x.refuse _ r _ s
    · next hp => exact x.answer (x.attach s _ _ hp)

theorem ofFind : Gives (execFind r s) (R s) := by
  unfold execFind
  split
  · exact x.refuse _ r _ s
  · exact x.answer (x.refl s)

theorem ofRead : Gives (execRead r s) (R s) := by
  unfold execRead
  split
  · exact x.refuse _ r _ s
  · exact x.answer (x.refl s)

theorem ofAmend : Gives (execAmend r s) (R s) := by
  unfold execAmend
  split
  · exact x.refuse _ r _ s
  · split
    · exact x.refuse _ r _ s
    · exact x.answer (x.amend s _ _ _)

theorem ofRetire : Gives (execRetire r s) (R s) := by
  unfold execRetire
  split
  · exact x.refuse _ r _ s
  · next ha =>
    split
    · exact x.refuse _ r _ s
    · next hfree => exact x.answer (x.retire s r _ ha (Bool.not_eq_true _ ▸ hfree))

theorem ofCraneStart : Gives (execCraneStart r s) (R s) := by
  unfold execCraneStart
  split
  · exact x.refuse _ r _ s
  · next ha =>
    split
    · exact x.refuse _ r _ s
    · dsimp only
      split
      · exact x.refuse _ r _ s
      · next hc => exact x.answer (x.craneStart s r _ _ _ ha hc)

theorem ofSetpoint : Gives (execSetpoint r s) (R s) := by
  have hwrite (l : Nat) (p : Setpoint) : R s (s.writeNext l p) := x.modLink s l _ fun _ => ⟨rfl, rfl, rfl⟩
  unfold execSetpoint
  split
  · exact x.refuse _ r _ s
  · split
    · exact x.refuse _ r _ s
    · split
      · exact x.answer (hwrite _ _)
      · exact x.answer (hwrite _ _)
      · exact x.refuse _ r _ s
      · exact x.refuse _ r _ s

theorem ofCraneStop : Gives (execCraneStop r s) (R s) := by
  unfold execCraneStop
  split
  · exact x.refuse _ r _ s
  · next ha =>
    split
    · exact x.refuse _ r _ s
    · next hidle => exact x.answer (x.craneStop s r _ ha hidle)

theorem ofCraneResume : Gives (execCraneResume r s) (R s) := by
  unfold execCraneResume
  split
  · exact x.refuse _ r _ s
  · next ha =>
    split
    · exact x.refuse _ r _ s
    · split
      · exact x.refuse _ r _ s
      · next hc => exact x.answer (x.craneResume s r _ _ _ ha hc)

theorem ofCraneRelease : Gives (execCraneRelease r s) (R s) := by
  unfold execCraneRelease
  split
  · exact x.refuse _ r _ s
  · split
    · exact x.refuse _ r _ s
    · next a _ _ _ =>
      have hmark := x.modLink s a.link (fun k => { k with releasePending := true, next := none }) fun _ => ⟨rfl, rfl, rfl⟩
      exact gives_next (x.trans (x.trans hmark (x.cancelHandover _ _ _)) (x.joinInflight _ _))

theorem placeBlock (handle l : Nat) (b : Bytes48) (q : ReqTag) (k : CraneLink) : R s (s.placeBlock handle l b q k) := by
  unfold State.placeBlock
  split
  · exact x.modLink s l _ fun _ => ⟨rfl, rfl, rfl⟩
  · exact x.modLink s l _ fun _ => ⟨rfl, rfl, rfl⟩
  · have hwait := x.modLink s l (fun k => { k with waiting := some { bytes := b, req := q } }) fun _ => ⟨rfl, rfl, rfl⟩
    exact x.trans hwait (x.endNewest _ _ _)

theorem ofSideDown : Gives (execSideDown r s) (R s) := by
  unfold execSideDown
  split
  · exact x.refuse _ r _ s
  · split
    · exact x.refuse _ r _ s
    · split
      · exact x.refuse _ r _ s
      · exact gives_next (x.trans (x.placeBlock _ _ _ _ _) (x.joinInflight _ _))

theorem ofCraneRead : Gives (execCraneRead r s) (R s) := by
  unfold execCraneRead
  split
  · exact x.refuse _ r _ s
  · exact x.answer (x.modLink s _ _ fun _ => ⟨rfl, rfl, rfl⟩)

theorem ofReeferRead : Gives (execReeferRead r s) (R s) := by
  unfold execReeferRead
  split
  · exact x.refuse _ r _ s
  · exact x.answer (x.modReefer s _ _ fun _ => ⟨rfl, rfl, rfl, Iff.rfl⟩)

theorem ofReeferParams : Gives (execReeferParams r s) (R s) := by
  unfold execReeferParams
  split
  · exact x.refuse _ r _ s
  · split
    · exact x.refuse _ r _ s
    · exact x.answer (x.modReefer s _ _ fun _ => ⟨rfl, rfl, rfl, Iff.rfl⟩)

theorem ofPage : Gives (execPage r s) (R s) := by
  unfold execPage
  split
  · exact x.refuse _ r _ s
  · next ha =>
    split
    · exact x.refuse _ r _ s
    · split
      · exact x.answer (x.refl s)
      · exact x.refuse _ r _ s
      · exact gives_next (x.trans (x.takeOver s _ _) (x.joinInflight _ _))
      · next hd => exact gives_next (x.trans (x.queuePage s r _ _ _ ha hd) (x.joinInflight _ _))

theorem ofHeadConfig : Gives (execHeadConfig r s) (R s) := by
  unfold execHeadConfig
  split
  · exact x.refuse _ r _ s
  · split
    · exact x.refuse _ r _ s
    · next hp => exact x.answer (x.headConfig s _ _ _ hp)

theorem ofHeadRead : Gives (execHeadRead r s) (R s) := by
  unfold execHeadRead
  split
  · exact x.refuse _ r _ s
  · exact x.answer (x.refl s)

theorem ofHeadClear : Gives (execHeadClear r s) (R s) := by
  unfold execHeadClear
  split
  · exact x.refuse _ r _ s
  · split
    · next hst => exact x.answer (x.headClear s _ hst)
    · exact x.refuse _ r _ s

theorem stage (s : State) (h : HeadIx) (q : ReqTag) (p : Clamped Schedule) : R s (s.stage h q p) := by
  have hreplaced (b : Bool) :
      R s (if b then s.endOldest (InFlight.isFor .sweepSet (.head h)) .replaced else s) := by
    split
    · exact x.endOldest s _ _
    · exact x.refl s
  exact x.trans (x.trans (hreplaced _) (x.schedule _ h (·.active) fun _ => some p.value)) (x.joinInflight _ _)

theorem ofSweepSet : Gives (execSweepSet r s) (R s) := by
  unfold execSweepSet
  split
  · exact x.refuse _ r _ s
  · split
    · exact x.refuse _ r _ s
    · split
      · exact x.refuse _ r _ s
      · dsimp only
        split
        · exact gives_next (x.stage s _ _ _)
        · exact x.answer (x.schedule s _ _ (·.staged))

theorem ofShadowSet : Gives (execShadowSet r s) (R s) := by
  unfold execShadowSet
  split
  · exact x.refuse _ r _ s
  · split
    · exact x.refuse _ r _ s
    · exact x.answer (x.same ⟨rfl, rfl, rfl, rfl, rfl, rfl, rfl⟩)

theorem ofShadowRead : Gives (execShadowRead r s) (R s) := by
  unfold execShadowRead
  split
  · exact x.refuse _ r _ s
  · exact x.answer (x.refl s)

theorem ofClassParams : Gives (execClassParams r s) (R s) := by
  unfold execClassParams
  split
  · exact x.refuse _ r _ s
  · split
    · exact x.refuse _ r _ s
    · exact x.answer (x.params s _)

theorem ofPollWindowSet : Gives (execPollWindowSet r s) (R s) := by
  unfold execPollWindowSet
  split
  · exact x.refuse _ r _ s
  · exact x.answer (x.setWindow s _ _)

theorem ofPartConfig : Gives (execPartConfig r s) (R s) := by
  unfold execPartConfig
  split
  · exact x.refuse _ r _ s
  · dsimp only
    split
    · exact x.answer (x.same ⟨rfl, rfl, rfl, rfl, rfl, rfl, rfl⟩)
    · exact x.refuse _ r _ s

theorem ofPartStatus : Gives (execPartStatus r s) (R s) := by
  unfold execPartStatus
  split
  · exact x.refuse _ r _ s
  · exact x.answer (x.same ⟨rfl, rfl, rfl, rfl, rfl, rfl, rfl⟩)

theorem ofRestart : Gives (execRestart r s) (R s) := by
  unfold execRestart
  split
  · exact x.refuse _ r _ s
  · exact x.answer (x.restart s)

/-! ### Events, the strobe and the outgoing sides -/

theorem onHead (b : Byte) {f : HeadIx → State → State} (hf : ∀ h, R s (f h s)) : Gives (.next (onHead b s f)) (R s) := by
  unfold Machine.onHead
  split
  · exact gives_next (hf _)
  · exact gives_next (x.unmatchedEvent s none)

theorem onReefer (tag : Tag) {f : Nat → Reefer → State → State}
    (hf : ∀ i r, s.reefers.get? i = some r → R s (f i r s)) : Gives (.next (onReefer tag s f)) (R s) := by
  unfold Machine.onReefer
  split
  · exact gives_next (x.unmatchedEvent s _)
  · split
    · split
      · exact gives_next (x.refl s)
      · split
        · next hr => exact gives_next (hf _ _ hr)
        · exact gives_next (x.refl s)
    · exact gives_next (x.unmatchedEvent s none)

theorem ofMeasurementReport (tag : Tag) (es : List MeasEntry) : Gives (execMeasurementReport tag es s) (R s) := by
  unfold execMeasurementReport
  split
  · next h => exact gives_next (x.report s tag _ _ es h)
  · exact gives_next (x.unmatchedEvent s _)

theorem ofCraneUplink (tag : Tag) (f : UplinkFields) : Gives (execCraneUplink tag f s) (R s) := by
  unfold execCraneUplink
  split
  · exact gives_next (x.unmatchedEvent s _)
  · next h =>
    split
    · next hcls => exact gives_next (x.uplink s tag _ _ f h hcls)
    · exact gives_next (x.unmatchedEvent s none)

theorem takeEach {α : Type} {f : State → α → State} (hf : ∀ s a, R s (f s a)) (as : List α) (s : State) :
    R s (takeEach f as s) := by
  induction as generalizing s with
  | nil => exact x.refl s
  | cons a as ih => exact x.trans (hf s a) (ih _)

theorem takeDue (s : State) : R s s.takeDue := by
  have hhead (s : State) (h : HeadIx) : R s ((((s.startTimerExpiry h).lockWaitExpiry h).holdoverExpiry h).dwellExpiry h) :=
    x.trans (x.trans (x.trans (x.startTimer s h) (x.lockWait _ h)) (x.holdover _ h)) (x.dwell _ h)
  have hreefers (s : State) : R s s.reeferExpiries :=
    x.trans (x.trans (x.trans (x.trans (x.takeEach x.ack _ s) (x.takeEach x.page _ _)) (x.takeEach x.poll _ _))
      (x.second _)) (x.takeEach x.overdue _ _)
  exact x.trans (x.trans (x.takeEach hhead _ s) (x.takeEach x.cycle _ _)) (hreefers _)

theorem ofReplySend : Gives (execReplySend s) (R s) := by
  unfold execReplySend
  split
  · exact gives_next (x.refl s)
  · exact gives_next (x.same ⟨rfl, rfl, rfl, rfl, rfl, rfl, rfl⟩)

theorem ofNoticeSend : Gives (execNoticeSend s) (R s) := by
  unfold execNoticeSend
  split
  · exact gives_next (x.same ⟨rfl, rfl, rfl, rfl, rfl, rfl, rfl⟩)
  · exact gives_next (x.refl s)

theorem ofOrderSend : Gives (execOrderSend s) (R s) := by
  unfold execOrderSend
  split
  · exact gives_next (x.refl s)
  · exact gives_next (x.same ⟨rfl, rfl, rfl, rfl, rfl, rfl, rfl⟩)

/-- Every command meets the relation. -/
theorem exec (i : Instr) (s : State) : Gives (exec i s) (R s) := by
  cases i with
  | attach r => exact x.ofAttach
  | find r => exact x.ofFind
  | read r => exact x.ofRead
  | amend r => exact x.ofAmend
  | retire r => exact x.ofRetire
  | craneStart r => exact x.ofCraneStart
  | setpoint r => exact x.ofSetpoint
  | craneStop r => exact x.ofCraneStop
  | craneResume r => exact x.ofCraneResume
  | craneRelease r => exact x.ofCraneRelease
  | sideDown r => exact x.ofSideDown
  | craneRead r => exact x.ofCraneRead
  | reeferRead r => exact x.ofReeferRead
  | reeferParams r => exact x.ofReeferParams
  | page r => exact x.ofPage
  | headConfig r => exact x.ofHeadConfig
  | headRead r => exact x.ofHeadRead
  | headClear r => exact x.ofHeadClear
  | sweepSet r => exact x.ofSweepSet
  | shadowSet r => exact x.ofShadowSet
  | shadowRead r => exact x.ofShadowRead
  | classParams r => exact x.ofClassParams
  | pollWindowSet r => exact x.ofPollWindowSet
  | partConfig r => exact x.ofPartConfig
  | partStatus r => exact x.ofPartStatus
  | restart r => exact x.ofRestart
  | unknownRequestKind kind r => exact gives_next (x.reply s _)
  | incompleteRequestHeader msg => exact gives_next (x.refl s)
  | measurementReport tag es => exact x.ofMeasurementReport tag es
  | craneUplink tag u => exact x.ofCraneUplink tag u
  | reeferReport tag f => exact x.onReefer tag fun i r hr => x.reeferReport s i r f hr
  | dozeAck tag head code => exact x.onReefer tag (x.dozeAck s code)
  | pageAnswer tag head => exact x.onReefer tag (x.pageAnswer s)
  | headUp b => exact x.onHead b (x.headUp s)
  | syncLock b => exact x.onHead b (x.syncLock s)
  | syncLost b => exact x.onHead b (x.syncLost s)
  | lineFault b short => exact x.onHead b fun h => x.lineFault s h short
  | unknownEventKind msg => exact gives_next (x.unmatchedEvent s none)
  | frameStrobe => exact gives_next (x.trans (x.takeDue s) (x.count _))
  | coldReset => exact gives_next (x.reset s)
  | startTimerExpiry h => exact gives_next (x.startTimer s h)
  | lockWaitExpiry h => exact gives_next (x.lockWait s h)
  | holdoverExpiry h => exact gives_next (x.holdover s h)
  | dwellExpiry h => exact gives_next (x.dwell s h)
  | cycleExpiry l => exact gives_next (x.cycle s l)
  | ackLimitExpiry i => exact gives_next (x.ack s i)
  | pageAnswerExpiry i => exact gives_next (x.page s i)
  | pollAnswerExpiry i => exact gives_next (x.poll s i)
  | secondExpiry => exact gives_next (x.second s)
  | overdueExpiry i => exact gives_next (x.overdue s i)
  | replySend => exact x.ofReplySend
  | noticeSend => exact x.ofNoticeSend
  | orderSend => exact x.ofOrderSend

/-- Every step meets the relation: the queue alone changes before the command runs. -/
theorem step (h : step s = .next t) : R s t := by
  unfold Machine.step at h
  split at h
  · cases h
    exact x.refl s
  · next c rest _ =>
    have hqueue : R s { s with pending := rest } := x.same ⟨rfl, rfl, rfl, rfl, rfl, rfl, rfl⟩
    obtain ⟨t', ht, hr⟩ := x.exec c { s with pending := rest }
    rw [h] at ht
    cases ht
    exact x.trans hqueue hr

end Steps

/-! ### The airtime law -/

theorem steps_air : Steps Air where
  trans := .trans
  same h := .of_eq h.heads h.airtime
  amend _ k _ _ := .modContext k _
  modLink _ l f _ := .modLink l f
  modReefer _ i f _ := .modReefer i f
  attach _ _ p _ := .takeAttach p
  retire _ _ a _ _ := .takeRetire a.handle a.ctx
  craneStart _ _ _ _ p _ hc := .takeCraneStart p (craneStartChecks_ok hc).2.2
  craneStop _ _ a _ _ := .takeCraneStop a.link a.record
  craneResume _ _ _ _ p _ hc := .takeCraneResume p hc
  cancelHandover _ l cause := .cancelHandover l cause
  takeOver _ i _ := .modReefer i _
  queuePage s _ a h q _ _ := (s.queuePage_frame h a.index q).air
  headConfig _ _ _ _ hp := .takeHeadConfig hp
  headClear _ h _ := .changeHead h _ rfl
  schedule _ h _ _ := .modHead h _ rfl rfl
  setWindow _ h w := .setWindow h w
  params s p := by
    unfold takeParams
    split <;> exact .of_eq rfl rfl
  restart _ := .takeRestart
  report _ _ k c es _ := .takeReport k c es
  uplink _ _ k c f _ _ := .onUplink k c f
  reeferReport _ i r f _ := .takeReeferReport i r f
  dozeAck _ code i r _ := .takeDozeAck code i r
  pageAnswer _ i r _ := .takePageAnswer i r
  headUp _ h := .headUp h
  syncLock _ h := .syncLock h
  syncLost _ h := .syncLost h
  lineFault _ h short := .lineFault short h
  startTimer _ h := .startTimerExpiry h
  lockWait _ h := .lockWaitExpiry h
  holdover _ h := .holdoverExpiry h
  dwell _ h := .dwellExpiry h
  cycle _ l := .cycleExpiry l
  ack _ i := .ackExpiry i
  page _ i := .pageExpiry i
  poll _ i := .pollExpiry i
  overdue _ i := .overdueExpiry i
  second _ := .secondPass
  count _ := .count
  reset _ _ := by
    obtain ⟨-, -, -, -, -, hair, -⟩ := resetMeetsEveryLaw
    exact hair

/-- Settles O6. -/
theorem everyStepKeepsTheAirtimeLaw : Obligations.EveryStepKeepsTheAirtimeLaw :=
  fun _ _ hs h => steps_air.step h hs

end Sys2Proof.Machine
end

section
/-! The requests of the terminal context table: ATTACH (R13 to R15), AMEND (R18, R19) and RETIRE (R20 to R22). -/

namespace Sys2Proof.Machine

variable {r : Request} {s t : State} {os : Options}

/-! ### ATTACH -/

theorem exec_attach_of_error {res : Result} (hp : namesPart r) (ho : carries .attach r os)
    (h : attachChecks os s = .error res) : exec (.attach r) s = .next (s.reply (replyTo .attach r res false .part [])) := by
  change execAttach r s = _
  rw [execAttach, partTarget_of_namesPart hp ho]
  dsimp only
  rw [h]
  rfl

theorem exec_attach_of_ok {p : AttachPlan} (hp : namesPart r) (ho : carries .attach r os)
    (h : attachChecks os s = .ok p) :
    exec (.attach r) s = .next ((takeAttach p s).reply (replyTo .attach r .done false .part
      (attachBody p.handle p.ctx.tag p.ctx.ext))) := by
  change execAttach r s = _
  rw [execAttach, partTarget_of_namesPart hp ho]
  dsimp only
  rw [h]
  rfl

theorem attachChecks_of_badOption (h : (os.nat .cls).bind classOf = none ∨ os.readAs .segment none segmentOrNone = none ∨
    os.readAs .pinned false pinnedOf = none) : attachChecks os s = .error .badOption := by
  unfold attachChecks
  split
  · next hc hseg hpin =>
    rw [hc, hseg, hpin] at h
    simp at h
  · rfl

/-- The context that an ATTACH creates (Table 1-2). -/
def attachContext (os : Options) (cls : Class) (seg : Option Segment) (pin : Bool) (ext : Option Nat) : Context :=
  { tag := attachTag os, cls := cls, serving := none, sector := 0, segment := seg, pinned := pin, cands := [], ext := ext,
    lastReport := none }

/-- The checks of R13 behind the values, in order. -/
theorem attachChecks_eq {cls : Class} {seg : Option Segment} {pin : Bool} (hc : (os.nat .cls).bind classOf = some cls)
    (hs : os.readAs .segment none segmentOrNone = some seg) (hp : os.readAs .pinned false pinnedOf = some pin) :
    attachChecks os s =
      if cls = .crane ∧ os.has .segment then .error .wrongClass
      else if (s.findTag (attachTag os)).isSome then .error .duplicateTag
      else if Config.contextSlots ≤ s.contexts.lowestFree then .error .tableFull
      else match freeExtension cls s with
        | none => .error .tableFull
        | some ext => .ok { handle := s.contexts.lowestFree, ctx := attachContext os cls seg pin ext } := by
  unfold attachChecks
  rw [hc, hs, hp]
  rfl

/-- Settles O26: each outcome of R13's checks, and the record created by class. -/
theorem attachCreatesTheContext : Obligations.AttachCreatesTheContext := by
  intro r s os hpart hcarries
  refine ⟨fun h => exec_attach_of_error hpart hcarries (attachChecks_of_badOption h), fun cls seg pin hc hseg hpin => ?_⟩
  have hchecks := attachChecks_eq (s := s) hc hseg hpin
  have hrefused {res : Result} (h : attachChecks os s = .error res) := exec_attach_of_error hpart hcarries h
  refine ⟨fun hcr hhas => hrefused ?_, fun hsegment => ⟨fun htag => hrefused ?_, fun htag =>
    ⟨fun hfull => hrefused ?_, fun hroom => ?_⟩⟩⟩
  · rw [hchecks, if_pos ⟨hcr, hhas⟩]
  all_goals
    have hno : ¬ (cls = .crane ∧ os.has .segment = true) := fun ⟨h1, h2⟩ => by simp [hsegment h1] at h2
    rw [if_neg hno] at hchecks
  · rw [hchecks, if_pos htag]
  all_goals rw [if_neg (by simp [htag])] at hchecks
  · rw [hchecks, if_pos (show Config.contextSlots ≤ s.contexts.lowestFree from hfull)]
  have hslots : ¬ Config.contextSlots ≤ s.contexts.lowestFree := Nat.not_le.mpr hroom
  rw [if_neg hslots] at hchecks
  refine ⟨fun hcr hfull => hrefused ?_, fun hre hfull => hrefused ?_, fun hother => ?_, fun hcr hfree => ?_, fun hre hfree => ?_⟩
  · subst hcr
    rw [hchecks, freeExtension, if_neg (show ¬ s.links.lowestFree < Config.craneLinks from Nat.not_lt.mpr hfull)]
  · subst hre
    rw [hchecks, freeExtension, if_neg (show ¬ s.reefers.lowestFree < Config.reeferRecords from Nat.not_lt.mpr hfull)]
  · have hext : freeExtension cls s = some none := by rcases hother with rfl | rfl <;> rfl
    rw [hext] at hchecks
    rw [exec_attach_of_ok hpart hcarries hchecks]
    rcases hother with rfl | rfl <;> rfl
  · subst hcr
    rw [freeExtension, if_pos (show s.links.lowestFree < Config.craneLinks from hfree)] at hchecks
    rw [exec_attach_of_ok hpart hcarries hchecks]
    rfl
  · subst hre
    rw [freeExtension, if_pos (show s.reefers.lowestFree < Config.reeferRecords from hfree)] at hchecks
    rw [exec_attach_of_ok hpart hcarries hchecks]
    rfl

/-! ### What ATTACH adds -/

/-- A new slot is a new entry between those below and those above it. -/
theorem Table.set_of_get?_none {α : Type} {m : Table α} {k : Nat} (v : α) (h : m.get? k = none) :
    ∃ a b : Table α, m = a ++ b ∧ m.set k v = a ++ (k, v) :: b := by
  induction m with
  | nil => exact ⟨[], [], rfl, rfl⟩
  | cons e m ih =>
    obtain ⟨j, w⟩ := e
    rw [Table.get?_cons] at h
    split at h
    · cases h
    · next hne =>
      obtain ⟨a, b, hm, hset⟩ := ih h
      by_cases hlt : k < j
      · exact ⟨[], (j, w) :: m, rfl, by rw [Table.set, if_pos hlt]; rfl⟩
      · exact ⟨(j, w) :: a, b, by rw [hm]; rfl, by rw [Table.set, if_neg hlt, if_neg hne, hset]; rfl⟩

theorem contexts_takeAttach (p : AttachPlan) : (takeAttach p s).contexts = s.contexts.set p.handle p.ctx := by
  unfold takeAttach
  split <;> rfl

theorem checkOptions_error {q : ReqKind} {l : List Byte} {e : Result} (h : checkOptions q l = .error e) :
    e = .badOption ∨ e = .missingOption := by
  unfold checkOptions at h
  split at h
  · cases h; exact .inl rfl
  · split at h
    · cases h; exact .inl rfl
    · repeat' split at h
      all_goals cases h
      · exact .inl rfl
      · exact .inl rfl
      · exact .inl rfl
      · exact .inr rfl

theorem partTarget_error {q : ReqKind} {e : Refused} (h : partTarget q r = .error e) :
    e.result = .badOption ∨ e.result = .missingOption := by
  unfold partTarget at h
  split at h
  · next hopts => cases h; exact checkOptions_error hopts
  · split at h
    · cases h
    · cases h; exact .inl rfl

theorem attachChecks_error {res : Result} (h : attachChecks os s = .error res) : res ≠ .done := by
  unfold attachChecks at h
  split at h
  · repeat' split at h
    all_goals cases h
    all_goals exact nofun
  · cases h; exact nofun

/-- An ATTACH answered DONE has passed its checks. -/
theorem attach_done {a : Reply} (h : exec (.attach r) s = .next t) (ha : t.replies = s.replies ++ [a])
    (hdone : a.result = .done) : ∃ os p, attachChecks os s = .ok p ∧ t.contexts = s.contexts.set p.handle p.ctx := by
  have hanswer {e : Refused} (hnext : Host.Outcome.next (refuse .attach r e s) = (.next t : Out)) : e.result = .done := by
    cases hnext
    have hreply := List.singleton_injective (List.append_cancel_left ha)
    rw [← hreply] at hdone
    exact hdone
  change execAttach r s = _ at h
  unfold execAttach at h
  split at h
  · next e he =>
    have hres := hanswer h
    rcases partTarget_error he with h | h <;> rw [h] at hres <;> cases hres
  · next os _ =>
    split at h
    · next res hres => exact absurd (hanswer h) (attachChecks_error hres)
    · next p hp =>
      cases h
      exact ⟨os, p, hp, contexts_takeAttach p⟩

/-- Settles O27: the new context stands between those below and those above its slot, and its tag is no other's. -/
theorem attachTakesTheLowestFreeSlot : Obligations.AttachTakesTheLowestFreeSlot := by
  intro r s t a htables hexec ha hdone
  obtain ⟨os, p, hp, ht⟩ := attach_done hexec ha hdone
  obtain ⟨hhandle, hroom, htag, -⟩ := attachChecks_ok hp
  have hfree : s.contexts.get? p.handle = none := hhandle ▸ Table.get?_lowestFree htables.1
  obtain ⟨below, above, hs, hset⟩ := Table.set_of_get?_none p.ctx hfree
  have hnew : ∀ e ∈ below ++ above, ¬ (e.2.tag == p.ctx.tag) = true := by
    rw [← hs]
    exact List.find?_eq_none.mp htag
  obtain ⟨hbelow, habove⟩ := List.forall_mem_append.mp hnew
  refine ⟨p.handle, p.ctx, hhandle ▸ hroom, hfree, fun j hj => Table.occupied_below_lowestFree htables.1 (hhandle ▸ hj), ?_,
    fun j hj => ?_, htag, ?_, fun tag hne => ?_, ?_⟩
  · rw [ht, Table.get?_set_self]
  · rw [ht, Table.get?_set_of_ne _ _ hj]
  · rw [State.findTag, ht, hset, List.find?_append, List.find?_eq_none.mpr hbelow]
    simp
  · rw [State.findTag, State.findTag, ht, hset, hs, List.find?_append, List.find?_append, List.find?_cons_of_neg]
    simpa using fun h => hne h.symm
  · rw [ht, hset, hs, List.length_append, List.length_cons, List.length_append, Nat.add_assoc]

/-! ### AMEND -/

section
variable {k : Nat} {c : Context} {seg : Option Segment} {pin : Bool}

theorem exec_amend_of_error {res : Result} (hn : names r s k c) (ho : carries .amend r os)
    (h : amendChecks { opts := os, handle := k, ctx := c } = .error res) :
    exec (.amend r) s = .next (s.reply (replyTo .amend r res false (.context k c.tag) [])) := by
  change execAmend r s = _
  rw [execAmend, contextTarget_of_names hn ho rfl]
  dsimp only
  rw [h]
  rfl

theorem exec_amend_of_ok (hn : names r s k c) (ho : carries .amend r os)
    (h : amendChecks { opts := os, handle := k, ctx := c } = .ok (seg, pin)) :
    exec (.amend r) s = .next ((s.modContext k fun c => { c with segment := seg, pinned := pin }).reply
      (replyTo .amend r .done false (.context k c.tag) (u16 k ++ bytes48 c.tag ++ [segmentByte seg] ++ mark pin))) := by
  change execAmend r s = _
  rw [execAmend, contextTarget_of_names hn ho rfl]
  dsimp only
  rw [h]
  rfl

theorem amendChecks_of_badOption
    (h : os.readAs .segment c.segment segmentOrNone = none ∨ os.readAs .pinned c.pinned pinnedOf = none) :
    amendChecks { opts := os, handle := k, ctx := c } = .error .badOption := by
  unfold amendChecks
  split
  · next hseg hpin =>
    dsimp only at hseg hpin
    rw [hseg, hpin] at h
    simp at h
  · rfl

/-- The checks of R18 behind the values, in order. -/
theorem amendChecks_eq (hs : os.readAs .segment c.segment segmentOrNone = some seg)
    (hp : os.readAs .pinned c.pinned pinnedOf = some pin) :
    amendChecks { opts := os, handle := k, ctx := c } =
      if os.isEmpty then .error .missingOption
      else if c.cls = .crane ∧ os.has .segment then .error .wrongClass
      else .ok (seg, pin) := by
  unfold amendChecks
  dsimp only
  rw [hs, hp]

end

/-- Settles O28. -/
theorem amendWritesSegmentAndPinned : Obligations.AmendWritesSegmentAndPinned := by
  intro r s k c os hnames hcarries
  refine ⟨fun h => exec_amend_of_error hnames hcarries (amendChecks_of_badOption h), fun seg pin hseg hpin => ?_⟩
  have hchecks := amendChecks_eq (k := k) hseg hpin
  refine ⟨fun hnil => ?_, fun hcr hhas => ?_, fun hsome hsegment => ?_⟩
  · exact exec_amend_of_error hnames hcarries (by rw [hchecks, if_pos (by rw [hnil]; rfl)])
  · have hne : ¬ os.isEmpty = true := fun h => by
      rw [List.isEmpty_iff.mp h] at hhas
      cases hhas
    exact exec_amend_of_error hnames hcarries (by rw [hchecks, if_neg hne, if_pos ⟨hcr, hhas⟩])
  · have hno : ¬ (c.cls = .crane ∧ os.has .segment = true) := fun ⟨h1, h2⟩ => by simp [hsegment h1] at h2
    exact exec_amend_of_ok hnames hcarries (by rw [hchecks, if_neg (by simpa using hsome), if_neg hno])

/-! ### RETIRE -/

section
variable {k : Nat} {c : Context}

theorem exec_retire_of_blocked (hn : names r s k c) (hb : bare r) (h : s.retireBlocked c = true) :
    exec (.retire r) s = .next (s.reply (replyTo .retire r .wrongState false (.context k c.tag) [])) := by
  change execRetire r s = _
  rw [execRetire, contextTarget_of_names hn (carries_bare hb rfl) rfl]
  dsimp only
  rw [h]
  rfl

theorem exec_retire_of_free (hn : names r s k c) (hb : bare r) (h : s.retireBlocked c = false) :
    exec (.retire r) s = .next ((takeRetire k c s).reply
      (replyTo .retire r .done false (.context k c.tag) (u16 k ++ bytes48 c.tag))) := by
  change execRetire r s = _
  rw [execRetire, contextTarget_of_names hn (carries_bare hb rfl) rfl]
  dsimp only
  rw [h]
  rfl

/-- The DROP of a retiring context goes to its serving head, if any (R20). -/
def Context.drops (c : Context) : List Order :=
  match c.serving with
  | some h => [Order.drop h c.tag]
  | none => []

theorem retiring_eq : s.retiring k c =
    { s.endExtensionWork k c with
      orders := (s.endExtensionWork k c).orders ++ c.drops
      notices := (s.endExtensionWork k c).notices.filter fun n => n.subject != Subject.context k } := by
  unfold State.retiring Context.drops
  cases c.serving with
  | none => simp
  | some h => rfl

end

/-- Settles O29: by class, and of a CRANE by the state of its link. -/
theorem retireRemovesTheContext : Obligations.RetireRemovesTheContext := by
  intro r s k c hbare hnames
  refine ⟨fun hcls => ?_, fun l x hcr hext hx => ⟨fun hidle => ?_, fun hne => ?_⟩⟩
  · have hblocked : s.retireBlocked c = false := by
      rcases hcls with h | h <;> simp only [State.retireBlocked, h]
    have hwork : s.endExtensionWork k c = s := by
      rcases hcls with h | h <;> simp only [State.endExtensionWork, h]
    have hfree (t : State) : t.freeContext k c = { t with contexts := t.contexts.erase k } := by
      rcases hcls with h | h <;> simp only [State.freeContext, h]
    rw [exec_retire_of_free hnames hbare hblocked, takeRetire_eq, retiring_eq, hwork, hfree]
    rfl
  · have hblocked : s.retireBlocked c = false := by simp [State.retireBlocked, hcr, hext, hx, hidle]
    have hwork : s.endExtensionWork k c = s.endAll (InFlight.isFor .sideDown (.context k)) .retired := by
      simp only [State.endExtensionWork, hcr, hext]
    have hfree (t : State) :
        t.freeContext k c = { t with links := t.links.erase l, contexts := t.contexts.erase k } := by
      simp only [State.freeContext, hcr, hext]
    rw [exec_retire_of_free hnames hbare hblocked, takeRetire_eq, retiring_eq, hwork, hfree]
    rfl
  · exact exec_retire_of_blocked hnames hbare (by simp [State.retireBlocked, hcr, hext, hx, hne])

end Sys2Proof.Machine
end

section
/-! The wait-list pass (R59, R147) and the fit (R57): whom a pass polls, and what else it leaves. -/

namespace Sys2Proof.Machine

variable {s t u : State} {h : HeadIx}

/-! ### A pass polls through its head alone -/

theorem setPollWait_pollWait (s : State) (h : HeadIx) : s.setPollWait h (s.pollWait h) = s := by
  unfold State.setPollWait State.pollWait
  rw [bank_set_get]

theorem PolledThrough.refl (s : State) (h : HeadIx) : PolledThrough h s s := by
  refine ⟨⟨[], rfl, fun _ _ => rfl, ?_⟩, fun _ => rfl, Nat.le_max_left _ _, ?_⟩
  · simp
  · rw [State.setAccount_account, setPollWait_pollWait]

/-- The frame of a pass, field by field. -/
theorem PolledThrough.fields (p : PolledThrough h s t) :
    t.heads = s.heads ∧ t.contexts = s.contexts ∧ (t.account h).wg = (s.account h).wg ∧
      (∀ g, g ≠ h → t.account g = s.account g) ∧ ∀ g, g ≠ h → t.pollWait g = s.pollWait g := by
  obtain ⟨-, -, -, ht⟩ := p
  refine ⟨by rw [ht]; rfl, by rw [ht]; rfl, ?_, fun g hne => ?_, fun g hne => ?_⟩
  · rw [ht]
    show ((s.setAccount h _).account h).wg = _
    rw [State.account_setAccount_self]
  · rw [ht]
    exact State.account_setAccount_of_ne _ _ hne
  · rw [ht]
    exact State.pollWait_setPollWait_of_ne _ _ hne

theorem PolledThrough.account (p : PolledThrough h s t) :
    t.account h = { s.account h with polls := (t.account h).polls } := by
  obtain ⟨-, -, -, ht⟩ := p
  conv_lhs => rw [ht]
  exact State.account_setAccount_self s h _

/-- The contexts of the records are found as before. -/
theorem PolledThrough.reeferContext (p : PolledThrough h s t) (i : Nat) : t.reeferContext i = s.reeferContext i := by
  obtain ⟨-, hcontexts, -⟩ := p.fields
  obtain ⟨-, hrest, -, -⟩ := p
  have howner : (t.reefers.get? i).map (·.owner) = (s.reefers.get? i).map (·.owner) := by
    have := congrArg (Option.map Reefer.owner) (hrest i)
    simpa only [Option.map_map, Function.comp_def] using this
  have hbind (v : State) : v.reeferContext i = ((v.reefers.get? i).map (·.owner)).bind v.contexts.get? := by
    rw [State.reeferContext, Option.bind_map]
    rfl
  rw [hbind, hbind, howner, hcontexts]

/-- At most the polls, the wait list, the orders and the reefer records of a pass. -/
def PassFrame (h : HeadIx) (s t : State) : Prop :=
  ∃ n q o rs, t = { (s.setAccount h { s.account h with polls := n }).setPollWait h q with orders := o, reefers := rs }

theorem passFrame_iff : PassFrame h s t ↔
    t = { (s.setAccount h { s.account h with polls := (t.account h).polls }).setPollWait h (t.pollWait h) with
      orders := t.orders, reefers := t.reefers } := by
  refine ⟨?_, fun e => ⟨_, _, _, _, e⟩⟩
  rintro ⟨n, q, o, rs, rfl⟩
  have hacc : (({ (s.setAccount h { s.account h with polls := n }).setPollWait h q with orders := o, reefers := rs } :
      State).account h).polls = n := by
    show ((s.setAccount h { s.account h with polls := n }).account h).polls = n
    rw [State.account_setAccount_self]
  have hwait : ({ (s.setAccount h { s.account h with polls := n }).setPollWait h q with orders := o, reefers := rs } :
      State).pollWait h = q :=
    State.pollWait_setPollWait_self _ h q
  rw [hacc, hwait]

theorem PassFrame.trans (a : PassFrame h s t) (b : PassFrame h t u) : PassFrame h s u := by
  obtain ⟨n, q, o, rs, rfl⟩ := a
  obtain ⟨n', q', o', rs', rfl⟩ := b
  refine ⟨n', q', o', rs', ?_⟩
  have hacc : ({ (s.setAccount h { s.account h with polls := n }).setPollWait h q with orders := o, reefers := rs } :
      State).account h = { s.account h with polls := n } := State.account_setAccount_self _ h _
  rw [hacc]
  simp [State.setAccount, State.setPollWait]

theorem PolledThrough.trans (a : PolledThrough h s t) (b : PolledThrough h t u) : PolledThrough h s u := by
  have hctx := a.reeferContext
  obtain ⟨-, -, hwg, -, -⟩ := a.fields
  obtain ⟨⟨sent, hwait, hsame, horders, hpolls⟩, hrest, hle, hframe⟩ := a
  obtain ⟨⟨sent', hwait', hsame', horders', hpolls'⟩, hrest', hle', hframe'⟩ := b
  refine ⟨⟨sent ++ sent', ?_, fun i hi => ?_, ?_, ?_⟩, fun i => (hrest' i).trans (hrest i), ?_,
    passFrame_iff.mp ((passFrame_iff.mpr hframe).trans (passFrame_iff.mpr hframe'))⟩
  · rw [hwait, hwait', List.append_assoc]
  · rw [List.mem_append, not_or] at hi
    exact (hsame' i hi.2).trans (hsame i hi.1)
  · simp only [hctx] at horders'
    rw [horders', horders, List.filterMap_append, List.map_append, List.append_assoc]
  · simp only [hctx] at hpolls'
    rw [hpolls', hpolls, List.filterMap_append, List.length_append, Nat.add_assoc]
  · rw [hwg] at hle'
    omega

/-- One poll of a pass. -/
theorem polledThrough_sendPoll {i : Nat} {rest : List Nat} (hq : s.pollWait h = i :: rest)
    (hc : s.creditGiven h = true) : PolledThrough h s ((s.setPollWait h rest).sendPoll h i) := by
  have hlt : (s.account h).polls < (s.account h).wg := by
    have := (Bool.and_eq_true_iff.mp hc).2
    simpa using this
  have hwait : (s.setPollWait h rest).pollWait h = rest := State.pollWait_setPollWait_self _ h rest
  unfold State.sendPoll
  cases hctx : s.reeferContext i with
  | none =>
    have hctx' : (s.setPollWait h rest).reeferContext i = none := hctx
    rw [hctx']
    refine ⟨⟨[i], ?_, fun _ _ => rfl, ?_⟩, fun _ => rfl, Nat.le_max_left _ _, passFrame_iff.mp ⟨_, rest, s.orders,
      s.reefers, by rw [State.setAccount_account]; rfl⟩⟩
    · rw [hq]
      exact congrArg (i :: ·) hwait.symm
    · simp [hctx]
  | some c =>
    have hctx' : (s.setPollWait h rest).reeferContext i = some c := hctx
    rw [hctx']
    dsimp only
    have hacc : ((((s.setPollWait h rest).modAccount h fun a => { a with polls := a.polls + 1 }).modReefer i fun r =>
        { r with poll := .outstanding h (s.setPollWait h rest).settings.pollLimit }).order (.poll h c.tag)).account h =
        { s.account h with polls := (s.account h).polls + 1 } := State.account_setAccount_self _ h _
    refine ⟨⟨[i], ?_, fun j hj => ?_, ?_, ?_⟩, fun j => ?_, ?_, passFrame_iff.mp ⟨_, rest, _, _, rfl⟩⟩
    · rw [hq]
      exact congrArg (i :: ·) hwait.symm
    · rw [State.order_reefers, State.modReefer_reefers, Table.get?_modify_of_ne _ _ (by simpa using hj)]
      rfl
    · simp [hctx]
    · rw [hacc]
      simp [hctx]
    · rw [State.order_reefers, State.modReefer_reefers, Table.get?_modify]
      split
      · rw [Option.map_map]
        rfl
      · rfl
    · rw [hacc]
      exact Nat.le_trans hlt (Nat.le_max_right _ _)

theorem polledThrough_waitPassFrom (h : HeadIx) (q : List Nat) (s : State) (hq : s.pollWait h = q) :
    PolledThrough h s (waitPassFrom h q s) := by
  induction q generalizing s with
  | nil => exact .refl s h
  | cons i rest ih =>
    unfold waitPassFrom
    split
    · next hc =>
      refine (polledThrough_sendPoll hq hc).trans (ih _ ?_)
      unfold State.sendPoll
      split <;> exact State.pollWait_setPollWait_self _ h rest
    · exact .refl s h

/-- A pass polls through its head, and does nothing else. -/
theorem polledThrough_waitPass (s : State) (h : HeadIx) : PolledThrough h s (s.waitPass h) :=
  polledThrough_waitPassFrom h _ s rfl

/-! ### Whom a pass polls -/

/-- The polls that the credits of a head allow to those who wait. -/
def State.passLength (s : State) (h : HeadIx) : Nat :=
  if (s.head h).state.inService then min (s.pollWait h).length ((s.account h).wg - (s.account h).polls) else 0

theorem passLength_eq_zero (hc : s.creditGiven h = false) : s.passLength h = 0 := by
  unfold State.passLength
  split
  · next hserv =>
    have : ¬ (s.account h).polls < (s.account h).wg := by
      simpa [State.creditGiven, hserv] using hc
    omega
  · rfl

theorem passLength_eq_succ {i : Nat} {rest : List Nat} (hq : s.pollWait h = i :: rest) (hc : s.creditGiven h = true) :
    s.passLength h = min rest.length ((s.account h).wg - ((s.account h).polls + 1)) + 1 := by
  obtain ⟨hserv, hlt⟩ := Bool.and_eq_true_iff.mp hc
  have hlt : (s.account h).polls < (s.account h).wg := by simpa using hlt
  rw [State.passLength, if_pos hserv, hq, List.length_cons]
  omega

/-- One poll sent to a reefer whose context is known. -/
theorem sendPoll_eq {i : Nat} {c : Context} (hctx : s.reeferContext i = some c) :
    s.sendPoll h i = ((s.setAccount h { s.account h with polls := (s.account h).polls + 1 }).modReefer i fun r =>
      { r with poll := .outstanding h s.settings.pollLimit }).order (.poll h c.tag) := by
  unfold State.sendPoll
  rw [hctx]
  rfl

theorem waitPassFrom_spec (h : HeadIx) (q : List Nat) (s : State) (hq : s.pollWait h = q) (hnodup : q.Nodup)
    (hctx : ∀ i ∈ q, (s.reeferContext i).isSome) :
    (waitPassFrom h q s).pollWait h = q.drop (s.passLength h) ∧
      ((waitPassFrom h q s).account h).polls = (s.account h).polls + s.passLength h ∧
      (waitPassFrom h q s).orders = s.orders ++ (q.take (s.passLength h)).filterMap (fun i =>
        (s.reeferContext i).map fun c => Order.poll h c.tag) ∧
      (∀ i, i ∉ q → (waitPassFrom h q s).reefers.get? i = s.reefers.get? i) ∧
      ∀ i ∈ q.take (s.passLength h), (waitPassFrom h q s).reefers.get? i = (s.reefers.get? i).map fun r =>
        { r with poll := .outstanding h s.settings.pollLimit } := by
  induction q generalizing s with
  | nil =>
    have hzero : s.passLength h = 0 := by
      unfold State.passLength
      rw [hq]
      split <;> simp
    rw [hzero]
    exact ⟨hq, rfl, (List.append_nil _).symm, fun _ _ => rfl, nofun⟩
  | cons i rest ih =>
    unfold waitPassFrom
    cases hc : s.creditGiven h with
    | false =>
      rw [passLength_eq_zero hc]
      exact ⟨hq, rfl, (List.append_nil _).symm, fun _ _ => rfl, nofun⟩
    | true =>
      obtain ⟨c, hci⟩ := Option.isSome_iff_exists.mp (hctx i List.mem_cons_self)
      obtain ⟨hnew, hnodup'⟩ := List.nodup_cons.mp hnodup
      have hsent := polledThrough_sendPoll hq hc
      have hctx' := hsent.reeferContext
      have hsend : (s.setPollWait h rest).sendPoll h i =
          (((s.setPollWait h rest).setAccount h { s.account h with polls := (s.account h).polls + 1 }).modReefer i fun r =>
            { r with poll := .outstanding h s.settings.pollLimit }).order (.poll h c.tag) := sendPoll_eq hci
      generalize ht : (s.setPollWait h rest).sendPoll h i = t at hsent hctx' hsend
      have hwait : t.pollWait h = rest := by rw [hsend]; exact State.pollWait_setPollWait_self _ h rest
      have hacc : t.account h = { s.account h with polls := (s.account h).polls + 1 } := by
        rw [hsend]; exact State.account_setAccount_self _ h _
      have hrecords : t.reefers = s.reefers.modify i fun r => { r with poll := .outstanding h s.settings.pollLimit } := by
        rw [hsend]; rfl
      have horders : t.orders = s.orders ++ [Order.poll h c.tag] := by rw [hsend]; rfl
      have hsettings : t.settings = s.settings := by rw [hsend]; rfl
      have hserv : (t.head h).state.inService = true := by
        have : t.head h = s.head h := by rw [hsend]; rfl
        rw [this]
        exact (Bool.and_eq_true_iff.mp hc).1
      have hlen : t.passLength h = min rest.length ((s.account h).wg - ((s.account h).polls + 1)) := by
        rw [State.passLength, if_pos hserv, hwait, hacc]
      have hlen' : s.passLength h = t.passLength h + 1 := by rw [hlen]; exact passLength_eq_succ hq hc
      obtain ⟨hw, hp, ho, hout, hin⟩ := ih t hwait hnodup' fun j hj => by
        rw [hctx']
        exact hctx j (List.mem_cons_of_mem _ hj)
      rw [if_pos rfl, hlen']
      refine ⟨hw, ?_, ?_, fun j hj => ?_, fun j hj => ?_⟩
      · rw [hp, hacc, Nat.add_right_comm, Nat.add_assoc]
      · rw [ho, horders, List.take_succ_cons, List.filterMap_cons, hci, List.append_assoc]
        simp only [hctx']
        rfl
      · have hne : j ≠ i := List.ne_of_not_mem_cons hj
        rw [hout j (List.not_mem_of_not_mem_cons hj), hrecords, Table.get?_modify_of_ne _ _ hne]
      · rw [List.take_succ_cons] at hj
        rcases List.mem_cons.mp hj with rfl | hj
        · rw [hout j hnew, hrecords, Table.get?_modify_self]
        · have hne : j ≠ i := fun e => hnew (e ▸ List.mem_of_mem_take hj)
          rw [hin j hj, hrecords, Table.get?_modify_of_ne _ _ hne, hsettings]

/-- Settles O42, by the induction on the wait list. -/
theorem waitListPassPollsTheOldest : Obligations.WaitListPassPollsTheOldest := by
  intro s h hnodup hctx
  obtain ⟨hw, hp, ho, -, hin⟩ := waitPassFrom_spec h _ s rfl hnodup hctx
  exact ⟨polledThrough_waitPass s h, hw, hp, ho, hin⟩

/-! ### The fit -/

/-- A fit writes the granted window, and then the pass runs when it grew (R57). -/
theorem fit_eq (s : State) (h : HeadIx) :
    s.fit h = (s.setAccount h { s.account h with wg := grantedWindow (s.head h) (s.account h) }).passIfGrown h
      (s.account h).wg := by
  unfold State.passIfGrown
  rw [State.account_setAccount_self]
  rfl

theorem polledThrough_passIfGrown (s : State) (h : HeadIx) (old : Nat) : PolledThrough h s (s.passIfGrown h old) := by
  unfold State.passIfGrown
  split
  · exact polledThrough_waitPass s h
  · exact .refl s h

end Sys2Proof.Machine
end

section
/-! The requests and events of heads: HEAD_CLEAR (R33), SWEEP_SET (R42, R43), POLL_WINDOW_SET (R64), HEAD_UP (R27) and the
ways to ACTIVE (R28, R30). -/

namespace Sys2Proof.Machine

variable {r : Request} {s t : State} {h : HeadIx} {os : Options}

theorem clampOpt_eq (lo hi held : Nat) (o : Option Nat) :
    clampOpt lo hi held o = { value := settingOf lo hi held o, clamped := outOf lo hi o } := by
  cases o <;> rfl

/-! ### Changes of a head's state -/

/-- A head whose record is written anew, with HEAD_STATE posted and the window fitted (R34, R57, R63). -/
def State.movedHead (s : State) (h : HeadIx) (x : Head) : State :=
  (((s.setHead h x).post (.head h) (.headState x.state x.cause x.effective)).setAccount h
    { s.account h with wg := grantedWindow x (s.account h) }).passIfGrown h (s.account h).wg

theorem changeHead_eq {f : Head → Head} (hkeep : ¬ ((s.head h).state = .active ∧ (f (s.head h)).state ≠ .active)) :
    s.changeHead h f = s.movedHead h (f (s.head h)) := by
  have hhead : ((s.modHead h f).postHeadState h).head h = f (s.head h) := by
    rw [State.postHeadState, State.head_post, State.modHead_eq, State.head_setHead_self]
  have hacc : ((s.modHead h f).postHeadState h).account h = s.account h := by
    rw [State.postHeadState, State.account_post, State.account_modHead]
  unfold State.changeHead
  dsimp only
  rw [hhead, if_neg hkeep, fit_eq, hhead, hacc, State.movedHead, State.postHeadState, State.modHead_eq,
    State.head_setHead_self]

/-! ### HEAD_CLEAR -/

/-- Settles O36. -/
theorem headClearReturnsTheHeadToOffline : Obligations.HeadClearReturnsTheHeadToOffline := by
  intro r h s hbare hnames
  have hexec : exec (.headClear r) s = execHeadClear r s := rfl
  rw [execHeadClear, headTarget_of_namesHead hnames (carries_bare hbare rfl)] at hexec
  dsimp only at hexec
  refine ⟨fun hfault => ?_, fun hne => ?_⟩
  · rw [hexec, if_pos hfault, changeHead_eq (by simp [hfault]), State.movedHead]
    have hzero : grantedWindow { s.head h with state := .offline } (s.account h) = 0 := by
      simp [grantedWindow, Head.effective]
    rw [hzero, State.passIfGrown, State.account_setAccount_self, if_neg (Nat.not_lt_zero _)]
    rfl
  · rw [hexec, if_neg hne]
    rfl

/-! ### POLL_WINDOW_SET -/

/-- Settles O41. -/
theorem pollWindowSetFitsTheWindow : Obligations.PollWindowSetFitsTheWindow := by
  intro r h s os hnames hcarries
  have hexec : exec (.pollWindowSet r) s = execPollWindowSet r s := rfl
  rw [execPollWindowSet, headTarget_of_namesHead hnames hcarries] at hexec
  dsimp only at hexec
  rw [hexec, clampOpt_eq]
  dsimp only
  have hset : setWindow h (settingOf 0 240 (s.account h).wreq (os.nat .window)) s =
      (s.setAccount h { s.account h with
        wreq := settingOf 0 240 (s.account h).wreq (os.nat .window)
        wg := min (settingOf 0 240 (s.account h).wreq (os.nat .window))
          ((s.head h).effective - (s.account h).standing - (s.account h).prepared) }).passIfGrown h (s.account h).wg := by
    rw [setWindow, fit_eq, State.modAccount_eq, State.account_setAccount_self, State.setAccount_setAccount]
    rfl
  rw [hset]
  have hacc := (polledThrough_passIfGrown (s.setAccount h { s.account h with
        wreq := settingOf 0 240 (s.account h).wreq (os.nat .window)
        wg := min (settingOf 0 240 (s.account h).wreq (os.nat .window))
          ((s.head h).effective - (s.account h).standing - (s.account h).prepared) }) h (s.account h).wg).account
  rw [State.account_setAccount_self] at hacc
  rw [hacc]
  rfl

/-! ### SWEEP_SET -/

/-- Settles O40: by the value list, the in-flight list and the state of the head. -/
theorem sweepSetStagesOrApplies : Obligations.SweepSetStagesOrApplies := by
  intro r h s os hnames hcarries
  have hexec : exec (.sweepSet r) s = execSweepSet r s := rfl
  rw [execSweepSet, headTarget_of_namesHead hnames hcarries] at hexec
  dsimp only at hexec
  refine ⟨fun hslots => ?_, fun xs hslots => ?_⟩
  · rw [hexec, hslots]
    rfl
  rw [hslots] at hexec
  dsimp only at hexec
  have hplan : sweepPlan os xs (s.head h).active =
      { value :=
          { slots := padSlots xs, count := settingOf 1 16 xs.length (os.nat .count),
            dwell := settingOf 1 255 (s.head h).active.dwell (os.nat .dwell) },
        clamped := outOf 1 16 (os.nat .count) || outOf 1 255 (os.nat .dwell) } := by
    rw [sweepPlan, clampOpt_eq, clampOpt_eq]
  rw [hplan] at hexec
  refine ⟨fun hfull => ?_, fun hroom hserv => ?_, fun hroom hserv hstaged => ?_, fun e hroom hserv hstaged hfind => ?_⟩
  · rw [hexec, if_pos (show s.inflightFull = true from decide_eq_true hfull)]
    rfl
  all_goals
    have hfull : ¬ s.inflightFull = true := fun hf => absurd hroom (Nat.not_lt.mpr (of_decide_eq_true hf))
    rw [hexec, if_neg hfull]
  · rw [if_neg (by simp [hserv])]
    rfl
  · rw [if_pos hserv, State.stage, if_neg (by simp [hstaged])]
    rfl
  · have hentry := List.find?_some hfind
    obtain ⟨hkind, hsubject⟩ := Bool.and_eq_true_iff.mp hentry
    have hreply : s.endReply e .replaced =
        { reqTag := e.reqTag, kind := 0x13, result := .replaced, clamped := e.clamped, identity := .head h, body := [] } := by
      rw [State.endReply, eq_of_beq hkind, eq_of_beq hsubject]
      rfl
    rw [if_pos hserv, State.stage, if_pos hstaged, State.endOldest_of_find? _ hfind, hreply]
    rfl

/-! ### To ACTIVE -/

theorem enterActive_eq (hstate : (s.head h).state ≠ .active) :
    s.enterActive h = s.movedHead h
      { s.head h with state := .active, locked := true, startTimer := none, lockTimer := none, holdoverTimer := none } :=
  changeHead_eq fun hkeep => hstate hkeep.1

/-- Settles O33. -/
theorem lockAndStartTimerGiveActive : Obligations.LockAndStartTimerGiveActive := by
  intro b h s hb
  have hlock : exec (.syncLock b) s = .next (syncLock h s) := exec_syncLock_eq hb s
  have htimer : exec (.startTimerExpiry h) s = .next (s.startTimerExpiry h) := rfl
  rw [hlock, htimer]
  refine ⟨fun hs hl ht => ?_, fun hs hl ht => ?_, fun hs ht hl => ?_, fun hs ht hl => ?_, fun hs => ?_⟩
  · rw [syncLock, hs]
    dsimp only
    rw [if_neg (by simp [hl]), if_pos ht, enterActive_eq (by simp [hs])]
    rfl
  · rw [syncLock, hs]
    dsimp only
    rw [if_neg (by simp [hl]), if_neg ht, ← hs]
    rfl
  · rw [State.startTimerExpiry, if_pos ⟨hs, ht⟩, if_pos hl, enterActive_eq (by simp [hs])]
    rfl
  · rw [State.startTimerExpiry, if_pos ⟨hs, ht⟩, if_neg (by simp [hl])]
    rfl
  · rw [syncLock, hs]
    dsimp only
    rw [enterActive_eq (by simp [hs])]
    rfl

end Sys2Proof.Machine
end

section
/-! Pages sent at a slot entry (R40, R151), and HEAD_UP (R27). -/

namespace Sys2Proof.Machine

variable {s t u : State} {h : HeadIx}

/-! ### Frames of page and poll states -/

theorem PagesAndPollsOnly.refl (s : State) : PagesAndPollsOnly s s := fun _ => rfl

theorem PagesAndPollsOnly.trans (a : PagesAndPollsOnly s t) (b : PagesAndPollsOnly t u) : PagesAndPollsOnly s u :=
  fun i => (b i).trans (a i)

theorem PagesAndPollsOnly.of_reefers (e : t.reefers = s.reefers) : PagesAndPollsOnly s t := fun i => by rw [e]

theorem pagesAndPollsOnly_modify {i : Nat} {f : Reefer → Reefer} (e : t.reefers = s.reefers.modify i f)
    (hf : ∀ r, ({ f r with page := none, poll := .none } : Reefer) = { r with page := none, poll := .none }) :
    PagesAndPollsOnly s t := by
  intro j
  rw [e, Table.get?_modify]
  split
  · rw [Option.map_map]
    exact congrArg (Option.map · _) (funext hf)
  · rfl

theorem PolledThrough.pagesAndPolls (p : PolledThrough h s t) : PagesAndPollsOnly s t := by
  obtain ⟨-, hrest, -, -⟩ := p
  intro i
  have := congrArg (Option.map fun r : Reefer => { r with page := none }) (hrest i)
  simpa only [Option.map_map, Function.comp_def] using this

theorem PolledThrough.polls_sent (p : PolledThrough h s t) :
    ∃ sent, t.orders = s.orders ++ sent ∧ ∀ o ∈ sent, ∃ tag, o = Order.poll h tag := by
  obtain ⟨⟨ls, -, -, horders, -⟩, -⟩ := p
  refine ⟨_, horders, fun o ho => ?_⟩
  obtain ⟨tag, -, rfl⟩ := List.mem_map.mp ho
  exact ⟨tag, rfl⟩

/-! ### Sending pages -/

/-- Pages sent through one head: PAGE orders and page states, and nothing else. -/
structure PagesSent (h : HeadIx) (s t : State) : Prop where
  orders : ∃ sent, t.orders = s.orders ++ sent ∧ ∀ o ∈ sent, ∃ tag, o = Order.page h tag
  records : PagesAndPollsOnly s t
  frame : SendFrame s t

theorem PagesSent.refl (s : State) (h : HeadIx) : PagesSent h s s :=
  ⟨⟨[], (List.append_nil _).symm, nofun⟩, .refl s, .refl s⟩

theorem PagesSent.trans (a : PagesSent h s t) (b : PagesSent h t u) : PagesSent h s u := by
  obtain ⟨⟨p, hp, hpages⟩, hrec, hframe⟩ := a
  obtain ⟨⟨q, hq, hpages'⟩, hrec', hframe'⟩ := b
  refine ⟨⟨p ++ q, by rw [hq, hp, List.append_assoc], fun o ho => ?_⟩, hrec.trans hrec', hframe.trans hframe'⟩
  rcases List.mem_append.mp ho with ho | ho
  · exact hpages o ho
  · exact hpages' o ho

/-- The record once its page is sent (R151). -/
def Reefer.pageSent (limit : Nat) (r : Reefer) : Reefer :=
  { r with page := r.page.map fun p => { p with phase := .sent limit } }

theorem sendPage_eq {i : Nat} {c : Context} (hc : s.reeferContext i = some c) :
    s.sendPage h i =
      { s with
        orders := s.orders ++ [.page h c.tag]
        reefers := s.reefers.modify i (Reefer.pageSent s.settings.pageLimit) } := by
  unfold State.sendPage
  rw [hc]
  rfl

theorem pagesSent_sendPage (s : State) (h : HeadIx) (i : Nat) : PagesSent h s (s.sendPage h i) := by
  cases hc : s.reeferContext i with
  | none =>
    rw [State.sendPage, hc]
    exact .refl s h
  | some c =>
    have heq := sendPage_eq (h := h) hc
    refine ⟨⟨[.page h c.tag], by rw [heq], fun o ho => ⟨c.tag, List.mem_singleton.mp ho⟩⟩, ?_, s.sendPage_frame h i⟩
    exact pagesAndPollsOnly_modify (f := Reefer.pageSent s.settings.pageLimit) (by rw [heq]) fun _ => rfl

theorem pagesSent_releaseFrom (h : HeadIx) (sec : Sector) (q : List Nat) (s : State) :
    PagesSent h s (releaseFrom h sec q s) := by
  induction q generalizing s with
  | nil => exact .refl s h
  | cons i rest ih =>
    unfold releaseFrom
    split
    · exact (pagesSent_sendPage s h i).trans (ih _)
    · exact ih s

theorem pagesSent_releasePages (s : State) (h : HeadIx) (sec : Sector) : PagesSent h s (s.releasePages h sec) :=
  pagesSent_releaseFrom h sec _ s

/-! ### Whose pages a slot entry sends -/

theorem suits_iff (s : State) (i : Nat) (sec : Sector) :
    s.suits i sec = true ↔ ∃ r c p, s.reefers.get? i = some r ∧ s.contexts.get? r.owner = some c ∧
      r.page = some p ∧ p.phase = .slotWait ∧ (r.doze = .light ∨ r.doze = .deep ∧ c.sector = sec) := by
  unfold State.suits State.reeferContext
  cases hr : s.reefers.get? i with
  | none => simp
  | some r =>
    simp only [Option.bind_some]
    cases hc : s.contexts.get? r.owner with
    | none => simp [hc]
    | some c =>
      cases hp : r.page with
      | none => simp [hp]
      | some p => simp [hp, hc]

/-- Whether a page suits a slot depends on its record and its context alone. -/
theorem suits_congr {i : Nat} {sec : Sector} (hr : t.reefers.get? i = s.reefers.get? i) (hc : t.contexts = s.contexts) :
    t.suits i sec = s.suits i sec := by
  rw [Bool.eq_iff_iff, suits_iff, suits_iff, hr, hc]

theorem SendFrame.others (e : SendFrame s t) :
    t.contexts = s.contexts ∧ t.settings = s.settings ∧ t.pageQueues = s.pageQueues ∧ t.heads = s.heads := by
  rw [e]
  exact ⟨rfl, rfl, rfl, rfl⟩

theorem sendPage_get?_of_ne {i j : Nat} (hj : j ≠ i) : (s.sendPage h i).reefers.get? j = s.reefers.get? j := by
  cases hc : s.reeferContext i with
  | none => rw [State.sendPage, hc]
  | some c =>
    rw [sendPage_eq hc]
    exact Table.get?_modify_of_ne s.reefers _ hj

theorem releaseFrom_spec (h : HeadIx) (sec : Sector) (q : List Nat) (s : State) (hq : q.Nodup) :
    (∀ i, (releaseFrom h sec q s).reefers.get? i = (s.reefers.get? i).map fun r =>
      if i ∈ q ∧ s.suits i sec = true then r.pageSent s.settings.pageLimit else r) ∧
    (releaseFrom h sec q s).orders = s.orders ++ (q.filter (s.suits · sec)).filterMap fun i =>
      (s.reeferContext i).map fun c => Order.page h c.tag := by
  induction q generalizing s with
  | nil => simp [releaseFrom]
  | cons i rest ih =>
    obtain ⟨hnew, hrest⟩ := List.nodup_cons.mp hq
    cases hs : s.suits i sec with
    | false =>
      rw [releaseFrom, hs]
      obtain ⟨hget, horders⟩ := ih s hrest
      refine ⟨fun j => ?_, ?_⟩
      · rw [if_neg Bool.false_ne_true, hget]
        by_cases hj : j = i
        · subst hj
          simp [hs]
        · simp [hj]
      · rw [if_neg Bool.false_ne_true, horders, List.filter_cons_of_neg (by simp [hs])]
    | true =>
      rw [releaseFrom, hs, if_pos rfl]
      obtain ⟨r, c, p, hr, hc, -⟩ := (suits_iff s i sec).mp hs
      have hctx : s.reeferContext i = some c := by rw [State.reeferContext, hr]; exact hc
      have heq := sendPage_eq (h := h) hctx
      have hother {j : Nat} (hj : j ≠ i) := sendPage_get?_of_ne (s := s) (h := h) hj
      obtain ⟨hcontexts, hsettings, -, -⟩ := (s.sendPage_frame h i).others
      have hne {j : Nat} (hj : j ∈ rest) : j ≠ i := fun e => hnew (e ▸ hj)
      obtain ⟨hget, horders⟩ := ih (s.sendPage h i) hrest
      refine ⟨fun j => ?_, ?_⟩
      · rw [hget, hsettings]
        by_cases hj : j = i
        · subst hj
          have hself : (s.sendPage h j).reefers.get? j = some (r.pageSent s.settings.pageLimit) := by
            rw [heq]
            show (s.reefers.modify j _).get? j = _
            rw [Table.get?_modify_self, hr]
            rfl
          simp [hself, hnew, hs, hr]
        · rw [hother hj, suits_congr (hother hj) hcontexts]
          simp [hj]
      · have hfilter : rest.filter ((s.sendPage h i).suits · sec) = rest.filter (s.suits · sec) :=
          List.filter_congr fun j hj => suits_congr (hother (hne hj)) hcontexts
        rw [horders, hfilter, List.filter_cons_of_pos (p := (s.suits · sec)) hs, List.filterMap_cons, hctx, heq]
        simp only [Option.map_some, List.append_assoc, List.singleton_append]
        congr 2
        refine List.filterMap_congr fun j hj => ?_
        rw [← heq, State.reeferContext, State.reeferContext, hother (hne (List.mem_of_mem_filter hj)), hcontexts]

/-! ### Slot entries -/

theorem enterSlot_of_sector {k : Nat} {sec : Sector} (hd : (s.head h).active.slot k = some sec) :
    s.enterSlot h k = ((s.setHead h
      { s.head h with sweep := some { slot := k, remaining := 2 * (s.head h).active.dwell } }).order
        (.beam h (some sec))).releasePages h sec := by
  unfold State.enterSlot
  dsimp only
  rw [hd]
  rfl

theorem enterSlot_of_silent {k : Nat} (hd : (s.head h).active.slot k = none) :
    s.enterSlot h k = (s.setHead h
      { s.head h with sweep := some { slot := k, remaining := 2 * (s.head h).active.dwell } }).order (.beam h none) := by
  unfold State.enterSlot
  dsimp only
  rw [hd]
  rfl

/-- Settles O38. -/
theorem slotEntrySendsTheSuitedPages : Obligations.SlotEntrySendsTheSuitedPages := by
  refine fun s h => ⟨fun k => ⟨fun sec hd => ?_, fun hd => ?_⟩, fun sec hnodup => ?_⟩
  · rw [enterSlot_of_sector hd, hd]
    rfl
  · rw [enterSlot_of_silent hd, hd]
    rfl
  · obtain ⟨hget, horders⟩ := releaseFrom_spec h sec _ s hnodup
    exact ⟨fun i => suits_iff s i sec, hget, horders, s.releasePages_frame h sec⟩

/-- A slot entry: the head's sweep, BEAM, and pages behind it. -/
theorem enterSlot_spec (s : State) (h : HeadIx) (k : Nat) :
    (s.enterSlot h k).heads = (s.setHead h
      { s.head h with sweep := some { slot := k, remaining := 2 * (s.head h).active.dwell } }).heads ∧
      PagesAndPollsOnly s (s.enterSlot h k) ∧
      (s.enterSlot h k) = { s with
        heads := (s.enterSlot h k).heads, orders := (s.enterSlot h k).orders, reefers := (s.enterSlot h k).reefers } ∧
      ∃ sent, (s.enterSlot h k).orders = s.orders ++ .beam h ((s.head h).active.slot k) :: sent ∧
        (∀ o ∈ sent, ∃ tag, o = Order.page h tag) ∧ ((s.head h).active.slot k = none → sent = []) := by
  cases hd : (s.head h).active.slot k with
  | none =>
    rw [enterSlot_of_silent hd]
    exact ⟨rfl, .of_reefers rfl, rfl, [], rfl, nofun, fun _ => rfl⟩
  | some sec =>
    rw [enterSlot_of_sector hd]
    obtain ⟨⟨sent, hsent, hpages⟩, hrec, hframe⟩ := pagesSent_releasePages ((s.setHead h
      { s.head h with sweep := some { slot := k, remaining := 2 * (s.head h).active.dwell } }).order
        (.beam h (some sec))) h sec
    refine ⟨hframe.others.2.2.2, fun i => hrec i, ?_, sent, ?_, hpages, nofun⟩
    · conv_lhs => rw [hframe]
      rw [hframe.others.2.2.2]
      rfl
    · rw [hsent]
      exact List.append_assoc _ _ _

/-! ### HEAD_UP -/

/-- The record of a head moved from OFFLINE to STARTING (R27). -/
def Head.startUp (x : Head) : Head :=
  { x with
    state := .starting, cause := .none, locked := false, startTimer := some x.startFrames, lockTimer := some x.lockLimit,
    holdoverTimer := none }

theorem airtime_of_slot (s : State) (h : HeadIx) (k : Nat) : (s.enterSlot h k).airtime = s.airtime := by
  obtain ⟨-, -, hframe, -⟩ := enterSlot_spec s h k
  rw [hframe]

theorem PassFrame.others (p : PassFrame h s t) :
    t = { s with airtime := t.airtime, pollWaits := t.pollWaits, orders := t.orders, reefers := t.reefers } := by
  obtain ⟨n, q, o, rs, rfl⟩ := p
  rfl

theorem PolledThrough.passFrame (p : PolledThrough h s t) : PassFrame h s t := by
  obtain ⟨-, -, -, hframe⟩ := p
  exact passFrame_iff.mpr hframe

/-- At most what the start of a head touches: heads, accounts, notices with the overflow flag, orders, reefer records and
wait lists. -/
def HeadFrame (s t : State) : Prop :=
  t =
    { s with
      heads := t.heads, airtime := t.airtime, notices := t.notices, overflow := t.overflow, orders := t.orders,
      reefers := t.reefers, pollWaits := t.pollWaits }

theorem HeadFrame.trans (a : HeadFrame s t) (b : HeadFrame t u) : HeadFrame s u := by
  cases s; cases t; cases u
  simp only [HeadFrame, State.mk.injEq] at *
  simp_all

theorem PassFrame.headFrame (p : PassFrame h s t) : HeadFrame s t := by
  obtain ⟨n, q, o, rs, rfl⟩ := p
  rfl

theorem headFrame_setAccount (s : State) (h : HeadIx) (a : Account) : HeadFrame s (s.setAccount h a) := rfl

theorem headFrame_post (s : State) (sub : Subject) (c : NoticeContent) : HeadFrame s (s.post sub c) := by
  unfold HeadFrame
  conv_lhs => rw [s.post_frame sub c]
  rw [State.post_heads, State.post_airtime, State.post_orders, State.post_reefers, State.post_pollWaits]

theorem headFrame_enterSlot (s : State) (h : HeadIx) (k : Nat) : HeadFrame s (s.enterSlot h k) := by
  obtain ⟨-, -, hframe, -⟩ := enterSlot_spec s h k
  rw [HeadFrame, hframe]

/-- Settles O32: the slot entry, HEAD_STATE and the fit, in that order. -/
theorem headUpStartsTheHead : Obligations.HeadUpStartsTheHead := by
  intro b h s hb hoff
  let up := (s.head h).startUp
  let e := (s.setHead h up).enterSlot h 0
  let posted := e.post (.head h) (.headState .starting .none ((s.head h).capacity / 4))
  let wg := min (s.account h).wreq ((s.head h).capacity / 4 - (s.account h).standing - (s.account h).prepared)
  let written := posted.setAccount h { s.account h with wg := wg }
  obtain ⟨hheads, hrec, hframe, sent, hsent, hpages, -⟩ := enterSlot_spec (s.setHead h up) h 0
  rw [State.head_setHead_self, State.setHead_setHead] at hheads
  have hhead (g : HeadIx) : posted.head g =
      if g = h then { up with sweep := some { slot := 0, remaining := 2 * (s.head h).active.dwell } } else s.head g := by
    show (e.post _ _).head g = _
    rw [State.head_post, head_of_heads hheads, State.head_setHead]
    rfl
  have hacc (g : HeadIx) : posted.account g = s.account g := by
    show (e.post _ _).account g = _
    rw [State.account_post]
    exact account_of_airtime (airtime_of_slot (s.setHead h up) h 0) g
  have hwait (g : HeadIx) : posted.pollWait g = s.pollWait g := by
    show (e.post _ _).pollWait g = _
    have : e.pollWaits = s.pollWaits := by show ((s.setHead h up).enterSlot h 0).pollWaits = _; rw [hframe]; rfl
    rw [State.pollWait, State.post_pollWaits, this]
    rfl
  have hup : headUp h s = written.passIfGrown h (s.account h).wg := by
    rw [headUp, if_pos hoff]
    show (e.postHeadState h).fit h = _
    have hpost : e.postHeadState h = posted := by
      rw [State.postHeadState, head_of_heads hheads, State.head_setHead_self]
      rfl
    rw [hpost, fit_eq, hacc, hhead, if_pos rfl]
    rfl
  have hpolled := polledThrough_passIfGrown written h (s.account h).wg
  obtain ⟨pheads, -, pwg, pacc, pwait⟩ := hpolled.fields
  obtain ⟨polls, hpolls, hpollTags⟩ := hpolled.polls_sent
  have hself := hpolled.account
  have hframe' := hpolled.passFrame.others
  have hrec' := hpolled.pagesAndPolls
  rw [exec_headUp_eq hb, hup]
  generalize ht : written.passIfGrown h (s.account h).wg = t at *
  have hwritten : written.account h = { s.account h with wg := wg } := State.account_setAccount_self _ h _
  rw [hwritten] at hself pwg
  have horders : written.orders = s.orders ++ .beam h ((s.head h).active.slot 0) :: sent := by
    show (e.post _ _).orders = _
    rw [State.post_orders, hsent, State.head_setHead_self]
    rfl
  refine ⟨t, sent ++ polls, rfl, ht.symm, ?_, fun g hne => ⟨?_, ?_, ?_⟩, by rw [hself], by rw [hself], pwg, ?_, fun o ho => ?_,
    ?_, ?_, ?_⟩
  · rw [head_of_heads pheads]
    exact (hhead h).trans (if_pos rfl)
  · rw [head_of_heads pheads]
    exact (hhead g).trans (if_neg hne)
  · rw [pacc g hne]
    exact (State.account_setAccount_of_ne _ _ hne).trans (hacc g)
  · rw [pwait g hne]
    exact hwait g
  · rw [hpolls, horders, List.append_assoc]
    rfl
  · rcases List.mem_append.mp ho with ho | ho
    · obtain ⟨tag, rfl⟩ := hpages o ho
      exact ⟨tag, .inl rfl⟩
    · obtain ⟨tag, rfl⟩ := hpollTags o ho
      exact ⟨tag, .inr rfl⟩
  · rw [hframe']
    have hnotices : e.notices = s.notices := by show ((s.setHead h up).enterSlot h 0).notices = _; rw [hframe]; rfl
    exact State.post_congr hnotices _ _
  · intro i
    refine (hrec' i).trans (Eq.trans ?_ (hrec i))
    show (((e.post _ _).reefers.get? i).map _) = _
    rw [State.post_reefers]
  · have hset : HeadFrame s (s.setHead h up) := rfl
    have hwrite : HeadFrame posted written := headFrame_setAccount _ _ _
    exact (((hset.trans (headFrame_enterSlot _ h 0)).trans (headFrame_post e _ _)).trans hwrite).trans hpolled.passFrame.headFrame

end Sys2Proof.Machine
end

section
/-! Pages that end (R151 to R153), the dwell expiry (R41), and the RETIRE of a reefer (R21). -/

namespace Sys2Proof.Machine

variable {s t u : State} {h : HeadIx}

/-! ### One page that ends -/

/-- The record without its page. -/
def Reefer.pageEnded (r : Reefer) : Reefer := { r with page := none }

/-- The page queues without the records given. -/
def State.queuesWithout (s : State) (ls : List Nat) : Vector (List Nat) 24 :=
  mapEach (fun q => q.filter fun i => !ls.contains i) s.pageQueues

theorem mapEach_mapEach {α : Type} (f g : α → α) (v : Vector α 24) : mapEach g (mapEach f v) = mapEach (g ∘ f) v := by
  unfold mapEach
  simp

theorem get_mapEach {α β : Type} (f : α → β) (v : Vector α 24) (g : HeadIx) : (mapEach f v).get g = f (v.get g) := by
  simp [mapEach, Vector.get]
  rfl

theorem mapEach_congr {α β : Type} {f g : α → β} {v : Vector α 24} (e : ∀ h : HeadIx, f (v.get h) = g (v.get h)) :
    mapEach f v = mapEach g v := by
  refine Vector.ext fun i hi => ?_
  have := e ⟨i, hi⟩
  simpa [mapEach, Vector.get] using this

/-- The in-flight list and the replies after an entry of a list of at most one. -/
theorem endOldest_ending (s : State) (p : InFlight → Bool) (res : Result) :
    s.endOldest p res =
      { s with
        inflight := (s.ending (s.inflight, s.replies) p res).1, replies := (s.ending (s.inflight, s.replies) p res).2 } := by
  unfold State.ending
  rcases s.endOldest_cases p res with ⟨hno, e⟩ | ⟨x, hx, e⟩
  · have hfind : s.inflight.find? p = none := List.find?_eq_none.mpr fun y hy => by simp [hno y hy]
    have herase : s.inflight.eraseP p = s.inflight := List.eraseP_of_forall_not fun y hy => by simp [hno y hy]
    rw [e, hfind, herase]
    simp
  · rw [e, hx]
    rfl

/-- A pending page that ends: its record and its queue places, and its request, if it has one. -/
theorem endPage_eq {i : Nat} {r : Reefer} {p : Page} (hr : s.reefers.get? i = some r) (hp : r.page = some p) (res : Result) :
    s.endPage i res =
      { s with
        reefers := s.reefers.modify i Reefer.pageEnded, pageQueues := s.queuesWithout [i]
        inflight := (s.endings (s.pageEntry i).toList res).1, replies := (s.endings (s.pageEntry i).toList res).2 } := by
  have hqueues : mapEach (fun q => q.filter (· != i)) s.pageQueues = s.queuesWithout [i] := by
    refine mapEach_congr fun g => List.filter_congr fun j _ => ?_
    by_cases hj : j = i <;> simp [hj]
  unfold State.endPage
  rw [hr]
  dsimp only
  rw [hp]
  dsimp only
  cases howner : p.owner with
  | none =>
    have hentry : s.pageEntry i = none := by simp [State.pageEntry, hr, hp, howner]
    rw [hentry]
    dsimp only
    unfold State.leavePageQueues
    rw [hqueues]
    rfl
  | some q =>
    have hentry : s.pageEntry i = some (InFlight.is .page (.context r.owner) q) := by
      simp [State.pageEntry, hr, hp, howner]
    rw [hentry]
    dsimp only
    rw [endOldest_ending]
    unfold State.leavePageQueues
    rw [hqueues]
    rfl

theorem endPage_of_none {i : Nat} (hno : ∀ r, s.reefers.get? i = some r → r.page = none) (res : Result) :
    s.endPage i res = s := by
  unfold State.endPage
  cases hr : s.reefers.get? i with
  | none => rfl
  | some r =>
    dsimp only
    rw [hno r hr]

theorem endPage_get?_of_ne {i j : Nat} (hj : j ≠ i) (res : Result) :
    (s.endPage i res).reefers.get? j = s.reefers.get? j := by
  rcases s.endPage_cases i res with ⟨-, e⟩ | ⟨r, p, hr, hp, -⟩
  · rw [e]
  · rw [endPage_eq hr hp]
    exact Table.get?_modify_of_ne s.reefers _ hj

theorem PageFrame.others (e : PageFrame s t) :
    t.contexts = s.contexts ∧ t.heads = s.heads ∧ t.orders = s.orders ∧ t.settings = s.settings := by
  rw [e]
  exact ⟨rfl, rfl, rfl, rfl⟩

theorem pageEntry_congr {i : Nat} (e : t.reefers.get? i = s.reefers.get? i) : t.pageEntry i = s.pageEntry i := by
  unfold State.pageEntry
  rw [e]

theorem ending_congr (e : t.contexts = s.contexts) (v : List InFlight × List Reply) (p : InFlight → Bool) (res : Result) :
    t.ending v p res = s.ending v p res := by
  unfold State.ending State.endReply State.identity
  rw [e]

theorem endings_append (s : State) (p q : List (InFlight → Bool)) (res : Result) :
    s.endings (p ++ q) res = q.foldl (fun v p => s.ending v p res) (s.endings p res) := List.foldl_append

/-! ### Many pages that end -/

/-- The record in `ls` without its page, every other one as it is. -/
def Reefer.endedIn (ls : List Nat) (e : Nat × Reefer) : Nat × Reefer :=
  if ls.contains e.1 then (e.1, e.2.pageEnded) else e

theorem endPages_eq (res : Result) (q : List Nat) (s : State) (hq : q.Nodup)
    (hpages : ∀ i ∈ q, ∃ r p, s.reefers.get? i = some r ∧ r.page = some p) :
    endPages res q s =
      { s with
        reefers := s.reefers.map (Reefer.endedIn q), pageQueues := s.queuesWithout q
        inflight := (s.endings (q.filterMap s.pageEntry) res).1, replies := (s.endings (q.filterMap s.pageEntry) res).2 } := by
  induction q generalizing s with
  | nil =>
    have hqueues : s.queuesWithout [] = s.pageQueues := by
      refine Vector.ext fun i hi => ?_
      simp [State.queuesWithout, mapEach]
    have hrecords : s.reefers.map (Reefer.endedIn []) = s.reefers := by
      have : Reefer.endedIn [] = id := rfl
      rw [this, List.map_id]
    rw [hqueues, hrecords]
    rfl
  | cons i rest ih =>
    obtain ⟨hnew, hrest⟩ := List.nodup_cons.mp hq
    obtain ⟨r, p, hr, hp⟩ := hpages i List.mem_cons_self
    have hget {j : Nat} (hj : j ∈ rest) : (s.endPage i res).reefers.get? j = s.reefers.get? j :=
      endPage_get?_of_ne (fun e : j = i => hnew (e ▸ hj)) res
    have hentries : rest.filterMap (s.endPage i res).pageEntry = rest.filterMap s.pageEntry :=
      List.filterMap_congr fun j hj => pageEntry_congr (hget hj)
    have hcontexts := (s.endPage_frame i res).others.1
    rw [endPages, ih _ hrest fun j hj => by rw [hget hj]; exact hpages j (List.mem_cons_of_mem _ hj), hentries]
    have hends : (s.endPage i res).endings (rest.filterMap s.pageEntry) res =
        s.endings ((i :: rest).filterMap s.pageEntry) res := by
      have hcons : (i :: rest).filterMap s.pageEntry = (s.pageEntry i).toList ++ rest.filterMap s.pageEntry := by
        rw [List.filterMap_cons]
        cases s.pageEntry i <;> rfl
      rw [hcons, endings_append, State.endings]
      simp only [ending_congr hcontexts]
      rw [endPage_eq hr hp]
    have hrecords : (s.endPage i res).reefers.map (Reefer.endedIn rest) = s.reefers.map (Reefer.endedIn (i :: rest)) := by
      rw [endPage_eq hr hp]
      show (s.reefers.modify i Reefer.pageEnded).map _ = _
      rw [Table.modify, List.map_map]
      refine List.map_congr_left fun e _ => ?_
      by_cases he : e.1 = i
      · simp [Reefer.endedIn, he, hnew]
      · simp [Reefer.endedIn, he]
    have hqueues : (s.endPage i res).queuesWithout rest = s.queuesWithout (i :: rest) := by
      rw [endPage_eq hr hp]
      show mapEach _ (s.queuesWithout [i]) = _
      rw [State.queuesWithout, mapEach_mapEach]
      refine mapEach_congr fun g => ?_
      rw [Function.comp_apply, List.filter_filter]
      refine List.filter_congr fun j _ => ?_
      by_cases hj : j = i <;> simp [hj]
    rw [hends, hrecords, hqueues, endPage_eq hr hp]

theorem pagesAndPolls_endPage (s : State) (i : Nat) (res : Result) : PagesAndPollsOnly s (s.endPage i res) := by
  rcases s.endPage_cases i res with ⟨-, e⟩ | ⟨r, p, hr, hp, -⟩
  · rw [e]
    exact .refl s
  · rw [endPage_eq hr hp]
    exact pagesAndPollsOnly_modify (f := Reefer.pageEnded) (i := i) rfl fun _ => rfl

/-! ### The wrap -/

theorem uncoveredAtWrap_congr {i : Nat} (hr : t.reefers.get? i = s.reefers.get? i) (hc : t.contexts = s.contexts)
    (hh : t.heads = s.heads) : t.uncoveredAtWrap h i = s.uncoveredAtWrap h i := by
  unfold State.uncoveredAtWrap State.reeferContext
  rw [hr, hc, head_of_heads hh]

theorem uncoveredAtWrap_page {i : Nat} (hu : s.uncoveredAtWrap h i = true) :
    ∃ r p, s.reefers.get? i = some r ∧ r.page = some p := by
  unfold State.uncoveredAtWrap at hu
  split at hu
  · next r c hr hc =>
    cases hp : r.page with
    | none => simp [hp] at hu
    | some p => exact ⟨r, p, hr, hp⟩
  · cases hu

/-- The test of a queue at a wrap ends its uncovered pages, in queue order. -/
theorem wrapFrom_eq (h : HeadIx) (q : List Nat) (s : State) (hq : q.Nodup) :
    wrapFrom h q s = endPages .notCovered (q.filter (s.uncoveredAtWrap h)) s := by
  induction q generalizing s with
  | nil => rfl
  | cons i rest ih =>
    obtain ⟨hnew, hrest⟩ := List.nodup_cons.mp hq
    rw [wrapFrom, ih _ hrest]
    cases hu : s.uncoveredAtWrap h i with
    | false => rw [List.filter_cons_of_neg (by simp [hu]), if_neg Bool.false_ne_true]
    | true =>
      rw [List.filter_cons_of_pos (by simp [hu]), if_pos rfl, endPages]
      obtain ⟨hcontexts, hheads, -⟩ := (s.endPage_frame i .notCovered).others
      congr 1
      exact List.filter_congr fun j hj =>
        uncoveredAtWrap_congr (endPage_get?_of_ne (fun e : j = i => hnew (e ▸ hj)) _) hcontexts hheads

/-- The record of a head with its staged schedule applied (R41). -/
def Head.applied (x : Head) : Head := { x with active := x.staged.getD x.active, staged := none }

/-- The requests that the wrap of a head answers DONE. -/
def Head.sweepRequests (x : Head) (h : HeadIx) : List (InFlight → Bool) :=
  if x.staged.isSome then [InFlight.isFor .sweepSet (.head h)] else []

theorem applyStaged_eq (s : State) (h : HeadIx) :
    s.applyStaged h =
      { s.setHead h (s.head h).applied with
        inflight := (s.endings ((s.head h).sweepRequests h) .done).1
        replies := (s.endings ((s.head h).sweepRequests h) .done).2 } := by
  unfold State.applyStaged Head.sweepRequests Head.applied
  cases hs : (s.head h).staged with
  | none =>
    have hsame := Head.apply_none hs
    rw [hs] at hsame
    rw [hsame, State.setHead_head]
    rfl
  | some d =>
    dsimp only
    rw [endOldest_ending]
    rfl

theorem pagesAndPolls_wrapFrom (h : HeadIx) (q : List Nat) (s : State) : PagesAndPollsOnly s (wrapFrom h q s) := by
  induction q generalizing s with
  | nil => exact .refl s
  | cons i rest ih =>
    unfold wrapFrom
    split
    · exact (pagesAndPolls_endPage s i _).trans (ih _)
    · exact ih s

/-- At most what the wrap of a sweep touches: heads, orders, reefer records, page queues, the in-flight list, replies. -/
def SweepFrame (s t : State) : Prop :=
  t =
    { s with
      heads := t.heads, orders := t.orders, reefers := t.reefers, pageQueues := t.pageQueues, inflight := t.inflight,
      replies := t.replies }

theorem SweepFrame.trans (a : SweepFrame s t) (b : SweepFrame t u) : SweepFrame s u := by
  cases s; cases t; cases u
  simp only [SweepFrame, State.mk.injEq] at *
  simp_all

theorem PageFrame.sweep (e : PageFrame s t) : SweepFrame s t := by
  rw [SweepFrame, e]

/-- The whole test of a page queue at a wrap, the pages being those of different records. -/
theorem wrapPages_eq (s : State) (h : HeadIx) (hq : (s.pageQueue h).Nodup) :
    s.wrapPages h =
      { s with
        reefers := s.reefers.map (Reefer.endedIn ((s.pageQueue h).filter (s.uncoveredAtWrap h)))
        pageQueues := s.queuesWithout ((s.pageQueue h).filter (s.uncoveredAtWrap h))
        inflight := (s.endings (((s.pageQueue h).filter (s.uncoveredAtWrap h)).filterMap s.pageEntry) .notCovered).1
        replies := (s.endings (((s.pageQueue h).filter (s.uncoveredAtWrap h)).filterMap s.pageEntry) .notCovered).2 } := by
  rw [State.wrapPages, wrapFrom_eq h _ s hq, endPages_eq .notCovered _ s (hq.filter _)]
  intro i hi
  exact uncoveredAtWrap_page (List.mem_filter.mp hi).2

/-- The pages that the wrap of a head ends: of reefers in DEEP_DOZE, in SLOT_WAIT or SENT, not covered by the schedule that
is then the active one. -/
theorem uncovered_after_applied (s : State) (h : HeadIx) (i : Nat) :
    (s.applyStaged h).uncoveredAtWrap h i =
      (s.reefers.get? i).any fun r =>
        r.doze == .deep && r.page.any (fun q => q.phase != .ackWait) &&
          (s.contexts.get? r.owner).any fun c => !((s.head h).staged.getD (s.head h).active).covers c.sector := by
  have hhead : (s.applyStaged h).head h = (s.head h).applied := by
    rw [applyStaged_eq]
    exact State.head_setHead_self s h _
  have hrecords : (s.applyStaged h).reefers = s.reefers := by rw [applyStaged_eq]; rfl
  have hcontexts : (s.applyStaged h).contexts = s.contexts := by rw [applyStaged_eq]; rfl
  unfold State.uncoveredAtWrap State.reeferContext
  rw [hhead, hrecords, hcontexts]
  cases s.reefers.get? i with
  | none => rfl
  | some r =>
    rw [Option.bind_some]
    cases hc : s.contexts.get? r.owner with
    | none => simp [hc]
    | some c => cases hp : r.page <;> simp [hp, hc, Head.applied]

/-- Settles O37. -/
theorem dwellExpiryAdvancesTheSweep : Obligations.DwellExpiryAdvancesTheSweep := by
  intro h s p hp hzero
  have hexec : exec (.dwellExpiry h) s = .next (s.dwellExpiry h) := rfl
  have hdwell : s.dwellExpiry h =
      if p.slot + 1 < (s.head h).active.count then s.enterSlot h (p.slot + 1) else s.wrap h := by
    rw [State.dwellExpiry, hp]
    exact if_pos hzero
  refine ⟨fun hlt => ?_, fun hge => ?_⟩
  · rw [if_pos hlt] at hdwell
    obtain ⟨hheads, hrec, hframe, sent, horders, hpages, hsilent⟩ := enterSlot_spec s h (p.slot + 1)
    refine ⟨_, sent, hexec, hdwell, ?_, fun g hne => ?_, ?_, hpages, hsilent, ?_, ?_⟩
    · rw [hdwell, head_of_heads hheads, State.head_setHead_self]
    · rw [hdwell, head_of_heads hheads, State.head_setHead_of_ne _ _ hne]
    · rw [hdwell, horders]
    · rw [hdwell]; exact hrec
    · rw [hdwell]; exact hframe
  · rw [if_neg (Nat.not_lt.mpr hge)] at hdwell
    have happlied := applyStaged_eq s h
    let w := (s.applyStaged h).wrapPages h
    have hframe : PageFrame (s.applyStaged h) w := (s.applyStaged h).wrapPages_frame h
    have hrec : PagesAndPollsOnly (s.applyStaged h) w := pagesAndPolls_wrapFrom h _ _
    obtain ⟨-, hheadsW, hordersW, -⟩ := hframe.others
    have hheadsA : w.heads = (s.setHead h (s.head h).applied).heads := by rw [hheadsW, happlied]
    have hself : w.head h = (s.head h).applied := by rw [head_of_heads hheadsA, State.head_setHead_self]
    have hrecA : PagesAndPollsOnly s (s.applyStaged h) := .of_reefers (by rw [happlied]; rfl)
    have hframeA : SweepFrame s (s.applyStaged h) := by rw [SweepFrame, happlied]; rfl
    obtain ⟨hheads, hrecE, hframeE, sent, horders, hpages, hsilent⟩ := enterSlot_spec w h 0
    have hframeS : SweepFrame w (w.enterSlot h 0) := by rw [SweepFrame, hframeE]
    rw [hself] at hheads horders hsilent
    refine ⟨_, sent, hexec, fun hnodup => ?_, ?_, fun g hne => ?_, ?_, hpages, hsilent, ?_, ?_⟩
    · rw [hdwell]
      show w.enterSlot h 0 = _
      congr 1
      have hqueue : (s.applyStaged h).pageQueue h = s.pageQueue h := by rw [happlied]; rfl
      have hentries : (s.applyStaged h).pageEntry = s.pageEntry :=
        funext fun i => pageEntry_congr (by rw [happlied]; rfl)
      have hgone : (s.pageQueue h).filter ((s.applyStaged h).uncoveredAtWrap h) = (s.pageQueue h).filter fun i =>
          (s.reefers.get? i).any fun r =>
            r.doze == .deep && r.page.any (fun q => q.phase != .ackWait) &&
              (s.contexts.get? r.owner).any fun c => !((s.head h).staged.getD (s.head h).active).covers c.sector :=
        List.filter_congr fun i _ => uncovered_after_applied s h i
      have hw := wrapPages_eq (s.applyStaged h) h (by rw [hqueue]; exact hnodup)
      rw [hqueue, hgone, hentries, State.endings] at hw
      simp only [ending_congr (show (s.applyStaged h).contexts = s.contexts by rw [happlied]; rfl)] at hw
      show w = _
      rw [show w = _ from hw, happlied]
      rfl
    · rw [hdwell]
      show (w.enterSlot h 0).head h = _
      rw [head_of_heads hheads, State.head_setHead_self]
      rfl
    · rw [hdwell]
      show (w.enterSlot h 0).head g = _
      rw [head_of_heads hheads, State.head_setHead_of_ne _ _ hne, head_of_heads hheadsA, State.head_setHead_of_ne _ _ hne]
    · rw [hdwell]
      show (w.enterSlot h 0).orders = _
      rw [horders, hordersW, happlied]
      rfl
    · rw [hdwell]
      exact (hrecA.trans hrec).trans hrecE
    · rw [hdwell]
      exact (hframeA.trans hframe.sweep).trans hframeS

/-! ### RETIRE of a reefer -/

theorem Table.erase_modify {α : Type} (m : Table α) (i : Nat) (f : α → α) : (m.modify i f).erase i = m.erase i := by
  unfold Table.modify Table.erase
  induction m with
  | nil => rfl
  | cons e m ih =>
    rw [List.map_cons, List.filter_cons, List.filter_cons, ih]
    by_cases he : e.1 = i <;> simp [he]

/-- What the end of the work of record `i` leaves, ahead of the credit that returns: no page, no poll, no place in a queue,
and the page's request answered (R21). -/
def State.withoutWork (s : State) (i : Nat) : State :=
  { s with
    pageQueues := mapEach (fun q => q.filter (· != i)) s.pageQueues
    pollWaits := mapEach (fun q => q.filter (· != i)) s.pollWaits
    reefers := s.reefers.modify i fun y => { y with page := none, poll := .none }
    inflight := (s.endings (s.pageEntry i).toList .retired).1
    replies := (s.endings (s.pageEntry i).toList .retired).2 }

/-- A record without a page stands in no page queue, and no other record of its slot has one (R148). -/
theorem pageLaw_without_page {i : Nat} {x : Reefer} (hlaw : s.pageLaw) (hx : s.reefers.get? i = some x)
    (hp : x.page = none) : (∀ g, i ∉ s.pageQueue g) ∧ ∀ e ∈ s.reefers, e.1 = i → e.2.page = none := by
  obtain ⟨-, -, hin, hall⟩ := hlaw
  have hout (g : HeadIx) : i ∉ s.pageQueue g := fun hi => by
    have := (hin g i hi).2
    rw [hx] at this
    simp [hp] at this
  refine ⟨hout, fun e he hei => ?_⟩
  by_contra hpage
  have hsome : e.2.page.isSome = true := Option.isSome_iff_ne_none.mpr hpage
  have hserving := hall e he hsome
  rw [hei] at hserving
  cases hg : s.reeferServing i with
  | none => simp [hg] at hserving
  | some g => exact hout g (by simpa [hg] using hserving)

theorem endPage_retired_eq {i : Nat} {x : Reefer} (hlaw : s.pageLaw) (hx : s.reefers.get? i = some x) :
    s.endPage i .retired =
      { s with
        pageQueues := mapEach (fun q => q.filter (· != i)) s.pageQueues
        reefers := s.reefers.modify i Reefer.pageEnded
        inflight := (s.endings (s.pageEntry i).toList .retired).1
        replies := (s.endings (s.pageEntry i).toList .retired).2 } := by
  cases hp : x.page with
  | some p =>
    rw [endPage_eq hx hp]
    have hqueues : s.queuesWithout [i] = mapEach (fun q => q.filter (· != i)) s.pageQueues := by
      refine mapEach_congr fun g => List.filter_congr fun j _ => ?_
      by_cases hj : j = i <;> simp [hj]
    rw [hqueues]
  | none =>
    obtain ⟨hout, hnone⟩ := pageLaw_without_page hlaw hx hp
    have hentry : s.pageEntry i = none := by simp [State.pageEntry, hx, hp]
    have hqueues : mapEach (fun q => q.filter (· != i)) s.pageQueues = s.pageQueues := by
      have hid (g : HeadIx) : (s.pageQueues.get g).filter (· != i) = s.pageQueues.get g :=
        List.filter_eq_self.mpr fun j hj => by
          have : j ≠ i := fun e => hout g (e ▸ hj)
          simpa using this
      rw [mapEach_congr (g := id) hid]
      refine Vector.ext fun n hn => ?_
      simp [mapEach]
    have hrecords : s.reefers.modify i Reefer.pageEnded = s.reefers := by
      unfold Table.modify
      refine (List.map_congr_left fun e he => ?_).trans (List.map_id _)
      split
      · next hei =>
        have hpage := hnone e he hei
        obtain ⟨k, r⟩ := e
        show (k, { r with page := none }) = (k, r)
        rw [← hpage]
      · rfl
    rw [hentry, hqueues, hrecords, endPage_of_none fun r hr => by cases hx.symm.trans hr; exact hp]
    rfl

/-- The state behind the credit that a retiring reefer's poll returns, if it has one (R21, R60). -/
def State.afterWork (s : State) (i : Nat) (p : Poll) : State :=
  match p with
  | .outstanding h _ =>
    ((s.withoutWork i).setAccount h { s.account h with polls := (s.account h).polls - 1 }).waitPass h
  | .none | .waiting => s.withoutWork i

theorem leaveWaitLists_leaveWaitLists (s : State) (i : Nat) : (s.leaveWaitLists i).leaveWaitLists i = s.leaveWaitLists i := by
  unfold State.leaveWaitLists
  rw [mapEach_mapEach]
  have hsame : ((fun q : List Nat => q.filter (· != i)) ∘ fun q : List Nat => q.filter (· != i)) =
      fun q : List Nat => q.filter (· != i) := by
    funext q
    simp [List.filter_filter]
  rw [hsame]

theorem pollFrame_afterWork (s : State) (i : Nat) (p : Poll) : PollFrame (s.withoutWork i) (s.afterWork i p) := by
  unfold State.afterWork
  split
  · next h _ =>
    have hset : PollFrame (s.withoutWork i)
        ((s.withoutWork i).setAccount h { s.account h with polls := (s.account h).polls - 1 }) := rfl
    exact hset.trans (State.waitPass_frame _ h)
  · exact .refl _
  · exact .refl _

/-- Another record keeps all but its poll, and no place in a wait list is gained. -/
theorem afterWork_spec (s : State) (i : Nat) (p : Poll) :
    (∀ j, j ≠ i → ((s.afterWork i p).reefers.get? j).map (fun y => { y with poll := .none }) =
        (s.reefers.get? j).map fun y => { y with poll := .none }) ∧
      (∀ g, i ∉ (s.afterWork i p).pollWait g) ∧
      (∀ h : HeadIx, (∀ n, p ≠ .outstanding h n) → (s.afterWork i p).account h = s.account h ∧
        (s.afterWork i p).pollWait h = (s.pollWait h).filter (· != i)) ∧
      ∀ h n, p = .outstanding h n →
        (s.afterWork i p).account h = { s.account h with polls := ((s.afterWork i p).account h).polls } ∧
          ((s.afterWork i p).account h).polls ≤ max ((s.account h).polls - 1) (s.account h).wg := by
  have hwait (g : HeadIx) : (s.withoutWork i).pollWait g = (s.pollWait g).filter (· != i) := get_mapEach _ _ _
  have hout (g : HeadIx) : i ∉ (s.withoutWork i).pollWait g := by
    rw [hwait]
    simp
  have hother (j : Nat) (hj : j ≠ i) : (s.withoutWork i).reefers.get? j = s.reefers.get? j := by
    show (s.reefers.modify i fun y => { y with page := none, poll := .none }).get? j = _
    exact Table.get?_modify_of_ne _ _ hj
  have hidle : (∀ j, j ≠ i → ((s.withoutWork i).reefers.get? j).map (fun y => { y with poll := .none }) =
        (s.reefers.get? j).map fun y => { y with poll := .none }) ∧
      (∀ g, i ∉ (s.withoutWork i).pollWait g) ∧
      ∀ h : HeadIx, (s.withoutWork i).account h = s.account h ∧
        (s.withoutWork i).pollWait h = (s.pollWait h).filter (· != i) :=
    ⟨fun j hj => by rw [hother j hj], hout, fun h => ⟨rfl, hwait h⟩⟩
  cases p with
  | none => exact ⟨hidle.1, hidle.2.1, fun h _ => hidle.2.2 h, nofun⟩
  | waiting => exact ⟨hidle.1, hidle.2.1, fun h _ => hidle.2.2 h, nofun⟩
  | outstanding h n =>
    have hpolled := polledThrough_waitPass
      ((s.withoutWork i).setAccount h { s.account h with polls := (s.account h).polls - 1 }) h
    have hacc := hpolled.account
    obtain ⟨-, -, -, haccs, hwaits⟩ := hpolled.fields
    obtain ⟨⟨sent, hsent, -⟩, hrest, hle, -⟩ := hpolled
    have hset : ((s.withoutWork i).setAccount h { s.account h with polls := (s.account h).polls - 1 }).account h =
        { s.account h with polls := (s.account h).polls - 1 } := State.account_setAccount_self _ h _
    rw [hset] at hacc hle
    refine ⟨fun j hj => (hrest j).trans (hidle.1 j hj), fun g hg => ?_, fun g hg => ?_, fun g m hg => ?_⟩
    · by_cases hgh : g = h
      · subst hgh
        exact hout g (hsent ▸ List.mem_append_right sent hg)
      · exact hout g (hwaits g hgh ▸ hg)
    · have hgh : g ≠ h := fun e => hg n (by rw [e])
      exact ⟨(haccs g hgh).trans (State.account_setAccount_of_ne _ _ hgh), (hwaits g hgh).trans (hwait g)⟩
    · cases hg
      exact ⟨hacc, hle⟩

/-- The end of a reefer's work, but for the record itself, which goes with the context. -/
theorem endReeferWork_eq {i : Nat} {x : Reefer} (hlaw : s.pageLaw) (hx : s.reefers.get? i = some x) :
    ∃ rs, s.endReeferWork i = { s.afterWork i x.poll with reefers := rs } ∧
      rs.erase i = (s.afterWork i x.poll).reefers.erase i := by
  have hpage := endPage_retired_eq hlaw hx
  have hrecord : ((s.endPage i .retired).leaveWaitLists i).reefers.get? i = some x.pageEnded := by
    rw [hpage]
    show (s.reefers.modify i Reefer.pageEnded).get? i = _
    rw [Table.get?_modify_self, hx]
    rfl
  have hboth : (s.reefers.modify i Reefer.pageEnded).modify i (fun y => { y with poll := .none }) =
      s.reefers.modify i fun y => { y with page := none, poll := .none } := Table.modify_modify _ _ _ _
  have hended : ((s.endPage i .retired).leaveWaitLists i).modReefer i (fun y => { y with poll := .none }) =
      s.withoutWork i := by
    rw [hpage]
    unfold State.withoutWork
    rw [← hboth]
    rfl
  unfold State.endReeferWork State.endPoll
  rw [hrecord]
  dsimp only
  have hpoll : x.pageEnded.poll = x.poll := rfl
  rw [hpoll]
  cases x.poll with
  | none =>
    refine ⟨s.reefers.modify i Reefer.pageEnded, by rw [hpage]; rfl, ?_⟩
    show _ = (s.reefers.modify i fun y => { y with page := none, poll := .none }).erase i
    rw [Table.erase_modify, Table.erase_modify]
  | waiting => exact ⟨_, by dsimp only; rw [leaveWaitLists_leaveWaitLists, hended]; rfl, rfl⟩
  | outstanding h n =>
    refine ⟨_, ?_, rfl⟩
    dsimp only
    rw [hended]
    rfl

/-- At most what the RETIRE of a reefer touches. -/
def RetireFrame (s t : State) : Prop :=
  t =
    { s with
      contexts := t.contexts, reefers := t.reefers, pageQueues := t.pageQueues, pollWaits := t.pollWaits,
      airtime := t.airtime, notices := t.notices, replies := t.replies, inflight := t.inflight, orders := t.orders }

theorem RetireFrame.trans (a : RetireFrame s t) (b : RetireFrame t u) : RetireFrame s u := by
  cases s; cases t; cases u
  simp only [RetireFrame, State.mk.injEq] at *
  simp_all

/-- Settles O30. -/
theorem retireEndsTheReefersWork : Obligations.RetireEndsTheReefersWork := by
  intro r s k i c x hlaw hbare hnames hcls hext hx
  have hblocked : s.retireBlocked c = false := by simp [State.retireBlocked, hcls]
  obtain ⟨rs, hwork, herase⟩ := endReeferWork_eq hlaw hx
  have hext' : s.endExtensionWork k c = s.endReeferWork i := by simp only [State.endExtensionWork, hcls, hext]
  have hfree (t : State) : t.freeContext k c = { t with reefers := t.reefers.erase i, contexts := t.contexts.erase k } := by
    simp only [State.freeContext, hcls, hext]
  have hexec := exec_retire_of_free hnames hbare hblocked
  rw [takeRetire_eq, retiring_eq, hext', hwork, hfree] at hexec
  dsimp only at hexec
  rw [herase] at hexec
  have hframe := pollFrame_afterWork s i x.poll
  obtain ⟨hother, hout, hidle, hcredit⟩ := afterWork_spec s i x.poll
  have hqueue (g : HeadIx) : (s.afterWork i x.poll).pageQueue g = (s.pageQueue g).filter (· != i) := by
    have : (s.afterWork i x.poll).pageQueues = (s.withoutWork i).pageQueues := by rw [hframe]
    rw [State.pageQueue, this]
    exact get_mapEach _ _ _
  have hcontexts : (s.afterWork i x.poll).contexts = s.contexts := by rw [hframe]; rfl
  have hnotices : (s.afterWork i x.poll).notices = s.notices := by rw [hframe]; rfl
  have hreplies : (s.afterWork i x.poll).replies = (s.endings (s.pageEntry i).toList .retired).2 := by rw [hframe]; rfl
  refine ⟨_, hexec, ?_, ?_, fun h => ⟨hqueue h, hout h⟩, fun j hj => ?_, hidle, hcredit, ?_⟩
  · show _ =
      { s.afterWork i x.poll with
        contexts := s.contexts.erase k, reefers := (s.afterWork i x.poll).reefers.erase i
        notices := s.notices.filter fun n => n.subject != Subject.context k
        orders := (s.afterWork i x.poll).orders ++ c.drops
        replies := (s.endings (s.pageEntry i).toList .retired).2 ++
          [replyTo .retire r .done false (.context k c.tag) (u16 k ++ bytes48 c.tag)] }
    rw [hcontexts, hnotices, ← hreplies]
    rfl
  · show ((s.afterWork i x.poll).reefers.erase i).get? i = none
    rw [Table.get?_erase, if_pos rfl]
  · show (((s.afterWork i x.poll).reefers.erase i).get? j).map _ = _
    rw [Table.get?_erase, if_neg hj]
    exact hother j hj
  · have hstart : RetireFrame s (s.withoutWork i) := rfl
    have hpolls : RetireFrame (s.withoutWork i) (s.afterWork i x.poll) := by rw [RetireFrame, hframe]
    exact (hstart.trans hpolls).trans rfl

end Sys2Proof.Machine
end

section
/-! Measurement reports: stages 1 and 2 (R69 to R80), and the report of a context without a serving head (R83). -/

namespace Sys2Proof.Machine

variable {s : State} {c : Context}

/-! ### Accepted entries (R69) -/

theorem acceptedEntries_append {es : List MeasEntry} (hlen : es.length < 4) (e : MeasEntry) :
    acceptedEntries s (es ++ [e]) = acceptEntry s (acceptedEntries s es) e := by
  have h4 : Config.reportEntries = 4 := rfl
  unfold acceptedEntries
  rw [h4, List.take_of_length_le (by simp; omega), List.take_of_length_le (by omega), List.foldl_append]
  rfl

theorem acceptEntry_of_accepted {acc : List Accepted} {e : MeasEntry} {h : HeadIx} {x : Sector} (hh : e.head.toNat = h.val)
    (hx : e.sector.toNat = x.val) (hserv : (s.head h).state.inService = true) (hnew : ∀ a ∈ acc, a.head ≠ h) :
    acceptEntry s acc e = acc ++ [{ head := h, sector := x, target := targetValue e.level }] := by
  have hlt : e.sector.toNat < 8 := hx ▸ x.isLt
  have hsector : (⟨e.sector.toNat, hlt⟩ : Sector) = x := Fin.ext hx
  have hany : acc.any (fun a => a.head == h) = false := by simpa using hnew
  unfold acceptEntry
  rw [headOf_eq_some.mpr hh]
  dsimp only
  rw [dif_pos hlt, if_pos (by simp [hserv, hany]), hsector]

theorem acceptEntry_of_range {acc : List Accepted} {e : MeasEntry} (h : 24 ≤ e.head.toNat ∨ 8 ≤ e.sector.toNat) :
    acceptEntry s acc e = acc := by
  unfold acceptEntry
  rcases h with h | h
  · rw [headOf_eq_none.mpr h]
  · split
    · rfl
    · rw [dif_neg (Nat.not_lt.mpr h)]

theorem acceptEntry_of_refused {acc : List Accepted} {e : MeasEntry} {h : HeadIx} (hh : e.head.toNat = h.val)
    (hno : (s.head h).state.inService = false ∨ ∃ a ∈ acc, a.head = h) : acceptEntry s acc e = acc := by
  have hcond : ¬ ((s.head h).state.inService && !acc.any (fun a => a.head == h)) = true := by
    rcases hno with hno | ⟨a, ha, rfl⟩
    · simp [hno]
    · have : acc.any (fun b => b.head == a.head) = true := List.any_eq_true.mpr ⟨a, ha, by simp⟩
      simp [this]
  unfold acceptEntry
  rw [headOf_eq_some.mpr hh]
  dsimp only
  by_cases hx : e.sector.toNat < 8
  · rw [dif_pos hx, if_neg hcond]
  · rw [dif_neg hx]

theorem inService_iff (x : HeadState) :
    (x.inService = true ↔ x ∈ [HeadState.starting, .active, .holdover]) ∧
      (x.inService = false ↔ x ∈ [HeadState.offline, .faulted]) := by
  cases x <;> decide

/-! ### The weakest entry (R75) -/

/-- The order in which entries are weakest: the lower score, and the higher head index among equal scores. -/
def weakerEq (s : State) (c : Context) (w x : Candidate) : Prop :=
  scoreOf s c w.head w.level < scoreOf s c x.head x.level ∨
    scoreOf s c w.head w.level = scoreOf s c x.head x.level ∧ x.head ≤ w.head

theorem weakerEq.refl (w : Candidate) : weakerEq s c w w := .inr ⟨rfl, le_refl _⟩

theorem weakerEq.trans {w x y : Candidate} (a : weakerEq s c w x) (b : weakerEq s c x y) : weakerEq s c w y := by
  unfold weakerEq at *
  rcases a with a | ⟨a, a'⟩ <;> rcases b with b | ⟨b, b'⟩
  · exact .inl (a.trans b)
  · exact .inl (b ▸ a)
  · exact .inl (a ▸ b)
  · exact .inr ⟨a.trans b, b'.trans a'⟩

theorem weakerEq_weaker (a b : Candidate) : weakerEq s c (weaker s c a b) a ∧ weakerEq s c (weaker s c a b) b := by
  unfold weaker
  dsimp only
  split
  · next h => exact ⟨.refl a, h.imp id fun ⟨he, hl⟩ => ⟨he, hl.le⟩⟩
  · next h =>
    rw [not_or, not_and] at h
    obtain ⟨hle, heq⟩ := h
    refine ⟨?_, .refl b⟩
    rcases Nat.lt_or_ge (scoreOf s c b.head b.level) (scoreOf s c a.head a.level) with hlt | hge
    · exact .inl hlt
    · have he : scoreOf s c a.head a.level = scoreOf s c b.head b.level :=
        Nat.le_antisymm hge (Nat.le_of_not_lt hle)
      exact .inr ⟨he.symm, le_of_not_gt (heq he)⟩

/-- The weakest entry of a list is one of them, and weakest among them. -/
theorem weakest_spec {l : List Candidate} {w : Candidate} (h : weakest s c l = some w) : ∀ x ∈ l, weakerEq s c w x := by
  cases l with
  | nil => cases h
  | cons e es =>
    cases h
    have hfold : ∀ (l : List Candidate) (e : Candidate), weakerEq s c (l.foldl (weaker s c) e) e ∧
        ∀ x ∈ l, weakerEq s c (l.foldl (weaker s c) e) x := by
      intro l
      induction l with
      | nil => exact fun e => ⟨.refl e, nofun⟩
      | cons d l ih =>
        intro e
        obtain ⟨hhead, htail⟩ := ih (weaker s c e d)
        obtain ⟨hleft, hright⟩ := weakerEq_weaker (s := s) (c := c) e d
        exact ⟨hhead.trans hleft, List.forall_mem_cons.mpr ⟨hhead.trans hright, htail⟩⟩
    obtain ⟨hhead, htail⟩ := hfold es e
    exact List.forall_mem_cons.mpr ⟨hhead, htail⟩

theorem weakest_eq_none {l : List Candidate} (h : weakest s c l = none) : l = [] := by
  cases l with
  | nil => rfl
  | cons e es => cases h

/-! ### New heads (R74, R75) -/

/-- The entries open to replacement. -/
def openEntries (c : Context) (kept : Option HeadIx) (l : List Candidate) : List Candidate :=
  l.filter fun x => c.serving != some x.head && kept != some x.head

theorem mem_openEntries {kept : Option HeadIx} {l : List Candidate} {x : Candidate} :
    x ∈ openEntries c kept l ↔ x ∈ l ∧ c.serving ≠ some x.head ∧ kept ≠ some x.head := by
  simp [openEntries]

section
variable {kept : Option HeadIx} {l : List Candidate} {a : Accepted}

theorem takeNewHead_of_room (hlen : l.length < 4) : takeNewHead s c kept l a = l ++ [a.entry] :=
  if_pos hlen

theorem takeNewHead_of_full (hlen : 4 ≤ l.length) :
    takeNewHead s c kept l a =
      match weakest s c (openEntries c kept l) with
      | none => l
      | some w =>
        if scoreOf s c w.head w.level < scoreOf s c a.head a.target then (l.filter fun x => x.head != w.head) ++ [a.entry]
        else l :=
  if_neg (Nat.not_lt.mpr hlen)

theorem takeNewHead_of_weaker (hlen : 4 ≤ l.length) {w : Candidate} (hw : w ∈ openEntries c kept l)
    (hlt : scoreOf s c w.head w.level < scoreOf s c a.head a.target) (hall : ∀ x ∈ openEntries c kept l, weakerEq s c w x) :
    takeNewHead s c kept l a = (l.filter fun x => x.head != w.head) ++ [a.entry] := by
  rw [takeNewHead_of_full hlen]
  cases hweak : weakest s c (openEntries c kept l) with
  | none =>
    rw [weakest_eq_none hweak] at hw
    cases hw
  | some v =>
    have hvw := weakest_spec hweak w hw
    have hwv := hall v (mem_of_weakest hweak)
    have hsame : scoreOf s c v.head v.level = scoreOf s c w.head w.level ∧ v.head = w.head := by
      unfold weakerEq at hvw hwv
      rcases hvw with h | ⟨h, h'⟩ <;> rcases hwv with k | ⟨k, k'⟩
      · omega
      · omega
      · omega
      · exact ⟨h, le_antisymm k' h'⟩
    dsimp only
    rw [hsame.1, if_pos hlt, hsame.2]

theorem takeNewHead_of_stronger (hlen : 4 ≤ l.length)
    (hall : ∀ w ∈ openEntries c kept l, scoreOf s c a.head a.target ≤ scoreOf s c w.head w.level) :
    takeNewHead s c kept l a = l := by
  rw [takeNewHead_of_full hlen]
  cases hweak : weakest s c (openEntries c kept l) with
  | none => rfl
  | some v => exact if_neg (Nat.not_lt.mpr (hall v (mem_of_weakest hweak)))

end

/-- The load penalty is W where nothing of E is left, an E of 0 included (R76). -/
theorem loadPenalty_eq (s : State) (h : HeadIx) (link : Option Nat) :
    loadPenalty s h link =
      if (s.head h).effective ≤ (s.account h).committed - s.ownUnits h link then s.loadWeight
      else s.loadWeight * ((s.account h).committed - s.ownUnits h link) / (s.head h).effective := by
  unfold loadPenalty
  dsimp only
  refine if_congr ⟨fun h => ?_, .inr⟩ rfl rfl
  rcases h with h | h
  · omega
  · exact h

/-- Settles O44: the entries accepted, the filter, the new heads, the score and the order. -/
theorem reportsFilterScoreAndOrderTheList : Obligations.ReportsFilterScoreAndOrderTheList := by
  refine ⟨fun s es => ⟨rfl, ?_, fun e hlen => ⟨fun h x hh hx hserv hnew => ?_, fun hrange => ?_, fun h hh hno => ?_⟩⟩,
    fun s c kept acc => ?_, fun k acc serving kept e => ⟨fun a ha => ?_, fun hno => ?_⟩, fun s c kept l a => ?_,
    fun s c l => ⟨?_, ?_⟩⟩
  · exact congrArg (List.foldl _ _) (List.take_take.trans (by rfl)).symm
  · rw [acceptedEntries_append hlen]
    exact acceptEntry_of_accepted hh hx ((inService_iff _).1.mpr hserv) hnew
  · rw [acceptedEntries_append hlen, acceptEntry_of_range hrange]
  · rw [acceptedEntries_append hlen, acceptEntry_of_refused hh (hno.imp (inService_iff _).2.mpr id)]
  · unfold stageFilter
    dsimp only
    congr 1
    refine List.filter_congr fun a _ => ?_
    rw [List.all_eq_not_any_not]
    congr 2
    funext e
    rw [bne, Bool.not_not]
  · unfold filterEntry
    rw [ha]
  · have hfind : acc.find? (fun a => a.head == e.head) = none := List.find?_eq_none.mpr fun a ha => by simpa using hno a ha
    unfold filterEntry
    rw [hfind]
    dsimp only
    refine ⟨fun hserv => if_pos hserv, fun hserv hmiss => ?_, fun hserv hmiss => ?_⟩
    · rw [if_neg hserv, if_pos (by omega)]
    · rw [if_neg hserv, if_neg (by omega)]
  · refine ⟨fun hlen => takeNewHead_of_room hlen, fun hlen => ⟨fun w hw hopen hlt hall => ?_, fun hall => ?_⟩⟩
    · refine takeNewHead_of_weaker hlen (mem_openEntries.mpr ⟨hw, hopen⟩) hlt fun x hx => ?_
      obtain ⟨hx, hopen⟩ := mem_openEntries.mp hx
      exact hall x hx hopen
    · refine takeNewHead_of_stronger hlen fun w hw => ?_
      obtain ⟨hw, hopen⟩ := mem_openEntries.mp hw
      exact hall w hw hopen
  · refine (orderEntries_perm _).trans (.of_eq (List.map_congr_left fun e _ => ?_))
    have hlink : c.link? = if c.cls = .crane then c.ext else none := by
      unfold Context.link?
      cases c.cls <;> rfl
    rw [scoreOf, loadPenalty_eq, hlink]
    cases c.segment <;> rfl
  · refine (orderEntries_sorted _).imp fun h => ?_
    simpa [before] using h

/-! ### Re-entry (R83) -/

theorem exec_measurementReport {tag : Tag} {k : Nat} (htag : s.findTag tag = some (k, c)) (es : List MeasEntry) :
    exec (.measurementReport tag es) s = .next (takeReport k c es s) := by
  change execMeasurementReport tag es s = _
  rw [execMeasurementReport, htag]

theorem tag_of_findTag {tag : Tag} {k : Nat} (htag : s.findTag tag = some (k, c)) : c.tag = tag :=
  (State.findTag_some htag).2

theorem modContext_modContext (s : State) (k : Nat) (f g : Context → Context) :
    (s.modContext k f).modContext k g = s.modContext k (g ∘ f) := by
  simp only [State.modContext, Table.modify_modify]

/-- Settles O45. -/
theorem reportsServeAContextAgain : Obligations.ReportsServeAContextAgain := by
  intro tag es s k c htag hserv
  rw [exec_measurementReport htag]
  unfold takeReport
  dsimp only
  rw [hserv]
  dsimp only
  refine ⟨fun hnil => ?_, fun e rest hcons => ?_⟩
  · rw [hnil]
    rfl
  · rw [hcons]
    dsimp only
    rw [State.reEnter, modContext_modContext, tag_of_findTag htag]
    have hentry (c' : Context) : ({ c' with cands := e :: rest, lastReport := some s.frame } : Context).entry? e.head = some e := by
      simp [Context.entry?]
    have hserve : ((fun c' : Context => c'.serveOn e.head) ∘ fun c' : Context =>
          { c' with cands := e :: rest, lastReport := some s.frame }) = fun c' : Context =>
        { c' with
          serving := some e.head, sector := e.sector, lastReport := some s.frame
          cands := (e :: rest).map fun x => { x with ttt := 0, missing := if x.head = e.head then 0 else x.missing } } := by
      funext c'
      rw [Function.comp_apply, Context.serveOn, hentry]
    rw [hserve]
    rfl

end Sys2Proof.Machine
end

section
/-! SHADOW_SET, CLASS_PARAMS, PART_CONFIG and PART_STATUS (R78, R81, R82, R135, R155, R164, R165). -/

namespace Sys2Proof.Machine

variable {s : State} {r : Request} {os : Options}

/-! ### SHADOW_SET -/

theorem clampNat_value (n : Nat) : (clampNat 0 15 n).value = min 15 n := Nat.max_eq_right (Nat.zero_le _)

/-- A written run holds its values from its first segment on, and the row as before elsewhere. -/
theorem writeRun_getElem (vs : List Nat) (row : Vector Nat 64) (n j : Nat) (hj : j < 64) :
    (writeRun row n vs)[j] = if n ≤ j ∧ j < n + vs.length then (vs[j - n]?).getD 0 else row[j] := by
  induction vs generalizing row n with
  | nil => rw [writeRun, if_neg (by rw [List.length_nil]; omega)]
  | cons v vs ih =>
    rw [writeRun, ih, Vector.getElem_setIfInBounds]
    by_cases hn : n = j
    · subst hn
      rw [if_neg (by omega), if_pos rfl, if_pos (by simp), Nat.sub_self]
      rfl
    · rw [if_neg hn]
      by_cases hin : n + 1 ≤ j ∧ j < n + 1 + vs.length
      · rw [if_pos hin, if_pos (by simp only [List.length_cons]; omega), show j - n = (j - (n + 1)) + 1 by omega,
          List.getElem?_cons_succ]
      · rw [if_neg hin, if_neg (by simp only [List.length_cons]; omega)]

/-- The values a SHADOW_SET writes over a run: those given, or the one given at every segment (R78). -/
def runValues (vs : List Nat) (run : Nat) : List Nat := if vs.length = 1 then List.replicate run (vs[0]?.getD 0) else vs

theorem length_runValues {vs : List Nat} {run : Nat} (h : vs.length = 1 ∨ vs.length = run) :
    (runValues vs run).length = run := by
  unfold runValues
  split
  · exact List.length_replicate
  · next hne => exact h.resolve_left hne

theorem getElem_runValues {vs : List Nat} {run k : Nat} (hk : k < run) :
    ((runValues vs run)[k]?).getD 0 = (vs[if vs.length = 1 then 0 else k]?).getD 0 := by
  unfold runValues
  split
  · rw [List.getElem?_replicate, if_pos hk]
    rfl
  · rfl

theorem any_runValues {vs : List Nat} {run : Nat} (hrun : 0 < run) :
    (runValues vs run).any (15 < ·) = vs.any (15 < ·) := by
  unfold runValues
  split
  · next hone =>
    obtain ⟨v, rfl⟩ := List.length_eq_one_iff.mp hone
    simp [List.any_replicate, Nat.pos_iff_ne_zero.mp hrun]
  · rfl

theorem shadowChecks_of_run {x : Head} {first last : Segment} (hf : os.readAs .firstSegment x.spanFirst segmentOf = some first)
    (hl : os.readAs .lastSegment x.spanLast segmentOf = some last) (hle : first ≤ last) {vs : List Nat}
    (hvs : ((os.bytes .values).getD []).map (·.toNat) = vs) (hlen : vs.length = 1 ∨ vs.length = last.val - first.val + 1) :
    shadowChecks os x = .ok
      { first := first.val, last := last.val, values := (runValues vs (last.val - first.val + 1)).map (min 15),
        clamped := vs.any (15 < ·) } := by
  subst hvs
  generalize hbytes : (os.bytes .values).getD [] = bs at hlen
  have hvalues (l : List Nat) : (l.map (clampNat 0 15)).map (·.value) = l.map (min 15) := by
    simp [List.map_map, Function.comp_def, clampNat_value]
  have hclamped (l : List Nat) : (l.map (clampNat 0 15)).any (·.clamped) = l.any (15 < ·) := by
    simp [List.any_map, Function.comp_def, clampNat]
  have hmap : (bs.map fun b => clampNat 0 15 b.toNat) = (bs.map (·.toNat)).map (clampNat 0 15) := by
    simp [List.map_map, Function.comp_def]
  rw [shadowChecks, hf, hl]
  dsimp only
  rw [if_neg (not_lt.mpr hle), hbytes, hmap]
  generalize bs.map (·.toNat) = vs at hlen
  rw [List.length_map]
  by_cases hrun : vs.length = last.val - first.val + 1
  · have hsame : runValues vs (last.val - first.val + 1) = vs := by
      unfold runValues
      split
      · next hone =>
        obtain ⟨v, rfl⟩ := List.length_eq_one_iff.mp hone
        rw [← hrun]
        rfl
      · rfl
    rw [if_pos hrun, hsame, hvalues, hclamped]
  · rw [if_neg hrun]
    obtain ⟨v, rfl⟩ := List.length_eq_one_iff.mp (hlen.resolve_right hrun)
    have hrep : runValues [v] (last.val - first.val + 1) = List.replicate (last.val - first.val + 1) v := rfl
    rw [← any_runValues (Nat.succ_pos (last.val - first.val)), hrep, ← hvalues, ← hclamped, List.map_replicate]
    rfl

theorem shadowChecks_of_bad_run {x : Head} {first last : Segment}
    (hf : os.readAs .firstSegment x.spanFirst segmentOf = some first)
    (hl : os.readAs .lastSegment x.spanLast segmentOf = some last) {vs : List Nat}
    (hvs : ((os.bytes .values).getD []).map (·.toNat) = vs)
    (hbad : last < first ∨ (vs.length ≠ 1 ∧ vs.length ≠ last.val - first.val + 1)) :
    shadowChecks os x = .error .badOption := by
  rw [shadowChecks, hf, hl]
  dsimp only
  by_cases hlt : last < first
  · exact if_pos hlt
  obtain ⟨hone, hrun⟩ := hbad.resolve_left hlt
  have hlen : ((os.bytes .values).getD []).length = vs.length := by rw [← hvs, List.length_map]
  rw [if_neg hlt, if_neg (by rw [List.length_map, hlen]; exact hrun)]
  split
  · next v hv =>
    have := congrArg List.length hv
    rw [List.length_map, hlen] at this
    exact absurd this hone
  · rfl

theorem shadowChecks_of_unread {x : Head} (h : os.readAs .firstSegment x.spanFirst segmentOf = none ∨
    os.readAs .lastSegment x.spanLast segmentOf = none) : shadowChecks os x = .error .badOption := by
  rw [shadowChecks]
  split
  · next hf hl => rcases h with h | h <;> simp_all
  · rfl

theorem shadowAt_takeShadow (h g : HeadIx) (p : ShadowPlan) (x : Segment) :
    (takeShadow h p s).shadowAt g x =
      if g = h ∧ p.first ≤ x.val ∧ x.val < p.first + p.values.length then (p.values[x.val - p.first]?).getD 0
      else s.shadowAt g x := by
  show ((s.shadow.set h.val (writeRun (s.shadow.get h) p.first p.values) h.isLt)[g.val])[x.val] = _
  rw [Vector.getElem_set]
  by_cases hg : g = h
  · subst hg
    rw [if_pos rfl, writeRun_getElem]
    simp only [true_and]
    rfl
  · rw [if_neg fun e => hg (Fin.ext e).symm, if_neg fun hh => hg hh.1]
    rfl

/-! ### CLASS_PARAMS and PART_CONFIG -/

/-- A reading of an option with a default: present and read, or absent. -/
theorem readAs_eq {α : Type} (o : Opt) (d : α) (f : Nat → Option α) :
    os.readAs o d f = match os.nat o with | some n => f n | none => some d := by
  unfold Options.readAs
  cases os.nat o <;> rfl

theorem paramsChecks_of_unknown_class {n : Nat} (hn : os.nat .cls = some n) (hc : classOf n = none) :
    paramsChecks os s = .error .badOption := by
  rw [paramsChecks, readAs_eq, hn]
  simp [hc]

theorem nat_none_of_has {o : Opt} (h : os.has o = false) : os.nat o = none := by
  have hbytes : os.bytes o = none := by simpa [Options.has] using h
  rw [Options.nat, hbytes]
  rfl

theorem paramsGet_set (p : ParamSets) (cls : Class) (x : ClassParams) : (p.set cls x).get cls = x := by
  cases cls <;> rfl

theorem mapAll_capCounts (cs : Table Context) (cls : Class) (limit : Nat) :
    (cs.mapAll fun c => if c.cls = cls then c.capCounts limit else c) = cs.map fun e =>
      if e.2.cls = cls then (e.1, { e.2 with cands := e.2.cands.map fun y => { y with ttt := min limit y.ttt } }) else e :=
  List.map_congr_left fun e _ => by
    by_cases h : e.2.cls = cls
    · rw [if_pos h]
      exact congrArg (Prod.mk e.1) (if_pos h)
    · rw [if_neg h]
      exact congrArg (Prod.mk e.1) (if_neg h)

theorem takeParams_of_class (cls : Class) (x : ClassParams) (w : Nat) (b : Bool) :
    takeParams { cls := some cls, params := x, weight := w, clamped := b } s =
      { s with
        params := s.params.set cls x, loadWeight := w
        contexts := s.contexts.map fun e =>
          if e.2.cls = cls then (e.1, { e.2 with cands := e.2.cands.map fun y => { y with ttt := min x.ttt y.ttt } })
          else e } := by
  rw [takeParams]
  dsimp only
  rw [mapAll_capCounts]

/-- Settles O47: each request by its owner's checks, then what it writes. -/
theorem coverageAndPartSettingsAreWritten : Obligations.CoverageAndPartSettingsAreWritten := by
  intro r s os
  refine ⟨fun h first last vs hnames hcarries hf hl hvs => ?_, fun h hnames hcarries hbad => ?_, fun n hnames hcarries hn hc => ?_,
    fun cls hnames hcarries hcls => ?_, fun hnames hcarries hcls => ?_, fun hnames hcarries => ?_, fun hnames hbare => ?_⟩
  · have hexec : exec (.shadowSet r) s = execShadowSet r s := rfl
    rw [execShadowSet, headTarget_of_namesHead hnames hcarries] at hexec
    dsimp only at hexec
    refine ⟨fun hle hlen => ?_, fun hbad => ?_⟩
    · rw [shadowChecks_of_run hf hl hle hvs hlen] at hexec
      refine ⟨_, hexec, rfl, fun g x => ?_⟩
      rw [shadowAt_takeShadow]
      dsimp only
      rw [List.length_map, length_runValues hlen]
      have hwhere : (g = h ∧ first.val ≤ x.val ∧ x.val < first.val + (last.val - first.val + 1)) ↔
          g = h ∧ first ≤ x ∧ x ≤ last := by
        have hle' : first.val ≤ last.val := hle
        rw [Fin.le_def, Fin.le_def]
        constructor <;> rintro ⟨hg, h1, h2⟩ <;> exact ⟨hg, h1, by omega⟩
      by_cases hin : g = h ∧ first ≤ x ∧ x ≤ last
      · have hk : x.val - first.val < last.val - first.val + 1 := by
          have := Fin.le_def.mp hin.2.1
          have := Fin.le_def.mp hin.2.2
          omega
        rw [if_pos (hwhere.mpr hin), if_pos hin, List.getElem?_map, ← getElem_runValues hk]
        cases hv : (runValues vs (last.val - first.val + 1))[x.val - first.val]? <;> rfl
      · rw [if_neg fun hh => hin (hwhere.mp hh), if_neg hin]
    · rw [shadowChecks_of_bad_run hf hl hvs hbad] at hexec
      exact hexec
  · have hexec : exec (.shadowSet r) s = execShadowSet r s := rfl
    rw [execShadowSet, headTarget_of_namesHead hnames hcarries] at hexec
    dsimp only at hexec
    rw [shadowChecks_of_unread hbad] at hexec
    exact hexec
  · have hexec : exec (.classParams r) s = execClassParams r s := rfl
    rw [execClassParams, partTarget_of_namesPart hnames hcarries] at hexec
    dsimp only at hexec
    rw [paramsChecks_of_unknown_class hn hc] at hexec
    exact hexec
  · have hexec : exec (.classParams r) s = execClassParams r s := rfl
    rw [execClassParams, partTarget_of_namesPart hnames hcarries] at hexec
    obtain ⟨n, hn, hc⟩ := Option.bind_eq_some_iff.mp hcls
    have hne : os.isEmpty = false := by cases os with | nil => cases hn | cons _ _ => rfl
    rw [hexec]
    simp only [paramsChecks, readAs_eq, hn, hc, hne, Option.map_some, reduceCtorEq, false_and, or_self, if_false, clampOpt_eq,
      Bool.false_eq_true, Option.getD_some]
    rw [takeParams_of_class]
    dsimp only
    rw [classParamsBody, paramsGet_set]
    cases os.int .offset <;> rfl
  · have hexec : exec (.classParams r) s = execClassParams r s := rfl
    rw [execClassParams, partTarget_of_namesPart hnames hcarries] at hexec
    simp only [paramsChecks, readAs_eq, nat_none_of_has hcls, true_and] at hexec
    refine ⟨fun hbad => ?_, fun hne hset => ?_⟩
    · have hbad' : List.isEmpty os = true ∨ os.hasSetting = true := hbad.imp_left (by rintro rfl; rfl)
      rw [if_pos hbad'] at hexec
      exact hexec
    · have hempty : ¬ (List.isEmpty os = true ∨ os.hasSetting = true) := by
        rintro (he | he)
        · exact hne (List.isEmpty_iff.mp he)
        · exact absurd he (by rw [Options.hasSetting, hset]; decide)
      obtain ⟨⟨⟨hshift, hhyst⟩, httt⟩, hoffset⟩ : ((os.has .shift = false ∧ os.has .hysteresis = false) ∧ os.has .ttt = false) ∧
          os.has .offset = false := by simpa only [Bool.or_eq_false_iff] using hset
      have hint : os.int .offset = none := by
        have hbytes : os.bytes .offset = none := by simpa [Options.has] using hoffset
        rw [Options.int, hbytes]
        rfl
      rw [if_neg hempty] at hexec
      simp only [clampOpt_eq, nat_none_of_has hshift, nat_none_of_has hhyst, nat_none_of_has httt, hint] at hexec
      exact hexec
  · have hexec : exec (.partConfig r) s = execPartConfig r s := rfl
    rw [execPartConfig, partTarget_of_namesPart hnames hcarries] at hexec
    simp only [configPlan, clampOpt_eq, Settings.consistent, Bool.and_eq_true, decide_eq_true_eq] at hexec
    refine ⟨fun hok => ?_, fun hbad => ?_⟩
    · rw [if_pos hok] at hexec
      exact hexec
    · rw [if_neg hbad] at hexec
      exact hexec
  · have hexec : exec (.partStatus r) s = execPartStatus r s := rfl
    rw [execPartStatus, partTarget_of_namesPart hnames (carries_bare hbare rfl)] at hexec
    exact hexec

end Sys2Proof.Machine
end

section
/-! Crane links: targets, changes of one record, downlinks and the side block they carry (R100, R110, R111); SIDE_DOWN and
CRANE_READ (R114). -/

namespace Sys2Proof.Machine

variable {s t u : State} {r : Request} {q : ReqKind} {os : Options} {k l : Nat} {c : Context} {x y : CraneLink}

/-! ### The target of a crane request -/

theorem craneTarget_of_names (h : namesCrane r s k c l x) (ho : carries q r os) :
    craneTarget q r s = .ok { opts := os, handle := k, ctx := c, link := l, record := x } := by
  obtain ⟨hnames, -, hcls, hext, hx⟩ := h
  rw [craneTarget, contextTarget_of_names hnames ho (by rw [hcls]; rfl)]
  simp only [hext, hx]

/-! ### Changes of one link record -/

/-- Of the link records of `t` that of `l` is `y`, and the others are those of `s`. -/
structure LinkAt (l : Nat) (y : CraneLink) (s t : State) : Prop where
  self : t.links.get? l = some y
  others : ∀ j, j ≠ l → t.links.get? j = s.links.get? j

theorem LinkAt.refl (h : s.links.get? l = some x) : LinkAt l x s s := ⟨h, fun _ _ => rfl⟩

theorem LinkAt.trans (a : LinkAt l x s t) (b : LinkAt l y t u) : LinkAt l y s u :=
  ⟨b.self, fun j hj => (b.others j hj).trans (a.others j hj)⟩

theorem LinkAt.congr (a : LinkAt l x s t) (h : u.links = t.links) : LinkAt l x s u :=
  ⟨h ▸ a.self, fun j hj => by rw [h]; exact a.others j hj⟩

theorem linkAt_modify {f : CraneLink → CraneLink} (h : s.links.get? l = some x) (ht : t.links = s.links.modify l f)
    (hy : f x = y) : LinkAt l y s t := by
  refine ⟨?_, fun j hj => ?_⟩
  · rw [ht, Table.get?_modify_self, h, ← hy]
    rfl
  · rw [ht, Table.get?_modify_of_ne _ _ hj]

theorem linkAt_modLink {f : CraneLink → CraneLink} (h : s.links.get? l = some x) (hy : f x = y) :
    LinkAt l y s (s.modLink l f) :=
  linkAt_modify h rfl hy

/-! ### The block in flight -/

/-- The record once its downlink has gone out: the block has moved on (R111). -/
def CraneLink.advanced (x : CraneLink) (served : Bool) : CraneLink :=
  { x with down := downAfter x served, waiting := waitingAfter x served }

theorem ending_of_false (s : State) {p : InFlight → Bool} (hp : ∀ e, p e = false) (v : List InFlight × List Reply)
    (res : Result) : s.ending v p res = v := by
  have hfind : v.1.find? p = none := List.find?_eq_none.mpr fun e _ => by rw [hp]; exact Bool.false_ne_true
  rw [State.ending, hfind, List.eraseP_of_forall_not fun e _ => by rw [hp]; exact Bool.false_ne_true]
  simp

/-- What a downlink of link `l` does to its side block and to the SIDE_DOWN it completes (R111). -/
structure BlockAdvanced (l : Nat) (x : CraneLink) (s t : State) : Prop where
  link : LinkAt l (x.advanced true) s t
  ends : (t.inflight, t.replies) = s.endings [completedSide x true] .done
  frame : t = { s with links := t.links, inflight := t.inflight, replies := t.replies }

theorem advanceBlock_of_none (hx : s.links.get? l = some x) (hd : x.down = none) : s.advanceBlock l = s := by
  unfold State.advanceBlock
  rw [hx]
  dsimp only
  rw [hd]

theorem advanceBlock_of_lt {b : DownBlock} (hx : s.links.get? l = some x) (hd : x.down = some b) (hb : b.pos < 23) :
    s.advanceBlock l = s.modLink l fun k => { k with down := some { b with pos := b.pos + 1 } } := by
  unfold State.advanceBlock
  rw [hx]
  dsimp only
  rw [hd]
  exact if_pos hb

theorem advanceBlock_of_last {b : DownBlock} (hx : s.links.get? l = some x) (hd : x.down = some b) (hb : 23 ≤ b.pos) :
    s.advanceBlock l =
      (s.modLink l fun k =>
        { k with down := k.waiting.map fun w => { bytes := w.bytes, pos := 0, req := w.req }, waiting := none }).endOldest
        (InFlight.is .sideDown (.context x.owner) b.req) .done := by
  unfold State.advanceBlock
  rw [hx]
  dsimp only
  rw [hd]
  exact if_neg (Nat.not_lt.mpr hb)

theorem completedSide_of_last {b : DownBlock} (hd : x.down = some b) (hb : 23 ≤ b.pos) :
    completedSide x true = InFlight.is .sideDown (.context x.owner) b.req := by
  funext e
  simp [completedSide, hd, hb]

theorem completedSide_of_lt (h : ∀ b, x.down = some b → b.pos < 23) (e : InFlight) : completedSide x true e = false := by
  cases hd : x.down with
  | none => simp [completedSide, hd]
  | some b => simp [completedSide, hd, Nat.not_le.mpr (h b hd)]

theorem advanced_of_none (hd : x.down = none) : x.advanced true = x := by
  obtain ⟨⟩ := x
  cases hd
  simp [CraneLink.advanced, downAfter, waitingAfter]

theorem advanced_of_lt {b : DownBlock} (hd : x.down = some b) (hb : b.pos < 23) :
    x.advanced true = { x with down := some { b with pos := b.pos + 1 } } := by
  simp [CraneLink.advanced, downAfter, waitingAfter, hd, hb]

theorem advanced_of_last {b : DownBlock} (hd : x.down = some b) (hb : 23 ≤ b.pos) :
    x.advanced true =
      { x with down := x.waiting.map fun w => { bytes := w.bytes, pos := 0, req := w.req }, waiting := none } := by
  simp [CraneLink.advanced, downAfter, waitingAfter, hd, hb, Nat.not_lt.mpr hb]

theorem blockAdvanced_advanceBlock (hx : s.links.get? l = some x) : BlockAdvanced l x s (s.advanceBlock l) := by
  have hunchanged (h : ∀ b, x.down = some b → b.pos < 23) :
      (s.inflight, s.replies) = s.endings [completedSide x true] .done :=
    (ending_of_false s (completedSide_of_lt h) _ .done).symm
  cases hd : x.down with
  | none =>
    rw [advanceBlock_of_none hx hd]
    exact ⟨by rw [advanced_of_none hd]; exact .refl hx, hunchanged fun b hb => absurd (hd ▸ hb) nofun, rfl⟩
  | some b =>
    by_cases hb : b.pos < 23
    · rw [advanceBlock_of_lt hx hd hb]
      refine ⟨by rw [advanced_of_lt hd hb]; exact linkAt_modLink hx rfl, hunchanged fun b' hb' => ?_, rfl⟩
      rw [hd] at hb'
      cases hb'
      exact hb
    · have hb' : 23 ≤ b.pos := Nat.not_lt.mp hb
      rw [advanceBlock_of_last hx hd hb', endOldest_ending]
      have hlink : LinkAt l (x.advanced true) s (s.modLink l fun k =>
          { k with down := k.waiting.map fun w => { bytes := w.bytes, pos := 0, req := w.req }, waiting := none }) :=
        linkAt_modLink hx (advanced_of_last hd hb').symm
      refine ⟨hlink.congr rfl, ?_, rfl⟩
      rw [completedSide_of_last hd hb']
      rfl

/-! ### SIDE_DOWN and CRANE_READ -/

theorem placeBlock_of_free (hd : x.down = none) (b : Bytes48) (t : ReqTag) :
    s.placeBlock k l b t x = s.modLink l fun y => { y with down := some { bytes := b, pos := 0, req := t } } := by
  unfold State.placeBlock
  rw [hd]

theorem placeBlock_of_waiting_free (hd : x.down.isSome) (hw : x.waiting = none) (b : Bytes48) (t : ReqTag) :
    s.placeBlock k l b t x = s.modLink l fun y => { y with waiting := some { bytes := b, req := t } } := by
  obtain ⟨d, hd⟩ := Option.isSome_iff_exists.mp hd
  unfold State.placeBlock
  rw [hd, hw]

theorem placeBlock_of_waiting {w : WaitBlock} (hd : x.down.isSome) (hw : x.waiting = some w) (b : Bytes48) (t : ReqTag) :
    s.placeBlock k l b t x =
      (s.modLink l fun y => { y with waiting := some { bytes := b, req := t } }).endNewest
        (InFlight.is .sideDown (.context k) w.req) .replaced := by
  obtain ⟨d, hd⟩ := Option.isSome_iff_exists.mp hd
  unfold State.placeBlock
  rw [hd, hw]

theorem is_iff (kind : LongKind) (sub : Subject) (t : ReqTag) (e : InFlight) :
    InFlight.is kind sub t e = true ↔ e.kind = kind ∧ e.subject = sub ∧ e.reqTag = t := by
  simp [InFlight.is, and_assoc]

/-- The newest of the entries that satisfy `p` is the one with none behind it. -/
theorem endNewest_of_split {p : InFlight → Bool} {before behind : List InFlight} {e : InFlight}
    (hs : s.inflight = before ++ e :: behind) (he : p e = true) (hb : ∀ e' ∈ behind, ¬ p e' = true) (res : Result) :
    s.endNewest p res =
      { s with inflight := before ++ behind, replies := s.replies ++ [s.endReply e res] } := by
  have hrev : s.inflight.reverse = behind.reverse ++ e :: before.reverse := by rw [hs]; simp
  have hb' : ∀ e' ∈ behind.reverse, ¬ p e' = true := fun e' he' => hb e' (List.mem_reverse.mp he')
  have hfind : (behind.reverse ++ e :: before.reverse).find? p = some e := by
    rw [List.find?_append, List.find?_eq_none.mpr hb', List.find?_cons_of_pos he]
    rfl
  have herase : ((behind.reverse ++ e :: before.reverse).eraseP p).reverse = before ++ behind := by
    rw [List.eraseP_append_right _ hb', List.eraseP_cons_of_pos he]
    simp
  unfold State.endNewest
  rw [hrev, hfind, herase]

/-- Settles O51: the block by what is in flight and pending, and the advance of the block sent. -/
theorem sideBlocksGoDownInOrder : Obligations.SideBlocksGoDownInOrder := by
  intro r s k c l x hnames
  have hx : s.links.get? l = some x := by
    obtain ⟨-, -, -, -, hx⟩ := hnames
    exact hx
  refine ⟨fun os b hcarries hblock => ?_, fun b hd howner => ?_, fun hbare => ?_⟩
  · have hexec : exec (.sideDown r) s = execSideDown r s := rfl
    rw [execSideDown, craneTarget_of_names hnames hcarries] at hexec
    dsimp only at hexec
    rw [show os.block = some b from hblock] at hexec
    dsimp only at hexec
    refine ⟨fun hfull => ?_, fun hroom hd => ?_, fun hroom hd hw => ?_,
      fun w before behind e hroom hd hw hs hkind hsub htag hbehind => ?_⟩
    · rw [hexec, if_pos (show s.inflightFull = true from decide_eq_true hfull)]
      rfl
    all_goals
      have hfull : ¬ s.inflightFull = true := fun hf => absurd hroom (Nat.not_lt.mpr (of_decide_eq_true hf))
      rw [hexec, if_neg hfull, takeSideDown]
    · rw [placeBlock_of_free hd]
      rfl
    · rw [placeBlock_of_waiting_free hd hw]
      rfl
    · have he := (is_iff .sideDown (.context k) w.req e).mpr ⟨hkind, hsub, htag⟩
      rw [placeBlock_of_waiting hd hw, endNewest_of_split (s := s.modLink l _) hs he fun e' he' h =>
        hbehind e' he' ((is_iff _ _ _ _).mp h), State.endReply, hkind, hsub]
      rfl
  · have hadv := blockAdvanced_advanceBlock hx
    refine ⟨hadv.link.self, hadv.link.others, fun hb => ?_, fun hb => ⟨?_, hadv.frame⟩⟩
    · rw [advanceBlock_of_lt hx hd hb]
      rfl
    · rw [hadv.ends, completedSide_of_last hd hb, howner]
  · have hexec : exec (.craneRead r) s = execCraneRead r s := rfl
    rw [execCraneRead, craneTarget_of_names hnames (carries_bare hbare rfl)] at hexec
    exact hexec

end Sys2Proof.Machine
end

section
/-! CRANE_START, SETPOINT, CRANE_RESUME, CRANE_STOP and CRANE_RELEASE (R95 to R97, R103 to R105), with what an admitted
reservation, a release and the end of a handover write (R52, R56, R121). -/

namespace Sys2Proof.Machine

variable {s t u : State} {r : Request} {q : ReqKind} {os : Options} {k l n : Nat} {c : Context} {x y : CraneLink}
  {g h : HeadIx}

/-! ### Admission -/

theorem admissionTest_eq_admitted (y : Head) (a : Account) (n : Nat) :
    admissionTest y a n = .admitted ↔ y.state = .active ∧ a.standing + a.prepared + n ≤ y.capacity := by
  unfold admissionTest
  by_cases hactive : y.state = .active
  · have heff : y.effective = y.capacity := by simp [Head.effective, hactive]
    rw [if_neg (not_not.mpr hactive), heff]
    by_cases hle : a.standing + a.prepared + n ≤ y.capacity
    · simp [hactive, hle]
    · simp [hle]
  · simp [hactive]

/-- The account of a head once a reservation has joined its list, the window fitted (R49, R57). -/
def Account.joined (a : Account) (y : Head) (kind : ResKind) (l n : Nat) : Account :=
  { a with
    list := a.list ++ [{ kind := kind, units := n, owner := l }]
    wg := min a.wreq (y.effective - a.standing - a.prepared - n) }

theorem grantedWindow_joined (y : Head) (a : Account) (kind : ResKind) (l n : Nat) :
    grantedWindow y { a with list := a.list ++ [{ kind := kind, units := n, owner := l }] } =
      min a.wreq (y.effective - a.standing - a.prepared - n) := by
  have hsum : Account.standing { a with list := a.list ++ [{ kind := kind, units := n, owner := l }] } +
      Account.prepared { a with list := a.list ++ [{ kind := kind, units := n, owner := l }] } =
        a.standing + a.prepared + n := by
    rw [standing_add_prepared, standing_add_prepared]
    simp
  unfold grantedWindow
  dsimp only
  omega

/-- A reservation that joins a list leaves no more window than before, so no wait-list pass follows. -/
theorem join_eq (hlaw : s.airtimeLaw) (h : HeadIx) (kind : ResKind) (l n : Nat) :
    s.join h kind l n = s.setAccount h ((s.account h).joined (s.head h) kind l n) := by
  obtain ⟨hwg, -⟩ := hlaw h
  have hle : ¬ (s.account h).wg < ((s.account h).joined (s.head h) kind l n).wg := by
    rw [hwg, grantedWindow, Account.joined]
    dsimp only
    omega
  rw [State.join, fit_eq, State.modAccount, State.account_setAccount_self, State.setAccount_setAccount, State.head_setAccount,
    grantedWindow_joined]
  unfold State.passIfGrown
  rw [State.account_setAccount_self]
  exact if_neg hle

theorem joinStanding_eq (hlaw : s.airtimeLaw) (hres : s.reservation .standing l = none) :
    s.joinStanding h l n = s.setAccount h ((s.account h).joined (s.head h) .standing l n) := by
  unfold State.joinStanding
  rw [hres]
  exact join_eq hlaw h .standing l n

/-! ### Release and the end of a handover -/

/-- The state once a link's reservation of a kind on a head is released, the window fitted and, when it grew, the wait list
passed over (R56, R57). -/
def State.released (s : State) (g : HeadIx) (kind : ResKind) (l : Nat) : State :=
  let a := s.account g
  let freed : Account := { a with list := a.list.filter fun q => !(q.kind == kind && q.owner == l) }
  if s.holds kind l g then
    (s.setAccount g
      { freed with wg := min a.wreq ((s.head g).effective - freed.standing - freed.prepared) }).passIfGrown g a.wg
  else s

theorem releaseOn_eq (s : State) (g : HeadIx) (kind : ResKind) (l : Nat) : s.releaseOn g kind l = s.released g kind l := by
  unfold State.releaseOn State.released State.holds
  split
  · rw [fit_eq, State.modAccount, State.account_setAccount_self, State.setAccount_setAccount, State.head_setAccount]
    rfl
  · rfl

/-- The records that end with a handover: the phase, and the target's count where the cause sets it to 0 (R121). -/
def State.withoutHandover (s : State) (l k : Nat) (g : HeadIx) (cause : HandoverCause) : State :=
  { s with
    links := s.links.modify l fun y => { y with phase := .none }
    contexts := if cause.keepsCount then s.contexts else s.contexts.modify k fun c => c.clearCount g }

theorem endHandover_of_target (hx : s.links.get? l = some x) (hp : x.phase.target? = some g) (cause : HandoverCause) :
    s.endHandover l cause = (s.withoutHandover l x.owner g cause).post (.context x.owner)
      (.handoverFailed (s.linkServing l) g cause) := by
  unfold State.endHandover State.withoutHandover
  rw [hx]
  dsimp only
  rw [hp]
  cases hkeep : cause.keepsCount <;> rfl

theorem endHandover_of_no_target (hx : s.links.get? l = some x) (hp : x.phase.target? = none) (cause : HandoverCause) :
    s.endHandover l cause = s := by
  unfold State.endHandover
  rw [hx]
  dsimp only
  rw [hp]

theorem cancelHandover_of_no_target (hx : s.links.get? l = some x) (hp : x.phase.target? = none) (cause : HandoverCause) :
    s.cancelHandover l cause = s := by
  unfold State.cancelHandover
  rw [hx]
  show (match x.phase.target? with | some t => _ | none => s) = s
  rw [hp]

theorem cancelHandover_of_target (hx : s.links.get? l = some x) (hp : x.phase.target? = some g) (cause : HandoverCause) :
    s.cancelHandover l cause = ((s.releaseOn g .prepared l).withoutHandover l x.owner g cause).post (.context x.owner)
      (.handoverFailed (s.linkServing l) g cause) := by
  have hframe := s.releaseOn_frame g .prepared l
  have hx' : (s.releaseOn g .prepared l).links.get? l = some x := by rw [links_of_pollFrame hframe]; exact hx
  have hserving : (s.releaseOn g .prepared l).linkServing l = s.linkServing l := by
    rw [State.linkServing, State.linkContext, hframe]
    rfl
  unfold State.cancelHandover
  rw [hx]
  show (match x.phase.target? with | some t => _ | none => s) = _
  rw [hp]
  exact (endHandover_of_target hx' hp cause).trans (by rw [hserving])

theorem keepsCount_eq_false (cause : HandoverCause) :
    cause.keepsCount = false ↔ cause = .noAnswer ∨ cause = .ordered ∨ cause = .released := by
  cases cause <;> simp [HandoverCause.keepsCount]

theorem linkServing_of_link (hx : s.links.get? l = some x) (hc : s.contexts.get? x.owner = some c) :
    s.linkServing l = c.serving := by
  rw [State.linkServing, State.linkContext, hx]
  show (s.contexts.get? x.owner).bind _ = _
  rw [hc]
  rfl

/-! ### Downlinks -/

/-- What a cycle's downlinks of link `l` change: the orders, the side block and the SIDE_DOWN it completes (R100, R111). -/
structure DownlinkSent (l : Nat) (x : CraneLink) (c : Context) (s t : State) : Prop where
  link : LinkAt l (x.advanced c.serving.isSome) s t
  orders : t.orders = s.orders ++ downlinksOf x c x.phase.switchTarget
  ends : (t.inflight, t.replies) = s.endings [completedSide x c.serving.isSome] .done
  frame : t = { s with links := t.links, orders := t.orders, inflight := t.inflight, replies := t.replies }

theorem advanced_of_unserved (x : CraneLink) : x.advanced false = x := by
  obtain ⟨⟩ := x
  simp only [CraneLink.advanced, downAfter, waitingAfter]
  congr 1
  split <;> simp_all

theorem downlink_eq (x : CraneLink) (tag : Tag) (h : HeadIx) :
    x.downlink tag h = .craneDownlink h tag x.current (if x.state = .safeStop then .stop x.cause else .setpoint)
      x.phase.switchTarget (sideOf x) := by
  unfold CraneLink.downlink CraneLink.body
  cases x.state <;> rfl

theorem downlinkSent_sendDownlink (hx : s.links.get? l = some x) (hc : s.contexts.get? x.owner = some c) :
    DownlinkSent l x c s (s.sendDownlink l) := by
  have hctx : s.linkContext l = some c := by rw [State.linkContext, hx]; exact hc
  unfold State.sendDownlink
  rw [hx, hctx]
  dsimp only
  cases hserv : c.serving with
  | none =>
    refine ⟨by rw [hserv]; exact (advanced_of_unserved x).symm ▸ .refl hx, ?_, ?_, rfl⟩
    · simp [downlinksOf, hserv]
    · rw [hserv]
      exact (ending_of_false s (fun e => by simp [completedSide]) _ .done).symm
  | some h =>
    dsimp only
    have hadv (orders : List Order) := blockAdvanced_advanceBlock (s := { s with orders := orders }) (l := l) (x := x) hx
    have hsent (orders : List Order)
        (ho : s.orders ++ downlinksOf x c x.phase.switchTarget = orders) :
        DownlinkSent l x c s (State.advanceBlock { s with orders := orders } l) := by
      obtain ⟨⟨hself, hothers⟩, hends, hframe⟩ := hadv orders
      refine ⟨by rw [hserv]; exact ⟨hself, hothers⟩, ?_, by rw [hserv]; exact hends, ?_⟩
      · rw [hframe]
        exact ho.symm
      · generalize State.advanceBlock { s with orders := orders } l = t at hframe
        conv_lhs => rw [hframe]
        rw [hframe]
    cases hswitch : x.phase.switchTarget with
    | none => exact hsent _ (by simp only [downlinksOf, hserv, hswitch, downlink_eq]; rfl)
    | some g => exact hsent _ (by simp only [downlinksOf, hserv, hswitch, downlink_eq]; simp)

/-! ### CRANE_START -/

/-- Settles O49: the checks in order, then the standing reservation, the record and the first downlink. -/
theorem craneStartStartsTheLink : Obligations.CraneStartStartsTheLink := by
  intro r s k c l x os p hnames hcarries hp
  have hexec : exec (.craneStart r) s = execCraneStart r s := rfl
  rw [execCraneStart, craneTarget_of_names hnames hcarries] at hexec
  dsimp only at hexec
  rw [show os.setpoint = some p from hp] at hexec
  dsimp only at hexec
  have hunits : (craneSettings os x).units.value = settingOf 4 48 x.units (os.nat .units) := by
    simp only [craneSettings, clampOpt_eq]
  rw [hunits] at hexec
  obtain ⟨-, hc, -, -, hx⟩ := hnames
  refine ⟨fun hidle => ?_, fun hidle hserv => ?_, fun h hidle hserv hres => ?_⟩
  · rw [craneStartChecks, if_pos hidle] at hexec
    exact hexec
  · rw [craneStartChecks, if_neg (not_not.mpr hidle), hserv] at hexec
    exact hexec
  · rw [craneStartChecks, if_neg (not_not.mpr hidle), hserv] at hexec
    dsimp only at hexec
    rw [State.askStanding, hres] at hexec
    dsimp only at hexec
    refine ⟨fun hno => ?_, fun hactive hroom hlaw howner => ?_⟩
    · rw [if_neg (mt (admissionTest_eq_admitted _ _ _).mp hno)] at hexec
      exact hexec
    · rw [if_pos ((admissionTest_eq_admitted _ _ _).mpr ⟨hactive, hroom⟩)] at hexec
      have heff : (s.head h).effective = (s.head h).capacity := by simp [Head.effective, hactive]
      let x' := (craneSettings os x).start p x
      let s' := (s.setAccount h ((s.account h).joined (s.head h) .standing l (settingOf 4 48 x.units (os.nat .units)))).modLink l
        ((craneSettings os x).start p)
      have htake : takeCraneStart l h (craneSettings os x) p s = s'.sendDownlink l := by
        rw [takeCraneStart, hunits, joinStanding_eq hlaw hres]
      have hlink : LinkAt l x' s s' := linkAt_modify hx rfl rfl
      have hsent := downlinkSent_sendDownlink (s := s') (c := c) hlink.self (by show s.contexts.get? x.owner = _; rw [howner, hc])
      have hserved : c.serving.isSome = true := by rw [hserv]; rfl
      dsimp only at hexec
      rw [htake] at hexec
      have hx' : x' =
          { x with
            period := settingOf 2 64 x.period (os.nat .period), units := settingOf 4 48 x.units (os.nat .units),
            holdLimit := settingOf 1 15 x.holdLimit (os.nat .holdLimit),
            missLimit := settingOf 1 15 x.missLimit (os.nat .missLimit), current := some { sp := p, fresh := true },
            next := none, repeats := 0, misses := 0, heard := false, heardLast := false, feedback := none,
            assembly := none, releasePending := false, phase := .none, state := .running,
            cycle := some (settingOf 2 64 x.period (os.nat .period)) } := by
        simp only [x', craneSettings, CraneSettings.start, clampOpt_eq]
      have haccount (g : HeadIx) : (s'.sendDownlink l).account g = s'.account g :=
        account_of_airtime (by rw [hsent.frame]) g
      refine ⟨s'.sendDownlink l, ?_, ?_, fun j hj => ?_, ?_, fun g hg => ?_, ?_, ?_, ?_⟩
      · rw [hexec]
        simp only [craneSettings, CraneSettings.clamped, clampOpt_eq]
        rfl
      · rw [hsent.link.self, hx', hserved]
        rfl
      · rw [hsent.link.others j hj, hlink.others j hj]
      · rw [haccount, State.account_modLink, State.account_setAccount_self, ← heff]
        rfl
      · rw [haccount, State.account_modLink, State.account_setAccount_of_ne _ _ hg]
      · rw [hsent.orders, hx', downlinksOf, hserv]
        rfl
      · rw [hsent.ends, hserved]
        rfl
      · rw [hsent.frame]
        rfl

/-! ### SETPOINT, CRANE_RESUME, CRANE_STOP and CRANE_RELEASE -/

/-- The notice queue and the overflow flag after a notice is posted depend on those two alone. -/
theorem post_congr_both (hn : t.notices = s.notices) (ho : t.overflow = s.overflow) (sub : Subject) (d : NoticeContent) :
    (t.post sub d).notices = (s.post sub d).notices ∧ (t.post sub d).overflow = (s.post sub d).overflow := by
  refine ⟨State.post_congr hn sub d, ?_⟩
  unfold State.post
  rw [hn, ← ho]
  dsimp only
  split
  · rfl
  · split <;> rfl

/-- What cancelling a handover writes (R121, R122). -/
theorem cancelHandover_spec (hx : s.links.get? l = some x) (hp : x.phase.target? = some g)
    (hc : s.contexts.get? x.owner = some c) (cause : HandoverCause) :
    let t := s.cancelHandover l cause
    let freed := s.released g .prepared l
    let told := s.post (.context x.owner) (.handoverFailed c.serving g cause)
    LinkAt l { x with phase := .none } s t ∧ t.airtime = freed.airtime ∧ t.orders = freed.orders ∧
      t.reefers = freed.reefers ∧ t.pollWaits = freed.pollWaits ∧
      t.contexts = (if cause.keepsCount then s.contexts else s.contexts.modify x.owner fun y => y.clearCount g) ∧
      t.notices = told.notices ∧ t.overflow = told.overflow := by
  have hframe := s.releaseOn_frame g .prepared l
  have hcancel := cancelHandover_of_target hx hp cause
  rw [linkServing_of_link hx hc] at hcancel
  rw [← releaseOn_eq]
  dsimp only
  rw [hcancel]
  generalize s.releaseOn g .prepared l = u at hframe
  have hlinks : u.links = s.links := by rw [hframe]
  have hcontexts : u.contexts = s.contexts := by rw [hframe]
  have hnotices : u.notices = s.notices := by rw [hframe]
  have hoverflow : u.overflow = s.overflow := by rw [hframe]
  rw [State.post_airtime, State.post_orders, State.post_reefers, State.post_pollWaits, State.post_contexts]
  refine ⟨?_, rfl, rfl, rfl, rfl, ?_, post_congr_both (t := u.withoutHandover l x.owner g cause) hnotices hoverflow _ _⟩
  · exact linkAt_modify hx (by rw [State.post_links, State.withoutHandover, hlinks]) rfl
  · rw [State.withoutHandover, hcontexts]

/-- A link record may be changed before or after a notice is posted. -/
theorem modLink_post (s : State) (l : Nat) (f : CraneLink → CraneLink) (sub : Subject) (d : NoticeContent) :
    (s.post sub d).modLink l f = (s.modLink l f).post sub d := by
  have hboth := post_congr_both (s := s) (t := s.modLink l f) rfl rfl sub d
  rw [(s.modLink l f).post_frame, hboth.1, hboth.2]
  conv_lhs => rw [s.post_frame]
  rfl

theorem released_list (s : State) (g : HeadIx) (kind : ResKind) (l : Nat) :
    ((s.released g kind l).account g).list = (s.account g).list.filter fun q => !(q.kind == kind && q.owner == l) := by
  unfold State.released
  split
  · rw [(polledThrough_passIfGrown _ g _).account, State.account_setAccount_self]
  · next hno =>
    refine (List.filter_eq_self.mpr fun q hq => ?_).symm
    have := List.any_eq_false.mp (Bool.not_eq_true _ ▸ hno) q hq
    simpa [imp_iff_not_or] using this

theorem released_account_of_ne (s : State) (kind : ResKind) (l : Nat) (hne : h ≠ g) :
    (s.released g kind l).account h = s.account h := by
  unfold State.released
  split
  · obtain ⟨-, -, -, hother, -⟩ := (polledThrough_passIfGrown (s.setAccount g _) g _).fields
    rw [hother h hne, State.account_setAccount_of_ne _ _ hne]
  · rfl

/-- The state after a CRANE_RESUME, by what its checks gave. -/
def resumed (r : Request) (s : State) (k : Nat) (c : Context) (l : Nat) (x : CraneLink) (p : Setpoint) :
    Except Result (Option HeadIx) → State
  | .error res => s.reply (replyTo .craneResume r res false (.context k c.tag) [])
  | .ok admitted =>
    (takeCraneResume l admitted x p s).reply (replyTo .craneResume r x.writeResult false (.context k c.tag) [])

theorem exec_craneResume (hnames : namesCrane r s k c l x) (hcarries : carries .craneResume r os) {p : Setpoint}
    (hp : (os.bytes .setpoint).bind setpointOf = some p) {checks : Except Result (Option HeadIx)}
    (hchecks : craneResumeChecks { opts := os, handle := k, ctx := c, link := l, record := x } s = checks) :
    exec (.craneResume r) s = .next (resumed r s k c l x p checks) := by
  have hexec : exec (.craneResume r) s = execCraneResume r s := rfl
  rw [execCraneResume, craneTarget_of_names hnames hcarries] at hexec
  dsimp only at hexec
  rw [show os.setpoint = some p from hp] at hexec
  dsimp only at hexec
  rw [hchecks] at hexec
  rw [hexec]
  cases checks <;> rfl

/-- CRANE_RESUME by its checks (R104). -/
theorem craneResume_spec (hnames : namesCrane r s k c l x) (hcarries : carries .craneResume r os) {p : Setpoint}
    (hp : (os.bytes .setpoint).bind setpointOf = some p) :
    let answered (t : State) (res : Result) : State :=
      t.reply (replyTo .craneResume r res false (.context k c.tag) [])
    (x.state ≠ .safeStop ∨ x.releasePending = true → exec (.craneResume r) s = .next (answered s .wrongState)) ∧
    (x.state = .safeStop → x.releasePending = false →
      (s.reservation .standing l = none → c.serving = none → exec (.craneResume r) s = .next (answered s .notServed)) ∧
      ((s.reservation .standing l).isSome ∨ c.serving.isSome → x.heardLast = false →
        exec (.craneResume r) s = .next (answered s .notHeard)) ∧
      ((s.reservation .standing l).isSome → x.heardLast = true →
        exec (.craneResume r) s = .next (answered (s.writeNext l p) x.writeResult)) ∧
      ∀ h, s.reservation .standing l = none → c.serving = some h → x.heardLast = true →
        (s.askStanding h l x.units ≠ .admitted → exec (.craneResume r) s = .next (answered s .noAirtime)) ∧
        (s.askStanding h l x.units = .admitted →
          exec (.craneResume r) s = .next (answered (takeCraneResume l (some h) x p s) x.writeResult))) := by
  have hexec {checks : Except Result (Option HeadIx)} := exec_craneResume (checks := checks) hnames hcarries hp
  refine ⟨fun hbad => ?_, fun hstate hpend => ?_⟩
  · exact hexec (checks := .error .wrongState) (by unfold craneResumeChecks; exact if_pos hbad)
  have hok : ¬ (x.state ≠ .safeStop ∨ x.releasePending = true) := by simp [hstate, hpend]
  refine ⟨fun hres hserv => ?_, fun hany hheard => ?_, fun hres hheard => ?_, fun h hres hserv hheard => ⟨fun hno => ?_, fun hadm => ?_⟩⟩
  · refine hexec (checks := .error .notServed) ?_
    simp only [craneResumeChecks, if_neg hok, hres, hserv]
  · refine hexec (checks := .error .notHeard) ?_
    cases hres : s.reservation .standing l with
    | some _ => simp only [craneResumeChecks, if_neg hok, hres, hheard, Bool.false_eq_true, if_false]
    | none =>
      cases hserv : c.serving with
      | some _ => simp only [craneResumeChecks, if_neg hok, hres, hserv, hheard, Bool.false_eq_true, if_false]
      | none => simp [hres, hserv] at hany
  · obtain ⟨p', hres⟩ := Option.isSome_iff_exists.mp hres
    refine hexec (checks := .ok none) ?_
    simp only [craneResumeChecks, if_neg hok, hres, hheard, if_true]
  · refine hexec (checks := .error .noAirtime) ?_
    simp only [craneResumeChecks, if_neg hok, hres, hserv, hheard, if_true, if_neg hno]
  · refine hexec (checks := .ok (some h)) ?_
    simp only [craneResumeChecks, if_neg hok, hres, hserv, hheard, if_true, if_pos hadm]

/-- Settles O50: each request by the link state, and the cancelling of a handover by what it releases and writes. -/
theorem linkOrdersActByTheLinkState : Obligations.LinkOrdersActByTheLinkState := by
  intro r s k c l x hnames
  have hnames' := hnames
  obtain ⟨-, hc, -, -, hx⟩ := hnames'
  refine ⟨fun os p hcarries hp => ?_, fun os p hcarries hp => ?_, fun hbare howner => ?_, fun hbare => ?_,
    fun cause hp => cancelHandover_of_no_target hx hp cause, fun cause g hp howner => ?_⟩
  · have hexec : exec (.setpoint r) s = execSetpoint r s := rfl
    rw [execSetpoint, craneTarget_of_names hnames hcarries] at hexec
    dsimp only at hexec
    rw [show os.setpoint = some p from hp] at hexec
    dsimp only at hexec
    constructor
    · rintro (hstate | hstate) <;> rw [hexec, hstate] <;> rfl
    · rintro (hstate | hstate) <;> rw [hexec, hstate] <;> rfl
  · obtain ⟨hwrong, hstopped⟩ := craneResume_spec hnames hcarries hp
    refine ⟨hwrong, fun hstate hpend => ?_⟩
    obtain ⟨hunserved, hunheard, hheld, hadmit⟩ := hstopped hstate hpend
    refine ⟨hunserved, hunheard, hheld, fun h hres hserv hheard => ?_⟩
    obtain ⟨hno, hadm⟩ := hadmit h hres hserv hheard
    have hask : s.askStanding h l x.units = .admitted ↔
        (s.head h).state = .active ∧ (s.account h).standing + (s.account h).prepared + x.units ≤ (s.head h).capacity := by
      rw [State.askStanding, hres]
      exact admissionTest_eq_admitted _ _ _
    refine ⟨fun hbad => hno (mt hask.mp hbad), fun hactive hroom hlaw howner => ?_⟩
    have heff : (s.head h).effective = (s.head h).capacity := by simp [Head.effective, hactive]
    have htake : takeCraneResume l (some h) x p s =
        (({ s with links := s.links.modify l fun y => { y with cause := some .ordered, next := some p } } :
          State).setAccount h ((s.account h).joined (s.head h) .standing l x.units)).post (.context k)
          (.craneState .safeStop (some .ordered)) := by
      rw [takeCraneResume, State.resumeAirtime, joinStanding_eq hlaw hres, State.writeNext, modLink_post, modLink_modLink, howner]
      rfl
    rw [hadm (hask.mpr ⟨hactive, hroom⟩), htake, Account.joined, heff]
    rfl
  · have hexec : exec (.craneStop r) s = execCraneStop r s := rfl
    rw [execCraneStop, craneTarget_of_names hnames (carries_bare hbare rfl)] at hexec
    dsimp only at hexec
    refine ⟨fun hidle => ?_, fun hidle => ?_⟩
    · rw [hexec, if_pos hidle]
      rfl
    · rw [hexec, if_neg hidle, takeCraneStop]
      cases hstate : x.state with
      | idle => exact absurd hstate hidle
      | safeStop => rfl
      | running | holding =>
        rw [State.enterSafeStop_eq hx, howner]
        rfl
  · have hexec : exec (.craneRelease r) s = execCraneRelease r s := rfl
    rw [execCraneRelease, craneTarget_of_names hnames (carries_bare hbare rfl)] at hexec
    dsimp only at hexec
    rw [craneReleaseCheck] at hexec
    refine ⟨fun hstate => ?_, fun hstate hpend => ?_, fun hstate hpend hfull => ?_, fun hstate hpend hroom => ?_⟩
    · rw [if_pos hstate] at hexec
      exact hexec
    all_goals rw [if_neg (not_not.mpr hstate)] at hexec
    · rw [if_pos hpend] at hexec
      exact hexec
    all_goals rw [if_neg (by rw [hpend]; exact Bool.false_ne_true)] at hexec
    · rw [if_pos (show s.inflightFull = true from decide_eq_true hfull)] at hexec
      exact hexec
    · have hfull : ¬ s.inflightFull = true := fun hf => absurd hroom (Nat.not_lt.mpr (of_decide_eq_true hf))
      rw [if_neg hfull] at hexec
      exact hexec
  · obtain ⟨⟨hself, hothers⟩, hairtime, horders, hreefers, hwaits, hcontexts, hnotices, -⟩ :=
      cancelHandover_spec hx hp (howner ▸ hc) cause
    refine ⟨hself, hothers, ?_, fun h hne => ?_, ⟨hairtime, horders, hreefers, hwaits⟩, ?_, ?_, State.cancelHandover_frame s l cause⟩
    · rw [account_of_airtime hairtime, released_list]
    · rw [account_of_airtime hairtime, released_account_of_ne s .prepared l hne]
    · rw [hcontexts, howner]
      cases hkeep : cause.keepsCount with
      | true => rw [if_pos rfl, if_neg fun hcause => by rw [(keepsCount_eq_false cause).mpr hcause] at hkeep; cases hkeep]
      | false => rw [if_neg Bool.false_ne_true, if_pos ((keepsCount_eq_false cause).mp hkeep)]; rfl
    · rw [hnotices, howner]

end Sys2Proof.Machine
end

section
/-! The cycle expiry of a crane link (R98 to R102, R106, R118): its stages one by one, then the expiry whole. -/

namespace Sys2Proof.Machine

variable {s t u v told : State} {k l n : Nat} {c : Context} {x y z : CraneLink} {g h : HeadIx}

/-! ### Stages that write the link and post notices -/

/-- `v` is `s` with the record `y` in link `l` and with the notices of `told`. -/
structure Staged (l : Nat) (y : CraneLink) (told s v : State) : Prop where
  link : LinkAt l y s v
  notices : v.notices = told.notices
  overflow : v.overflow = told.overflow
  frame : v = { s with links := v.links, notices := v.notices, overflow := v.overflow }

theorem Staged.refl (hx : s.links.get? l = some x) : Staged l x s s s := ⟨.refl hx, rfl, rfl, rfl⟩

theorem Staged.modLink (a : Staged l y told s v) {f : CraneLink → CraneLink} (hz : f y = z) :
    Staged l z told s (v.modLink l f) := by
  refine ⟨a.link.trans (linkAt_modLink a.link.self hz), a.notices, a.overflow, ?_⟩
  conv_lhs => rw [a.frame]
  rfl

theorem Staged.post (a : Staged l y told s v) (sub : Subject) (d : NoticeContent) :
    Staged l y (told.post sub d) s (v.post sub d) := by
  obtain ⟨hn, ho⟩ := post_congr_both a.notices a.overflow sub d
  refine ⟨a.link.congr (State.post_links _ _ _), hn, ho, (v.post_frame sub d).trans ?_⟩
  rw [State.post_links]
  generalize (v.post sub d).notices = n
  generalize (v.post sub d).overflow = o
  rw [a.frame]

theorem Staged.contexts (a : Staged l y told s v) : v.contexts = s.contexts := by rw [a.frame]

theorem Staged.served (a : Staged l y told s v) (hc : s.contexts.get? y.owner = some c) :
    v.linkServed l = c.serving.isSome := by
  have hserving : v.linkServing l = c.serving := linkServing_of_link a.link.self (by rw [a.contexts]; exact hc)
  rw [← hserving]
  rfl

/-- What the expiry reads of polls is that of `s`. -/
theorem Staged.samePolls (a : Staged l y told s v) : SamePolls s v := by
  rw [a.frame]
  exact ⟨rfl, rfl, rfl, rfl, rfl, fun _ => rfl⟩

/-- The assembly check on a record (R98, R112). -/
def CraneLink.assemblyChecked (x : CraneLink) (served : Bool) : CraneLink :=
  if x.assembly.isSome && !(x.heard && served) then { x with assembly := none, sideErrors := satInc 255 x.sideErrors } else x

theorem assemblyChecked_eq (x : CraneLink) (served : Bool) :
    x.assemblyChecked served =
      { x with
        assembly := if x.heard && served then x.assembly else none
        sideErrors := if x.assembly.isSome && !(x.heard && served) && x.sideErrors < 255 then x.sideErrors + 1
          else x.sideErrors } := by
  unfold CraneLink.assemblyChecked satInc
  cases hheard : x.heard && served with
  | true => simp
  | false =>
    obtain ⟨⟩ := x
    rename_i assembly _ _ _ _ _ _
    cases assembly with
    | none => simp
    | some fs => simp

theorem Staged.assemblyCheck (a : Staged l y told s v) (hc : s.contexts.get? y.owner = some c) :
    Staged l (y.assemblyChecked c.serving.isSome) told s (v.assemblyCheck l) := by
  unfold State.assemblyCheck
  rw [a.served hc]
  exact a.modLink rfl

/-! ### The handover step -/

/-- The phase after an expiry (R118). -/
def Phase.afterExpiry : Phase → Phase
  | .none => .none
  | .prepared g => .switching g 0
  | .switching g n => if n < 3 then .switching g (n + 1) else .none

/-- The target of a switch that has come to its end unanswered (R118). -/
def Phase.failing : Phase → Option HeadIx
  | .switching g n => if n < 3 then Option.none else some g
  | .none => Option.none
  | .prepared _ => Option.none

/-- The state with a handover that has come to its end cancelled. -/
def State.withoutFailing (s : State) (l : Nat) (x : CraneLink) : State :=
  if x.phase.failing.isSome then s.cancelHandover l .noAnswer else s

/-- `told` with the notice of a handover that has come to its end. -/
def State.failedTold (told : State) (x : CraneLink) (c : Context) : State :=
  match x.phase.failing with
  | some g => told.post (.context x.owner) (.handoverFailed c.serving g .noAnswer)
  | none => told

/-- What the stages of an expiry up to the handover step have changed: what the cancelled handover changes, the link record,
and the notices. -/
structure Stepped (l : Nat) (y : CraneLink) (told s cancelled v : State) : Prop where
  link : LinkAt l y s v
  notices : v.notices = told.notices
  overflow : v.overflow = told.overflow
  contexts : v.contexts = cancelled.contexts
  airtime : v.airtime = cancelled.airtime
  reefers : v.reefers = cancelled.reefers
  pollWaits : v.pollWaits = cancelled.pollWaits
  orders : v.orders = cancelled.orders
  frame : LinkFrame s v

theorem Staged.frame_link (a : Staged l y told s v) : LinkFrame s v := by
  rw [a.frame]
  rfl

theorem Staged.stepped (a : Staged l y told s v) : Stepped l y told s s v :=
  ⟨a.link, a.notices, a.overflow, by rw [a.frame], by rw [a.frame], by rw [a.frame], by rw [a.frame], by rw [a.frame],
    a.frame_link⟩

/-- A release behind stages that have written the link and posted notices releases what it would have before them. -/
theorem Staged.released (a : Staged l y told s v) (g : HeadIx) (kind : ResKind) :
    (v.released g kind l).airtime = (s.released g kind l).airtime ∧ (v.released g kind l).orders = (s.released g kind l).orders ∧
      (v.released g kind l).reefers = (s.released g kind l).reefers ∧
      (v.released g kind l).pollWaits = (s.released g kind l).pollWaits := by
  rw [← releaseOn_eq, ← releaseOn_eq]
  obtain ⟨new, hs, hv⟩ := mirror_releaseOn a.samePolls g kind l
  have horders : v.orders = s.orders := by rw [a.frame]
  generalize s.releaseOn g kind l = s' at hs hv
  rw [hv]
  refine ⟨rfl, ?_, rfl, rfl⟩
  rw [hs]
  show v.orders ++ new = s.orders ++ new
  rw [horders]

theorem Staged.cancelHandover (a : Staged l y told s v) (hx : s.links.get? l = some x) (howner : y.owner = x.owner)
    (hphase : y.phase.target? = some g) (hphase' : x.phase.target? = some g) (hc : s.contexts.get? x.owner = some c)
    (cause : HandoverCause) :
    Stepped l { y with phase := .none } (told.post (.context x.owner) (.handoverFailed c.serving g cause)) s
      (s.cancelHandover l cause) (v.cancelHandover l cause) := by
  obtain ⟨-, hair, horders, hreefers, hwaits, hcontexts, -, -⟩ := cancelHandover_spec hx hphase' hc cause
  obtain ⟨hlink', hair', horders', hreefers', hwaits', hcontexts', hnotices', hoverflow'⟩ :=
    cancelHandover_spec (c := c) a.link.self hphase (by rw [a.contexts, howner]; exact hc) cause
  obtain ⟨rair, rorders, rreefers, rwaits⟩ := a.released g .prepared
  obtain ⟨hn, ho⟩ := post_congr_both a.notices a.overflow (.context x.owner) (.handoverFailed c.serving g cause)
  rw [howner] at hcontexts' hnotices' hoverflow'
  exact
    { link := a.link.trans hlink', notices := hnotices'.trans hn, overflow := hoverflow'.trans ho,
      contexts := by rw [hcontexts', hcontexts, a.contexts], airtime := by rw [hair', hair, rair],
      reefers := by rw [hreefers', hreefers, rreefers], pollWaits := by rw [hwaits', hwaits, rwaits],
      orders := by rw [horders', horders, rorders],
      frame := a.frame_link.trans (State.cancelHandover_frame v l cause) }

theorem Staged.handoverStep (a : Staged l y told s v) (hx : s.links.get? l = some x) (howner : y.owner = x.owner)
    (hphase : y.phase = x.phase) (hc : s.contexts.get? x.owner = some c) :
    Stepped l { y with phase := x.phase.afterExpiry } (told.failedTold x c) s (s.withoutFailing l x) (v.handoverStep l) := by
  unfold State.handoverStep State.failedTold State.withoutFailing
  rw [a.link.self]
  dsimp only
  cases hp : x.phase with
  | none =>
    rw [hphase, hp]
    have hy : { y with phase := Phase.afterExpiry .none } = y := by rw [Phase.afterExpiry, ← hp, ← hphase]
    rw [hy]
    exact a.stepped
  | prepared g =>
    rw [hphase, hp]
    exact Staged.stepped (Staged.modLink a rfl)
  | switching g n =>
    rw [hphase, hp]
    by_cases hn : n < 3
    · simp only [Phase.failing, Phase.afterExpiry, if_pos hn]
      exact Staged.stepped (Staged.modLink a rfl)
    · simp only [Phase.failing, Phase.afterExpiry, if_neg hn, Option.isSome_some, if_true]
      rw [cancelHandover_modPhase (g := g) a.link.self (by rw [hphase, hp]; rfl) rfl]
      exact a.cancelHandover hx howner (by rw [hphase, hp]; rfl) (by rw [hp]; rfl) hc .noAnswer

/-! ### The downlink and the end of the cycle -/

/-- The record at the end of its cycle (R100, R112). -/
def CraneLink.cycleClosed (x : CraneLink) (served : Bool) : CraneLink :=
  { x with
    heardLast := x.heard && served, heard := false
    feedback := x.feedback.map fun f => { f with age := satInc 255 f.age } }

theorem downlinksOf_congr {c' : Context} (hs : c'.serving = c.serving) (ht : c'.tag = c.tag) (x : CraneLink)
    (g : Option HeadIx) : downlinksOf x c' g = downlinksOf x c g := by
  unfold downlinksOf
  rw [hs, ht]

theorem get?_contexts_of_clearCount {m : Table Context} (hc : m.get? k = some c) (j : Nat) (g : HeadIx) :
    ∃ c', (m.modify j fun y => y.clearCount g).get? k = some c' ∧ c'.serving = c.serving ∧ c'.tag = c.tag := by
  by_cases hk : k = j
  · subst hk
    exact ⟨c.clearCount g, by rw [Table.get?_modify_self, hc]; rfl, rfl, rfl⟩
  · exact ⟨c, by rw [Table.get?_modify_of_ne _ _ hk]; exact hc, rfl, rfl⟩

theorem released_orders (s : State) (g : HeadIx) (kind : ResKind) (l : Nat) :
    ∃ polls, (s.released g kind l).orders = s.orders ++ polls ∧ ∀ o ∈ polls, ∃ h tag, o = Order.poll h tag := by
  unfold State.released
  split
  · obtain ⟨polls, horders, htags⟩ := (polledThrough_passIfGrown (s.setAccount g _) g _).polls_sent
    exact ⟨polls, horders, fun o ho => ⟨g, htags o ho⟩⟩
  · exact ⟨[], (List.append_nil _).symm, nofun⟩

/-- What cancelling a handover leaves for the rest of an expiry. -/
theorem cancelHandover_rest (hx : s.links.get? l = some x) (hp : x.phase.target? = some g)
    (hc : s.contexts.get? x.owner = some c) (cause : HandoverCause) :
    (∃ c', (s.cancelHandover l cause).contexts.get? x.owner = some c' ∧ c'.serving = c.serving ∧ c'.tag = c.tag) ∧
      (∃ polls, (s.cancelHandover l cause).orders = s.orders ++ polls ∧ ∀ o ∈ polls, ∃ h tag, o = Order.poll h tag) ∧
      (s.cancelHandover l cause).holds .prepared l g = false := by
  obtain ⟨-, hair, horders, -, -, hcontexts, -, -⟩ := cancelHandover_spec hx hp hc cause
  refine ⟨?_, ?_, ?_⟩
  · rw [hcontexts]
    split
    · exact ⟨c, hc, rfl, rfl⟩
    · exact get?_contexts_of_clearCount hc _ _
  · rw [horders]
    exact released_orders s g .prepared l
  · rw [State.holds, account_of_airtime hair, released_list]
    simp only [List.any_filter, List.any_eq_false, Bool.and_eq_true, Bool.not_eq_true', Bool.and_eq_false_iff]
    rintro q - ⟨hno, hkind, howner⟩
    exact hno.elim (by simp [hkind]) (by simp [howner])

theorem Phase.target?_of_failing {p : Phase} (h : p.failing = some g) : p.target? = some g := by
  cases p with
  | none => cases h
  | prepared _ => cases h
  | switching g' n =>
    simp only [Phase.failing] at h
    split at h
    · cases h
    · exact h

/-- What an expiry that ends the cycle has done, when its stages leave the link as `y` and the notices as in `told`. -/
structure CycleEnded (l : Nat) (y : CraneLink) (c : Context) (told s cancelled t : State) : Prop where
  link : LinkAt l ((y.advanced c.serving.isSome).cycleClosed c.serving.isSome) s t
  notices : t.notices = told.notices
  overflow : t.overflow = told.overflow
  contexts : t.contexts = cancelled.contexts
  airtime : t.airtime = cancelled.airtime
  reefers : t.reefers = cancelled.reefers
  pollWaits : t.pollWaits = cancelled.pollWaits
  orders : t.orders = cancelled.orders ++ downlinksOf y c y.phase.switchTarget
  ends : (t.inflight, t.replies) = s.endings [completedSide y c.serving.isSome] .done
  frame : t =
    { s with
      links := t.links, contexts := t.contexts, airtime := t.airtime, reefers := t.reefers,
      pollWaits := t.pollWaits, orders := t.orders, notices := t.notices, overflow := t.overflow,
      inflight := t.inflight, replies := t.replies }

/-- Two states in which the contexts have the same tags name the subjects of replies alike. -/
theorem identity_congr (htags : ∀ k, (t.contexts.get? k).map (·.tag) = (s.contexts.get? k).map (·.tag)) (sub : Subject) :
    t.identity sub = s.identity sub := by
  cases sub with
  | head h => rfl
  | context k =>
    have hk := htags k
    unfold State.identity
    cases hs : s.contexts.get? k <;> cases ht : t.contexts.get? k <;> simp_all

theorem ending_of_tags (htags : ∀ k, (t.contexts.get? k).map (·.tag) = (s.contexts.get? k).map (·.tag))
    (v : List InFlight × List Reply) (p : InFlight → Bool) (res : Result) : t.ending v p res = s.ending v p res := by
  unfold State.ending State.endReply
  simp only [identity_congr htags]

theorem endings_congr (hi : t.inflight = s.inflight) (hr : t.replies = s.replies)
    (htags : ∀ k, (t.contexts.get? k).map (·.tag) = (s.contexts.get? k).map (·.tag)) (ps : List (InFlight → Bool))
    (res : Result) : t.endings ps res = s.endings ps res := by
  have hending : t.ending = s.ending := by
    funext v p res
    exact ending_of_tags htags v p res
  unfold State.endings
  rw [hi, hr, hending]

theorem tags_of_clearCount (m : Table Context) (j : Nat) (g : HeadIx) (k : Nat) :
    ((m.modify j fun y => y.clearCount g).get? k).map (·.tag) = (m.get? k).map (·.tag) := by
  rw [Table.get?_modify]
  split
  · rw [Option.map_map]
    rfl
  · rfl

/-- The downlinks of the cycle and its end, behind the handover step. -/
theorem Stepped.cycleEnded (a : Stepped l y told s u v)
    (hc : ∃ c', u.contexts.get? y.owner = some c' ∧ c'.serving = c.serving ∧ c'.tag = c.tag)
    (htags : ∀ k, (u.contexts.get? k).map (·.tag) = (s.contexts.get? k).map (·.tag)) :
    CycleEnded l y c told s u ((v.sendDownlink l).closeCycle l) := by
  obtain ⟨c', hc', hserving, htag⟩ := hc
  have hsent := downlinkSent_sendDownlink a.link.self (c := c') (by rw [a.contexts]; exact hc')
  generalize v.sendDownlink l = w at hsent
  have hlink : LinkAt l (y.advanced c.serving.isSome) s w := a.link.trans (hserving ▸ hsent.link)
  have hcontexts : w.contexts = u.contexts := by rw [hsent.frame]; exact a.contexts
  have hserved : w.linkServed l = c.serving.isSome := by
    have : w.linkServing l = c'.serving := linkServing_of_link hlink.self (by rw [hcontexts]; exact hc')
    rw [← hserving, ← this]
    rfl
  have hinflight : v.inflight = s.inflight := by rw [a.frame]
  have hreplies : v.replies = s.replies := by rw [a.frame]
  unfold State.closeCycle
  rw [hserved]
  refine ⟨hlink.trans (linkAt_modLink hlink.self rfl), ?_, ?_, hcontexts, ?_, ?_, ?_, ?_, ?_, ?_⟩
  · rw [← a.notices]
    show w.notices = v.notices
    rw [hsent.frame]
  · rw [← a.overflow]
    show w.overflow = v.overflow
    rw [hsent.frame]
  · rw [← a.airtime]
    show w.airtime = v.airtime
    rw [hsent.frame]
  · rw [← a.reefers]
    show w.reefers = v.reefers
    rw [hsent.frame]
  · rw [← a.pollWaits]
    show w.pollWaits = v.pollWaits
    rw [hsent.frame]
  · rw [← a.orders, ← downlinksOf_congr hserving htag]
    exact hsent.orders
  · rw [← endings_congr hinflight hreplies (fun k => by rw [a.contexts]; exact htags k)]
    exact hserving ▸ hsent.ends
  · conv_lhs => rw [State.modLink, hsent.frame, a.frame]
    rw [hsent.frame]
    rfl

/-- What the cancelling of a switch that has come to its end leaves for the rest of an expiry. -/
theorem withoutFailing_rest (hx : s.links.get? l = some x) (hc : s.contexts.get? x.owner = some c) :
    (∃ c', (s.withoutFailing l x).contexts.get? x.owner = some c' ∧ c'.serving = c.serving ∧ c'.tag = c.tag) ∧
      (∀ k, ((s.withoutFailing l x).contexts.get? k).map (·.tag) = (s.contexts.get? k).map (·.tag)) ∧
      (∃ polls, (s.withoutFailing l x).orders = s.orders ++ polls ∧ ∀ o ∈ polls, ∃ h tag, o = Order.poll h tag) ∧
      ∀ g, x.phase.failing = some g → (s.withoutFailing l x).holds .prepared l g = false := by
  unfold State.withoutFailing
  cases hfail : x.phase.failing with
  | none => exact ⟨⟨c, hc, rfl, rfl⟩, fun _ => rfl, ⟨[], (List.append_nil _).symm, nofun⟩, nofun⟩
  | some g =>
    have hp := Phase.target?_of_failing hfail
    obtain ⟨hctx, hpolls, hholds⟩ := cancelHandover_rest hx hp hc .noAnswer
    obtain ⟨-, -, -, -, -, hcontexts, -, -⟩ := cancelHandover_spec hx hp hc .noAnswer
    refine ⟨hctx, fun k => ?_, hpolls, fun g' hg' => ?_⟩
    · show (((s.cancelHandover l .noAnswer).contexts.get? k).map _) = _
      rw [hcontexts]
      exact tags_of_clearCount _ _ _ _
    · cases hg'
      exact hholds

/-- An expiry whose stages have left the link as `y`: the handover step, the downlink and the end of the cycle. -/
theorem Staged.cycleEnded (a : Staged l y told s v) (hx : s.links.get? l = some x) (hc : s.contexts.get? x.owner = some c)
    (howner : y.owner = x.owner) (hphase : y.phase = x.phase) :
    CycleEnded l { y with phase := x.phase.afterExpiry } c (told.failedTold x c) s (s.withoutFailing l x)
      (((v.handoverStep l).sendDownlink l).closeCycle l) := by
  obtain ⟨hctx, htags, -, -⟩ := withoutFailing_rest hx hc
  exact (a.handoverStep hx howner hphase hc).cycleEnded (by rw [howner]; exact hctx) htags

/-! ### The expiry whole -/

/-- The link once an expiry has begun: the cycle timer runs again (R94). -/
def CraneLink.restarted (x : CraneLink) : CraneLink := { x with cycle := some x.period }

theorem staged_restarted (hx : s.links.get? l = some x) :
    Staged l x.restarted s s (s.modLink l fun k => { k with cycle := some k.period }) :=
  (Staged.refl hx).modLink rfl

theorem exec_cycleExpiry_of_running {l : Fin 32} (hx : s.links.get? l.val = some x) (hcycle : x.cycle = some 0)
    (hstate : x.state = .running ∨ x.state = .holding) :
    exec (.cycleExpiry l) s = .next ((s.modLink l.val fun k => { k with cycle := some k.period }).runningExpiry l.val) := by
  have hexec : exec (.cycleExpiry l) s = .next (s.cycleExpiry l.val) := rfl
  rw [State.cycleExpiry, hx] at hexec
  dsimp only at hexec
  rw [if_pos hcycle] at hexec
  rcases hstate with hstate | hstate <;> rw [hstate] at hexec <;> exact hexec

theorem exec_cycleExpiry_of_stopped {l : Fin 32} (hx : s.links.get? l.val = some x) (hcycle : x.cycle = some 0)
    (hstate : x.state = .safeStop) :
    exec (.cycleExpiry l) s = .next ((s.modLink l.val fun k => { k with cycle := some k.period }).stoppedExpiry l.val x) := by
  have hexec : exec (.cycleExpiry l) s = .next (s.cycleExpiry l.val) := rfl
  rw [State.cycleExpiry, hx] at hexec
  dsimp only at hexec
  rw [if_pos hcycle, hstate] at hexec
  exact hexec

theorem Staged.setpointStage_next {p : Setpoint} (a : Staged l y told s v) (hs : y.state = .running ∨ y.state = .holding)
    (hp : y.next = some p) :
    Staged l { y with current := some { sp := p, fresh := true }, next := none, repeats := 0, state := .running } told s
      (v.setpointStage l) := by
  rw [setpointStage_of_next a.link.self hs hp]
  exact a.modLink rfl

theorem Staged.setpointStage_repeated (a : Staged l y told s v) (hs : y.state = .running ∨ y.state = .holding)
    (hp : y.next = none) (h : y.repeats + 1 < y.holdLimit) :
    Staged l { y with
      current := y.current.map fun c => { c with fresh := false }, repeats := y.repeats + 1, state := .holding } told s
      (v.setpointStage l) := by
  rw [setpointStage_of_lt a.link.self hs hp h]
  exact a.modLink rfl

theorem Staged.setpointStage_held (a : Staged l y told s v) (hs : y.state = .running ∨ y.state = .holding)
    (hp : y.next = none) (h : y.holdLimit ≤ y.repeats + 1) :
    Staged l { y with
        current := y.current.map fun c => { c with fresh := false }, repeats := y.repeats + 1, state := .safeStop,
        cause := some .holdLimit }
      (told.post (.context y.owner) (.craneState .safeStop (some .holdLimit))) s (v.setpointStage l) := by
  rw [setpointStage_of_le a.link.self hs hp h]
  refine Staged.post (Staged.modLink a ?_) _ _
  simp only [hp]

theorem Staged.setpointStage_stopped (a : Staged l y told s v) (hs : y.state = .safeStop) :
    Staged l y told s (v.setpointStage l) := by
  rw [setpointStage_of_not fun k hk => ?_]
  · exact a
  · rw [a.link.self] at hk
    cases hk
    simp [hs]

theorem Staged.uplinkCheck_heard (a : Staged l y told s v) (h : y.nextMisses < y.missLimit) :
    Staged l { y with misses := y.nextMisses } told s (v.uplinkCheck l) := by
  rw [uplinkCheck_of_lt a.link.self h]
  exact a.modLink rfl

theorem Staged.uplinkCheck_lost (a : Staged l y told s v) (h : y.missLimit ≤ y.nextMisses) :
    Staged l { y with misses := y.nextMisses, state := .safeStop, cause := some .uplinkLimit, next := none }
      (told.post (.context y.owner) (.craneState .safeStop (some .uplinkLimit))) s (v.uplinkCheck l) := by
  rw [uplinkCheck_of_le a.link.self h]
  refine Staged.post (Staged.modLink a ?_) _ _
  rfl

theorem Staged.resume (a : Staged l y told s v) (p : Setpoint) :
    Staged l { y with
        current := some { sp := p, fresh := true }, next := none, repeats := 0, misses := 0, state := .running }
      (told.post (.context y.owner) (.craneState .running y.cause)) s (v.resume l p) := by
  unfold State.resume
  rw [a.link.self]
  refine Staged.post (Staged.modLink a ?_) _ _
  rfl

/-! ### The completion of a release -/

/-- At most what a cycle expiry touches. -/
def CycleFrame (s t : State) : Prop :=
  t =
    { s with
      links := t.links, contexts := t.contexts, airtime := t.airtime, reefers := t.reefers,
      pollWaits := t.pollWaits, orders := t.orders, notices := t.notices, overflow := t.overflow,
      inflight := t.inflight, replies := t.replies }

theorem CycleFrame.trans (a : CycleFrame s t) (b : CycleFrame t u) : CycleFrame s u := by
  cases s; cases t; cases u
  simp only [CycleFrame, State.mk.injEq] at *
  simp_all

theorem LinkFrame.cycle (a : LinkFrame s t) : CycleFrame s t := by
  rw [a]
  rfl

theorem cycleFrame_post (s : State) (sub : Subject) (d : NoticeContent) : CycleFrame s (s.post sub d) := by
  unfold CycleFrame
  conv_lhs => rw [s.post_frame sub d]
  rw [State.post_links, State.post_contexts, State.post_airtime, State.post_reefers, State.post_pollWaits, State.post_orders,
    State.post_inflight, State.post_replies]

/-- `told` with the notice of a handover that a release ends. -/
def State.releasedTold (told : State) (x : CraneLink) (c : Context) : State :=
  match x.phase.target? with
  | some g => told.post (.context x.owner) (.handoverFailed c.serving g .released)
  | none => told

theorem phase_eq_none {p : Phase} (h : p.target? = none) : p = .none := by
  cases p with
  | none => rfl
  | prepared _ => cases h
  | switching _ _ => cases h

theorem Staged.releaseHandover (a : Staged l y told s v) (hx : s.links.get? l = some x) (howner : y.owner = x.owner)
    (hphase : y.phase = x.phase) (hc : s.contexts.get? x.owner = some c) :
    Stepped l { y with phase := .none } (told.releasedTold x c) s (s.cancelHandover l .released)
      (v.cancelHandover l .released) := by
  unfold State.releasedTold
  cases hp : x.phase.target? with
  | none =>
    rw [cancelHandover_of_no_target hx hp, cancelHandover_of_no_target a.link.self (by rw [hphase]; exact hp)]
    have hy : { y with phase := Phase.none } = y := by rw [← phase_eq_none hp, ← hphase]
    rw [hy]
    exact a.stepped
  | some g => exact a.cancelHandover hx howner (by rw [hphase]; exact hp) hp hc .released

theorem cancelHandover_after (hx : s.links.get? l = some x) (hc : s.contexts.get? x.owner = some c) (cause : HandoverCause) :
    (∃ c', (s.cancelHandover l cause).contexts.get? x.owner = some c' ∧ c'.serving = c.serving ∧ c'.tag = c.tag) ∧
      (∀ k, ((s.cancelHandover l cause).contexts.get? k).map (·.tag) = (s.contexts.get? k).map (·.tag)) ∧
      ∃ polls, (s.cancelHandover l cause).orders = s.orders ++ polls ∧ ∀ o ∈ polls, ∃ h tag, o = Order.poll h tag := by
  cases hp : x.phase.target? with
  | none =>
    rw [cancelHandover_of_no_target hx hp]
    exact ⟨⟨c, hc, rfl, rfl⟩, fun _ => rfl, [], (List.append_nil _).symm, nofun⟩
  | some g =>
    obtain ⟨hctx, hpolls, -⟩ := cancelHandover_rest hx hp hc cause
    obtain ⟨-, -, -, -, -, hcontexts, -, -⟩ := cancelHandover_spec hx hp hc cause
    refine ⟨hctx, fun k => ?_, hpolls⟩
    rw [hcontexts]
    split
    · rfl
    · exact tags_of_clearCount _ _ _ _

theorem reservation_eq_none {kind : ResKind} (h : s.reservation kind l = none) (g : HeadIx) : s.holds kind l g = false := by
  have hg := List.findSome?_eq_none_iff.mp h g (by revert g; decide)
  have hfind := List.find?_eq_none.mp (Option.map_eq_none_iff.mp hg)
  rw [State.holds, List.any_eq_false]
  exact hfind

theorem holds_of_reservation {kind : ResKind} {p : HeadIx × Nat} (h : s.reservation kind l = some p) :
    s.holds kind l p.1 = true := by
  obtain ⟨g, -, hg⟩ := List.exists_of_findSome?_eq_some h
  obtain ⟨r, hr, rfl⟩ := Option.map_eq_some_iff.mp hg
  have hown := List.find?_some hr
  exact List.any_eq_true.mpr ⟨r, List.mem_of_find?_eq_some hr, hown⟩

theorem list_filter_of_not_holds {kind : ResKind} (h : s.holds kind l g = false) :
    (s.account g).list.filter (fun q => !(q.kind == kind && q.owner == l)) = (s.account g).list :=
  List.filter_eq_self.mpr fun q hq => by rw [Bool.not_eq_true']; exact Bool.not_eq_true _ ▸ List.any_eq_false.mp h q hq

/-- The standing reservation of a link is on its serving head, its prepared one on the target of its handover (R116). -/
theorem standing_of_law (hres : s.reservationLaw) (h : s.holds .standing l g = true) : s.linkServing l = some g := by
  obtain ⟨-, hlaw, -⟩ := hres
  obtain ⟨r, hr, hown⟩ := List.any_eq_true.mp h
  simp only [Bool.and_eq_true, beq_iff_eq] at hown
  obtain ⟨-, hstanding, -⟩ := hlaw g r hr
  rw [← hown.2]
  exact hstanding hown.1

theorem prepared_of_law (hres : s.reservationLaw) (hx : s.links.get? l = some x) (h : s.holds .prepared l g = true) :
    x.phase.target? = some g := by
  obtain ⟨-, hlaw, -⟩ := hres
  obtain ⟨r, hr, hown⟩ := List.any_eq_true.mp h
  simp only [Bool.and_eq_true, beq_iff_eq] at hown
  obtain ⟨-, -, hprepared⟩ := hlaw g r hr
  have htarget := (hprepared hown.1).1
  rw [hown.2, hx] at htarget
  simpa using htarget

/-- Cancelling its handover takes every prepared reservation of the link out of the lists. -/
theorem lists_cancelHandover (hres : s.reservationLaw) (hx : s.links.get? l = some x)
    (hc : s.contexts.get? x.owner = some c) (cause : HandoverCause) (h : HeadIx) :
    ((s.cancelHandover l cause).account h).list =
      (s.account h).list.filter fun q => !(q.kind == .prepared && q.owner == l) := by
  have hnone (hne : x.phase.target? ≠ some h) :
      (s.account h).list.filter (fun q => !(q.kind == .prepared && q.owner == l)) = (s.account h).list :=
    list_filter_of_not_holds (Bool.not_eq_true _ ▸ mt (prepared_of_law hres hx) hne)
  cases hp : x.phase.target? with
  | none => rw [cancelHandover_of_no_target hx hp, hnone (by rw [hp]; nofun)]
  | some g =>
    obtain ⟨-, hair, -⟩ := cancelHandover_spec hx hp hc cause
    rw [account_of_airtime hair]
    by_cases hg : h = g
    · rw [hg, released_list]
    · rw [released_account_of_ne s .prepared l hg, hnone (by rw [hp]; exact fun e => hg (Option.some.inj e).symm)]

/-- Releasing its standing reservation takes every standing reservation of the link out of the lists. -/
theorem lists_releaseStanding (honly : ∀ g g', s.holds .standing l g = true → s.holds .standing l g' = true → g = g')
    (h : HeadIx) :
    ((s.releaseStanding l).account h).list =
      (s.account h).list.filter fun q => !(q.kind == .standing && q.owner == l) := by
  unfold State.releaseStanding
  cases hr : s.reservation .standing l with
  | none => exact (list_filter_of_not_holds (reservation_eq_none hr h)).symm
  | some p =>
    dsimp only
    rw [releaseOn_eq]
    by_cases hh : h = p.1
    · rw [hh, released_list]
    · rw [released_account_of_ne s .standing l hh, list_filter_of_not_holds]
      exact Bool.not_eq_true _ ▸ fun hold => hh (honly h p.1 hold (holds_of_reservation hr))

theorem releaseStanding_orders (s : State) (l : Nat) :
    ∃ polls, (s.releaseStanding l).orders = s.orders ++ polls ∧ ∀ o ∈ polls, ∃ h tag, o = Order.poll h tag := by
  unfold State.releaseStanding
  split
  · rw [releaseOn_eq]
    exact released_orders _ _ _ _
  · exact ⟨[], (List.append_nil _).symm, nofun⟩

/-- The record of a released link (R106). -/
def CraneLink.released (x : CraneLink) : CraneLink := { x with cycle := none, state := .idle, releasePending := false }

/-- What the completion of a release has done, when the checks before it leave the link as `y` (R106). -/
structure ReleaseCompleted (l : Nat) (x y : CraneLink) (c : Context) (told s t : State) : Prop where
  link : LinkAt l (({ y with phase := .none } : CraneLink).advanced c.serving.isSome
    |>.cycleClosed c.serving.isSome).released s t
  lists : ∀ h, (t.account h).list = (s.account h).list.filter fun q => q.owner != l
  contexts : t.contexts = (s.cancelHandover l .released).contexts
  orders : ∃ polls, t.orders = (s.cancelHandover l .released).orders ++ downlinksOf { y with phase := .none } c none ++ polls ∧
    ∀ o ∈ polls, ∃ h tag, o = Order.poll h tag
  notices : t.notices = ((told.releasedTold x c).post (.context x.owner) (.craneState .idle y.cause)).notices
  overflow : t.overflow = ((told.releasedTold x c).post (.context x.owner) (.craneState .idle y.cause)).overflow
  ends : (t.inflight, t.replies) =
    s.endings [completedSide y c.serving.isSome, InFlight.isFor .craneRelease (.context x.owner)] .done
  frame : CycleFrame s t

/-- The two releases of a link, of its prepared and of its standing reservation, take all it holds. -/
theorem filter_both_kinds (q : Reservation) (l : Nat) :
    (!(q.kind == .standing && q.owner == l) && !(q.kind == .prepared && q.owner == l)) = (q.owner != l) := by
  obtain ⟨kind, units, owner⟩ := q
  cases kind <;> simp [bne]

theorem CycleEnded.releaseStanding (a : CycleEnded l y c told s (s.cancelHandover l .released) v)
    (hres : s.reservationLaw) (hx : s.links.get? l = some x) (hc : s.contexts.get? x.owner = some c) (h : HeadIx) :
    ((v.releaseStanding l).account h).list = (s.account h).list.filter fun q => q.owner != l := by
  have hheld {g : HeadIx} (hg : v.holds .standing l g = true) : s.linkServing l = some g := by
    rw [State.holds, account_of_airtime a.airtime, lists_cancelHandover hres hx hc] at hg
    obtain ⟨q, hq, hown⟩ := List.any_eq_true.mp hg
    exact standing_of_law hres (List.any_eq_true.mpr ⟨q, (List.mem_filter.mp hq).1, hown⟩)
  rw [lists_releaseStanding fun g g' hg hg' => Option.some.inj ((hheld hg).symm.trans (hheld hg')),
    account_of_airtime a.airtime, lists_cancelHandover hres hx hc, List.filter_filter]
  exact List.filter_congr fun q _ => filter_both_kinds q l

theorem Staged.completeRelease (a : Staged l y told s v) (hx : s.links.get? l = some x) (howner : y.owner = x.owner)
    (hphase : y.phase = x.phase) (hc : s.contexts.get? x.owner = some c) (hres : s.reservationLaw) :
    ReleaseCompleted l x y c told s (v.completeRelease l) := by
  obtain ⟨hctx, htags, -⟩ := cancelHandover_after hx hc .released
  have hend := (a.releaseHandover hx howner hphase hc).cycleEnded (by rw [howner]; exact hctx) htags
  unfold State.completeRelease
  rw [a.link.self]
  dsimp only
  generalize ((v.cancelHandover l .released).sendDownlink l).closeCycle l = w at hend
  have hlists := hend.releaseStanding hres hx hc
  have hframe := State.releaseStanding_frame w l
  obtain ⟨polls, hpolls, hpollTags⟩ := releaseStanding_orders w l
  generalize w.releaseStanding l = u at hlists hframe hpolls
  have hlinks : u.links = w.links := links_of_pollFrame hframe
  have hcontexts : u.contexts = w.contexts := by rw [hframe]
  have hboth := post_congr_both (s := told.releasedTold x c) (t := u.modLink l CraneLink.released)
    (by rw [← hend.notices]; show u.notices = _; rw [hframe]) (by rw [← hend.overflow]; show u.overflow = _; rw [hframe])
    (.context x.owner) (.craneState .idle y.cause)
  let posted := (u.modLink l CraneLink.released).post (.context x.owner) (.craneState .idle y.cause)
  have hdone : ((u.modLink l CraneLink.released).post (.context y.owner) (.craneState .idle y.cause)).endOldest
      (InFlight.isFor .craneRelease (.context y.owner)) .done =
        { posted with
          inflight := (posted.ending (posted.inflight, posted.replies) (InFlight.isFor .craneRelease (.context x.owner)) .done).1
          replies := (posted.ending (posted.inflight, posted.replies) (InFlight.isFor .craneRelease (.context x.owner)) .done).2 } := by
    rw [endOldest_ending, howner]
  refine hdone ▸ ⟨?_, ?_, ?_, ⟨polls, ?_, hpollTags⟩, hboth.1, hboth.2, ?_, ?_⟩
  · have hlink : LinkAt l _ s (u.modLink l CraneLink.released) :=
      (hend.link.congr hlinks).trans (linkAt_modLink (by rw [hlinks]; exact hend.link.self) rfl)
    exact hlink.congr (State.post_links _ _ _)
  · intro h
    show (posted.account h).list = _
    rw [← hlists h, State.account_post]
    rfl
  · show posted.contexts = _
    rw [← hend.contexts, ← hcontexts]
    exact State.post_contexts _ _ _
  · show posted.orders = _
    rw [State.post_orders]
    show u.orders = _
    rw [hpolls, hend.orders]
    rfl
  · have htags' (k : Nat) : (posted.contexts.get? k).map (·.tag) = (s.contexts.get? k).map (·.tag) := by
      rw [State.post_contexts]
      show (u.contexts.get? k).map _ = _
      rw [hcontexts, hend.contexts]
      exact htags k
    have hports : (u.inflight, u.replies) = s.endings [completedSide y c.serving.isSome] .done := by
      rw [show u.inflight = w.inflight by rw [hframe], show u.replies = w.replies by rw [hframe]]
      exact hend.ends
    show posted.ending (posted.inflight, posted.replies) _ .done = _
    rw [ending_of_tags htags', State.post_inflight, State.post_replies]
    show s.ending (u.inflight, u.replies) _ .done = _
    rw [hports]
    rfl
  · have hmod : CycleFrame u (u.modLink l CraneLink.released) := rfl
    have hposted : CycleFrame u posted := hmod.trans (cycleFrame_post _ _ _)
    exact ((show CycleFrame s w from hend.frame).trans hframe.link.cycle).trans (hposted.trans rfl)

/-- Settles O52: the stages by the link's state, each with what it writes and posts, then the handover step, the downlink
and the end of the cycle; or the completion of a release. -/
theorem cycleExpiryAdvancesTheLink : Obligations.CycleExpiryAdvancesTheLink := by
  intro l s x c hx hcycle hc hidle served heard misses closed running repeated failing cancelled goesTo stops
  have hgoes {y told v} (a : Staged l.val y told s v) (howner : y.owner = x.owner) (hphase : y.phase = x.phase)
      (hdown : y.down = x.down) (hwaiting : y.waiting = x.waiting)
      (hexec : exec (.cycleExpiry l) s = .next (((v.handoverStep l.val).sendDownlink l.val).closeCycle l.val)) :
      goesTo (CraneLink.cycleClosed (CraneLink.advanced { y with phase := x.phase.afterExpiry } c.serving.isSome)
        c.serving.isSome) told := by
    have hend := a.cycleEnded hx hc howner hphase
    obtain ⟨-, -, ⟨polls, hpolls, htags⟩, hholds⟩ := withoutFailing_rest hx hc
    obtain ⟨⟩ := y
    dsimp only at howner hphase hdown hwaiting
    subst howner hphase hdown hwaiting
    refine ⟨_, polls, hexec, hend.link.self, hend.link.others, hpolls, htags, ?_, hend.contexts, hend.airtime, hend.reefers,
      hend.pollWaits, ?_, ⟨hend.notices, hend.overflow⟩, hend.ends, hend.frame⟩
    · rw [hend.orders, hpolls]
      rfl
    · intro g hg
      rw [← hholds g hg]
      exact congrArg (List.any · _) (congrArg Account.list (account_of_airtime hend.airtime g))
  have hstart := staged_restarted hx
  refine ⟨fun hrun hlost => ?_, fun hrun hheard => ?_, fun hstop hpend => ?_, fun hstop hpend htables howns hair hhand hres => ?_⟩
  · have hexec := exec_cycleExpiry_of_running hx hcycle hrun
    have hchecked := (hstart.uplinkCheck_lost hlost).assemblyCheck hc
    rw [assemblyChecked_eq] at hchecked
    exact hgoes (hchecked.setpointStage_stopped rfl) rfl rfl rfl rfl hexec
  · have hexec := exec_cycleExpiry_of_running hx hcycle hrun
    have hchecked := (hstart.uplinkCheck_heard hheard).assemblyCheck hc
    rw [assemblyChecked_eq] at hchecked
    refine ⟨fun p hp => ?_, fun hp hlt => ?_, fun hp hle => ?_⟩
    · exact hgoes (hchecked.setpointStage_next hrun hp) rfl rfl rfl rfl hexec
    · exact hgoes (hchecked.setpointStage_repeated hrun hp hlt) rfl rfl rfl rfl hexec
    · exact hgoes (hchecked.setpointStage_held hrun hp hle) rfl rfl rfl rfl hexec
  · have hexec := exec_cycleExpiry_of_stopped hx hcycle hstop
    have hchecked := hstart.assemblyCheck hc
    rw [assemblyChecked_eq] at hchecked
    rw [State.stoppedExpiry, hpend] at hexec
    refine ⟨fun hp => ?_, fun p hp => ?_⟩
    · rw [hp] at hexec
      exact hgoes hchecked rfl rfl rfl rfl hexec
    · rw [hp] at hexec
      exact hgoes (hchecked.resume p) rfl rfl rfl rfl hexec
  · have hexec := exec_cycleExpiry_of_stopped hx hcycle hstop
    have hchecked := hstart.assemblyCheck hc
    rw [assemblyChecked_eq] at hchecked
    rw [State.stoppedExpiry, hpend, if_pos rfl] at hexec
    generalize (s.modLink l.val fun k => { k with cycle := some k.period }).assemblyCheck l.val = v at hchecked hexec
    have hdone := hchecked.completeRelease hx rfl rfl hc hres
    obtain ⟨-, -, polls, hpolls, hpollTags⟩ := cancelHandover_after hx hc .released
    obtain ⟨polls', horders, hpollTags'⟩ := hdone.orders
    refine ⟨_, polls, polls', hexec, hdone.link.self, hdone.link.others, fun kind h => ?_, hdone.lists, hdone.contexts, hpolls, ?_,
      fun o ho => ?_, ⟨hdone.notices, hdone.overflow⟩, hdone.ends, hdone.frame⟩
    · rw [State.holds, hdone.lists, List.any_filter]
      exact List.any_eq_false.mpr fun q _ => by cases hq : q.owner == l.val <;> simp [bne, hq]
    · rw [horders, hpolls]
      rfl
    · rcases List.mem_append.mp ho with ho | ho
      · exact hpollTags o ho
      · exact hpollTags' o ho

end Sys2Proof.Machine
end

section
/-! Crane uplinks (R107 to R109) and the completion of a handover (R120). -/

namespace Sys2Proof.Machine

variable {s t v : State} {k l n : Nat} {c : Context} {x y : CraneLink} {g h old : HeadIx} {a : Account} {u : UplinkFields}

/-! ### What an uplink notes -/

theorem Table.modify_eq_const {α : Type} {m : Table α} {n k : Nat} {w : α} (hm : m.wf n) (hw : m.get? k = some w)
    (f : α → α) : m.modify k f = m.modify k fun _ => f w := by
  refine List.map_congr_left fun e he => ?_
  by_cases hk : e.1 = k
  · have hget : m.get? k = some e.2 := by rw [← hk]; exact Table.get?_of_mem hm he
    rw [if_pos hk, if_pos hk, Option.some.inj (hw.symm.trans hget)]
  · rw [if_neg hk, if_neg hk]

/-- The side assembly with the fragment of an uplink added (R108). -/
def CraneLink.fragments (x : CraneLink) (u : UplinkFields) : Option (List Fragment) :=
  if u.start then some [u.frag] else x.assembly.map fun a => a ++ [u.frag]

theorem addFragment_eq (a : Option (List Fragment)) (start : Bool) (f : Fragment) :
    addFragment a start f = (if start then some [f] else a.map fun fs => fs ++ [f], start && a.isSome) := by
  cases start <;> cases a <;> rfl

/-- The record once an uplink has been taken, its block not complete (R107, R108). -/
def CraneLink.heardUplink (x : CraneLink) (u : UplinkFields) : CraneLink :=
  { x with
    feedback := some { bytes := u.feedback, seq := u.seq, age := 0 }, heard := true
    assembly := if x.heard then x.assembly else x.fragments u
    sideErrors := if !x.heard && (u.start && x.assembly.isSome) && x.sideErrors < 255 then x.sideErrors + 1 else x.sideErrors }

/-- The record with a side block complete (R109). -/
def CraneLink.withBlock (x : CraneLink) (b : Bytes48) : CraneLink := { x with assembly := none, sideBlock := some b }

/-- The uplink up to the completion of a handover (R107). -/
def State.noteUplink (s : State) (handle l : Nat) (x : CraneLink) (u : UplinkFields) : State :=
  let s1 := s.modLink l fun k => { k with feedback := some { bytes := u.feedback, seq := u.seq, age := 0 } }
  if x.heard then s1 else (s1.takeFragment handle l u.start u.frag x).modLink l fun k => { k with heard := true }

theorem takeUplink_eq (s : State) (handle l : Nat) (x : CraneLink) (h : HeadIx) (u : UplinkFields) :
    takeUplink handle l x h u s =
      if x.phase.switchTarget = some h then (s.noteUplink handle l x u).completeHandover l else s.noteUplink handle l x u := rfl

/-- A fragment taken, the block not complete. -/
theorem takeFragment_of_incomplete {start : Bool} {f : Fragment}
    (hinc : ∀ fs, (addFragment x.assembly start f).1 = some fs → fs.length < 24) :
    s.takeFragment k l start f x = s.modLink l fun y =>
      { y with
        assembly := (addFragment x.assembly start f).1
        sideErrors := if (addFragment x.assembly start f).2 then satInc 255 y.sideErrors else y.sideErrors } := by
  unfold State.takeFragment
  cases hadd : addFragment x.assembly start f with
  | mk assembly lost =>
    dsimp only
    cases assembly with
    | none => rfl
    | some fs => exact if_pos (hinc fs (by rw [hadd]))

theorem takeFragment_of_complete {start : Bool} {f : Fragment} {fs : List Fragment} {b : Bytes48}
    (hfs : (addFragment x.assembly start f).1 = some fs) (hlen : 24 ≤ fs.length) (hb : assembled fs = some b) :
    s.takeFragment k l start f x =
      ((s.modLink l fun y =>
        { y with
          assembly := none, sideBlock := some b
          sideErrors := if (addFragment x.assembly start f).2 then satInc 255 y.sideErrors else y.sideErrors }).modContext k
        fun c => { c with segment := blockSegment b }).post (.context k) (.sideBlock b) := by
  unfold State.takeFragment
  cases hadd : addFragment x.assembly start f with
  | mk assembly lost =>
    rw [hadd] at hfs
    cases hfs
    dsimp only
    rw [if_neg (show ¬ fs.length < Config.sideFragments from Nat.not_lt.mpr hlen), hb]
    exact takeBlock_modLink k l b _

theorem heardUplink_of_silent (hheard : x.heard = false) :
    x.heardUplink u =
      { x with
        feedback := some { bytes := u.feedback, seq := u.seq, age := 0 }, heard := true, assembly := x.fragments u
        sideErrors := if u.start && x.assembly.isSome then satInc 255 x.sideErrors else x.sideErrors } := by
  unfold CraneLink.heardUplink satInc
  rw [hheard]
  cases hlost : u.start && x.assembly.isSome <;> simp

theorem noteUplink_of_incomplete (hm : s.links.wf n) (hx : s.links.get? l = some x)
    (hinc : ¬ (x.heard = false ∧ ∃ fs, x.fragments u = some fs ∧ 24 ≤ fs.length)) :
    s.noteUplink k l x u = { s with links := s.links.modify l fun _ => x.heardUplink u } := by
  unfold State.noteUplink
  cases hheard : x.heard with
  | true =>
    rw [if_pos rfl]
    have hmod := Table.modify_eq_const hm hx fun k =>
      { k with feedback := some { bytes := u.feedback, seq := u.seq, age := 0 } }
    have hrec : x.heardUplink u = { x with feedback := some { bytes := u.feedback, seq := u.seq, age := 0 } } := by
      simp [CraneLink.heardUplink, hheard]
    rw [hrec, ← hmod]
    rfl
  | false =>
    rw [if_neg Bool.false_ne_true, takeFragment_of_incomplete fun fs hfs => ?_, modLink_modLink, modLink_modLink]
    · show { s with links := s.links.modify l _ } = _
      rw [Table.modify_eq_const hm hx, heardUplink_of_silent hheard, addFragment_eq]
      rfl
    · refine Nat.lt_of_not_le fun hle => hinc ⟨hheard, fs, ?_, hle⟩
      rw [addFragment_eq] at hfs
      exact hfs

theorem blockSegment_eq (b : Bytes48) : blockSegment b = segmentOf (b.toList.headD 0).toNat := by
  obtain ⟨⟨l⟩, hl⟩ := b
  cases l with
  | nil => simp at hl
  | cons a l => rfl

theorem assembled_of_bytes {fs : List Fragment} {b : Bytes48} (hb : b.toList = fs.flatMap fun f => [f.fst, f.snd]) :
    assembled fs = some b := by
  rw [assembled, ← hb]
  exact block?_toList b

theorem modLink_modContext (s : State) (l k : Nat) (f : CraneLink → CraneLink) (f' : Context → Context) :
    (s.modContext k f').modLink l f = (s.modLink l f).modContext k f' := rfl

theorem noteUplink_of_complete {fs : List Fragment} {b : Bytes48} (hm : s.links.wf n) (hx : s.links.get? l = some x)
    (hheard : x.heard = false) (hfs : x.fragments u = some fs) (hlen : fs.length = 24)
    (hb : b.toList = fs.flatMap fun f => [f.fst, f.snd]) :
    s.noteUplink k l x u =
      ({ s with
          links := s.links.modify l fun _ => (x.heardUplink u).withBlock b
          contexts := s.contexts.modify k fun y => { y with segment := segmentOf (b.toList.headD 0).toNat } } :
        State).post (.context k) (.sideBlock b) := by
  unfold State.noteUplink
  rw [hheard, if_neg Bool.false_ne_true, takeFragment_of_complete (fs := fs) (b := b) (by rw [addFragment_eq]; exact hfs)
    (Nat.le_of_eq hlen.symm) (assembled_of_bytes hb), modLink_post, blockSegment_eq]
  refine congrArg (fun v : State => v.post (.context k) (.sideBlock b)) ?_
  rw [modLink_modContext, modLink_modLink, modLink_modLink]
  show { s with links := s.links.modify l _, contexts := s.contexts.modify k _ } = _
  rw [Table.modify_eq_const hm hx, heardUplink_of_silent hheard, addFragment_eq]
  rfl

/-! ### The completion of a handover (R120) -/

theorem setAccount_comm (s : State) (hne : g ≠ h) (a b : Account) :
    (s.setAccount g a).setAccount h b = (s.setAccount h b).setAccount g a := by
  unfold State.setAccount
  congr 1
  exact Vector.set_comm _ _ fun e => hne (Fin.ext e)

theorem sendPoll_setAccount (s : State) (hne : g ≠ h) (a : Account) (i : Nat) :
    (s.setAccount g a).sendPoll h i = (s.sendPoll h i).setAccount g a := by
  cases hctx : s.reeferContext i with
  | none =>
    have hctx' : (s.setAccount g a).reeferContext i = none := hctx
    rw [State.sendPoll, State.sendPoll, hctx, hctx']
  | some c =>
    have hctx' : (s.setAccount g a).reeferContext i = some c := hctx
    rw [sendPoll_eq hctx, sendPoll_eq hctx', State.account_setAccount_of_ne _ _ hne.symm, setAccount_comm s hne]
    rfl

theorem creditGiven_setAccount (s : State) (hne : g ≠ h) (a : Account) :
    (s.setAccount g a).creditGiven h = s.creditGiven h := by
  rw [State.creditGiven, State.creditGiven, State.account_setAccount_of_ne _ _ hne.symm]
  rfl

/-- A pass of one head leaves the account of another alone, and reads nothing of it. -/
theorem waitPassFrom_setAccount (hne : g ≠ h) (a : Account) (q : List Nat) (s : State) :
    waitPassFrom h q (s.setAccount g a) = (waitPassFrom h q s).setAccount g a := by
  induction q generalizing s with
  | nil => rfl
  | cons i rest ih =>
    rw [waitPassFrom, waitPassFrom, creditGiven_setAccount s hne]
    split
    · rw [← ih, ← sendPoll_setAccount _ hne]
      rfl
    · rfl

theorem passIfGrown_setAccount (s : State) (hne : g ≠ h) (a : Account) (n : Nat) :
    (s.setAccount g a).passIfGrown h n = (s.passIfGrown h n).setAccount g a := by
  unfold State.passIfGrown
  rw [State.account_setAccount_of_ne _ _ hne.symm]
  split
  · exact waitPassFrom_setAccount hne a _ s
  · rfl

theorem released_setAccount (s : State) (hne : g ≠ h) (a : Account) (kind : ResKind) (l : Nat) :
    (s.setAccount g a).released h kind l = (s.released h kind l).setAccount g a := by
  have haccount := State.account_setAccount_of_ne (s := s) a hne.symm
  have hholds : (s.setAccount g a).holds kind l h = s.holds kind l h := by rw [State.holds, haccount]; rfl
  unfold State.released
  rw [hholds, haccount]
  dsimp only
  split
  · rw [← passIfGrown_setAccount _ hne, setAccount_comm s hne]
    rfl
  · rfl

/-- The account of a head on which a prepared reservation has become standing (R55). -/
def Account.converted (a : Account) (l : Nat) : Account :=
  { a with list := a.list.map fun r => if r.kind == .prepared && r.owner == l then { r with kind := .standing } else r }

theorem units_converted (a : Account) (l : Nat) : (a.converted l).list.map (·.units) = a.list.map (·.units) := by
  rw [Account.converted, List.map_map]
  refine List.map_congr_left fun q _ => ?_
  dsimp only [Function.comp_apply]
  split <;> rfl

theorem grantedWindow_converted (y : Head) (a : Account) (l : Nat) : grantedWindow y (a.converted l) = grantedWindow y a := by
  have hsum : (a.converted l).standing + (a.converted l).prepared = a.standing + a.prepared := by
    rw [standing_add_prepared, standing_add_prepared, units_converted]
  unfold grantedWindow
  show min a.wreq _ = _
  omega

theorem convert_eq (s : State) (h : HeadIx) (l : Nat) :
    s.convert h l =
      (s.setAccount h { (s.account h).converted l with wg := grantedWindow (s.head h) (s.account h) }).passIfGrown h
        (s.account h).wg := by
  show (s.setAccount h ((s.account h).converted l)).fit h = _
  rw [fit_eq, State.account_setAccount_self, State.setAccount_setAccount, State.head_setAccount, grantedWindow_converted]
  rfl

/-- Where the airtime law holds, a conversion leaves the window as it is. -/
theorem convert_of_law (hlaw : s.airtimeLaw) : s.convert h l = s.setAccount h ((s.account h).converted l) := by
  obtain ⟨hwg, -⟩ := hlaw h
  rw [convert_eq, ← hwg, State.passIfGrown, State.account_setAccount_self, if_neg (Nat.lt_irrefl _)]
  rfl

/-- A release in a state that agrees with `s` on what polls read does what it does in `s`. -/
theorem released_of_same (e : SamePolls s v) (ho : v.orders = s.orders) (h : HeadIx) (kind : ResKind) (l : Nat) :
    (v.released h kind l).airtime = (s.released h kind l).airtime ∧ (v.released h kind l).orders = (s.released h kind l).orders ∧
      (v.released h kind l).reefers = (s.released h kind l).reefers ∧
      (v.released h kind l).pollWaits = (s.released h kind l).pollWaits := by
  rw [← releaseOn_eq, ← releaseOn_eq]
  obtain ⟨new, hs, hv⟩ := mirror_releaseOn e h kind l
  generalize s.releaseOn h kind l = s' at hs hv
  rw [hv]
  refine ⟨rfl, ?_, rfl, rfl⟩
  rw [hs]
  show v.orders ++ new = s.orders ++ new
  rw [ho]

theorem convert_account (s : State) (h : HeadIx) (l : Nat) :
    ((s.convert h l).account h).list = ((s.account h).converted l).list ∧
      ∀ g, g ≠ h → (s.convert h l).account g = s.account g := by
  rw [convert_eq]
  have hpass := polledThrough_passIfGrown
    (s.setAccount h { (s.account h).converted l with wg := grantedWindow (s.head h) (s.account h) }) h (s.account h).wg
  obtain ⟨-, -, -, hother, -⟩ := hpass.fields
  refine ⟨?_, fun g hg => ?_⟩
  · rw [hpass.account, State.account_setAccount_self]
  · rw [hother g hg, State.account_setAccount_of_ne _ _ hg]

theorem convert_orders (s : State) (h : HeadIx) (l : Nat) :
    ∃ polls, (s.convert h l).orders = s.orders ++ polls ∧ ∀ o ∈ polls, ∃ g tag, o = Order.poll g tag := by
  rw [convert_eq]
  obtain ⟨polls, horders, htags⟩ := (polledThrough_passIfGrown
    (s.setAccount h { (s.account h).converted l with wg := grantedWindow (s.head h) (s.account h) }) h (s.account h).wg).polls_sent
  exact ⟨polls, horders, fun o ho => ⟨h, htags o ho⟩⟩

/-- What the completion of a handover from `old` to `h` has done; `s` is a state that agrees with `v` on what polls read
(R120). -/
structure HandoverCompleted (l : Nat) (old h : HeadIx) (y : CraneLink) (c : Context) (s v t : State) : Prop where
  link : LinkAt l { y with phase := .none } v t
  contexts : t.contexts = v.contexts.modify y.owner fun c => c.serveOn h
  target : (t.account h).list = ((s.account h).converted l).list
  left : (t.account old).list = (s.account old).list.filter fun q => !(q.kind == .standing && q.owner == l)
  others : ∀ g, g ≠ h → g ≠ old → t.account g = s.account g
  orders : ∃ polls, t.orders = s.orders ++ polls ++ [.serveOrder c.tag (some old) h] ∧
    ∀ o ∈ polls, ∃ g tag, o = Order.poll g tag
  notices : t.notices = (v.post (.context y.owner) (.handoverDone (some old) h .trigger)).notices
  overflow : t.overflow = (v.post (.context y.owner) (.handoverDone (some old) h .trigger)).overflow
  heads : t.heads = v.heads
  replies : t.replies = v.replies
  law : s.airtimeLaw → t.account old = (s.released old .standing l).account old ∧
    t.orders = (s.released old .standing l).orders ++ [.serveOrder c.tag (some old) h] ∧
    t.reefers = (s.released old .standing l).reefers ∧ t.pollWaits = (s.released old .standing l).pollWaits

theorem tags_of_serveOn (m : Table Context) (j : Nat) (h : HeadIx) (k : Nat) :
    ((m.modify j fun c => c.serveOn h).get? k).map (·.tag) = (m.get? k).map (·.tag) := by
  rw [Table.get?_modify]
  split
  · rw [Option.map_map]
    rfl
  · rfl

theorem completeHandover_eq (hy : v.links.get? l = some y) (hc : v.contexts.get? y.owner = some c)
    (hp : y.phase.target? = some h) (hserving : c.serving = some old) :
    v.completeHandover l =
      (((((v.modContext y.owner fun c => c.serveOn h).convert h l).releaseOn old .standing l).modLink l
        fun k => { k with phase := .none }).order (.serveOrder c.tag (some old) h)).post (.context y.owner)
        (.handoverDone (some old) h .trigger) := by
  have hctx : v.linkContext l = some c := by rw [State.linkContext, hy]; exact hc
  unfold State.completeHandover
  rw [hy, hctx]
  dsimp only
  rw [hp, hserving]

/-- What the airtime of a completed handover has done: the prepared reservation stands, the old one is released. -/
structure AirtimeMoved (l : Nat) (old h : HeadIx) (s v w : State) : Prop where
  frame : PollFrame v w
  target : (w.account h).list = ((s.account h).converted l).list
  left : (w.account old).list = (s.account old).list.filter fun q => !(q.kind == .standing && q.owner == l)
  others : ∀ g, g ≠ h → g ≠ old → w.account g = s.account g
  orders : ∃ polls, w.orders = s.orders ++ polls ∧ ∀ o ∈ polls, ∃ g tag, o = Order.poll g tag
  law : s.airtimeLaw → w.account old = (s.released old .standing l).account old ∧
    w.orders = (s.released old .standing l).orders ∧ w.reefers = (s.released old .standing l).reefers ∧
    w.pollWaits = (s.released old .standing l).pollWaits

theorem airtimeMoved (e : SamePolls s v) (ho : v.orders = s.orders) (l : Nat) (hne : old ≠ h) :
    AirtimeMoved l old h s v ((v.convert h l).releaseOn old .standing l) := by
  obtain ⟨hself, hothers⟩ := convert_account v h l
  obtain ⟨polls, hpolls, htags⟩ := convert_orders v h l
  obtain ⟨polls', hpolls', htags'⟩ := released_orders (v.convert h l) old .standing l
  have hframe := (v.convert_frame h l).trans (State.releaseOn_frame (v.convert h l) old .standing l)
  rw [releaseOn_eq] at hframe ⊢
  refine
    { frame := hframe, target := ?_, left := ?_, others := fun g hgh hgo => ?_
      orders := ⟨polls ++ polls', by rw [hpolls', hpolls, ho, List.append_assoc], fun o hmem => ?_⟩, law := fun hlaw => ?_ }
  · rw [released_account_of_ne _ .standing l hne.symm, hself, e.account]
  · rw [released_list, hothers old hne, e.account]
  · rw [released_account_of_ne _ .standing l hgo, hothers g hgh, e.account]
  · rcases List.mem_append.mp hmem with hmem | hmem
    · exact htags o hmem
    · exact htags' o hmem
  · obtain ⟨hair, horders, hreefers, hwaits⟩ := released_of_same e ho old .standing l
    rw [convert_of_law (Air.of_eq e.heads e.airtime hlaw), released_setAccount v hne.symm]
    exact ⟨(State.account_setAccount_of_ne _ _ hne).trans (account_of_airtime hair old), horders, hreefers, hwaits⟩

theorem handoverCompleted (e : SamePolls s v) (ho : v.orders = s.orders) (hy : v.links.get? l = some y)
    (hc : v.contexts.get? y.owner = some c) (hp : y.phase.target? = some h) (hserving : c.serving = some old) (hne : old ≠ h) :
    HandoverCompleted l old h y c s v (v.completeHandover l) := by
  have e1 : SamePolls s (v.modContext y.owner fun c => c.serveOn h) :=
    ⟨e.heads, e.airtime, e.reefers, e.waits, e.settings, fun k => (tags_of_serveOn _ _ _ k).trans (e.tags k)⟩
  have hmoved := airtimeMoved e1 ho l hne
  rw [completeHandover_eq hy hc hp hserving]
  generalize ((v.modContext y.owner fun c => c.serveOn h).convert h l).releaseOn old .standing l = w at hmoved
  obtain ⟨hframe, htarget, hleft, hothers, ⟨polls, horders, htags⟩, hlaw⟩ := hmoved
  have hlinks : w.links = v.links := by rw [hframe]; rfl
  have hcontexts : w.contexts = v.contexts.modify y.owner fun c => c.serveOn h := by rw [hframe]; rfl
  have hboth := post_congr_both (s := v) (t := (w.modLink l fun k => { k with phase := .none }).order
    (.serveOrder c.tag (some old) h)) (by show w.notices = _; rw [hframe]; rfl) (by show w.overflow = _; rw [hframe]; rfl)
    (.context y.owner) (.handoverDone (some old) h .trigger)
  refine
    { link := linkAt_modify (f := fun k => { k with phase := .none }) hy ?_ rfl, contexts := ?_, target := ?_, left := ?_
      others := fun g hgh hgo => ?_, orders := ⟨polls, ?_, htags⟩, notices := hboth.1
      overflow := hboth.2, heads := ?_, replies := ?_, law := fun hair => ?_ }
  · rw [State.post_links, ← hlinks]
    rfl
  · rw [State.post_contexts]
    exact hcontexts
  · rw [State.account_post]
    exact htarget
  · rw [State.account_post]
    exact hleft
  · rw [State.account_post]
    exact hothers g hgh hgo
  · rw [State.post_orders, ← horders]
    rfl
  · rw [State.post_heads]
    show w.heads = _
    rw [hframe]
    rfl
  · rw [State.post_replies]
    show w.replies = _
    rw [hframe]
    rfl
  · obtain ⟨haccount, hords, hreefers, hwaits⟩ := hlaw hair
    rw [State.account_post, State.post_orders, State.post_reefers, State.post_pollWaits, ← hords]
    exact ⟨haccount, rfl, hreefers, hwaits⟩

/-! ### The uplink whole -/

theorem switchTarget_eq_some (p : Phase) (h : HeadIx) : p.switchTarget = some h ↔ ∃ n, p = .switching h n := by
  cases p <;> simp [Phase.switchTarget]

theorem exec_craneUplink {tag : Tag} (htag : s.findTag tag = some (k, c)) (hcls : c.cls = .crane) (hext : c.ext = some l)
    (hx : s.links.get? l = some x) :
    (headOf u.head = none → exec (.craneUplink tag u) s = .next s) ∧
      ∀ h, headOf u.head = some h →
        (uplinkTaken x c h = false → exec (.craneUplink tag u) s = .next s) ∧
          (uplinkTaken x c h = true → exec (.craneUplink tag u) s = .next (takeUplink k l x h u s)) := by
  have hexec : exec (.craneUplink tag u) s = execCraneUplink tag u s := rfl
  rw [execCraneUplink, htag] at hexec
  dsimp only at hexec
  rw [if_pos hcls, onUplink, hext] at hexec
  dsimp only at hexec
  rw [hx] at hexec
  refine ⟨fun hhead => ?_, fun h hhead => ⟨fun htaken => ?_, fun htaken => ?_⟩⟩
  · rw [hhead] at hexec
    exact hexec
  · rw [hhead] at hexec
    dsimp only at hexec
    rw [if_neg (by rw [htaken]; exact Bool.false_ne_true)] at hexec
    exact hexec
  · rw [hhead] at hexec
    dsimp only at hexec
    rw [if_pos htaken] at hexec
    exact hexec

theorem uplinkTaken_iff (x : CraneLink) (c : Context) (h : HeadIx) :
    uplinkTaken x c h = true ↔
      x.state ≠ .idle ∧ c.serving.isSome ∧ (c.serving = some h ∨ ∃ n, x.phase = .switching h n) := by
  rw [← switchTarget_eq_some]
  simp [uplinkTaken, and_assoc]

/-- The record after an uplink through the target that completes the block `block`, or none. -/
def CraneLink.notedWith (x : CraneLink) (u : UplinkFields) : Option Bytes48 → CraneLink
  | none => x.heardUplink u
  | some b => (x.heardUplink u).withBlock b

/-- The context after an uplink that completes the block `block`, or none (R109). -/
def Context.notedWith (c : Context) : Option Bytes48 → Context
  | none => c
  | some b => { c with segment := segmentOf (b.toList.headD 0).toNat }

/-- `s` with the notice of the block that an uplink completes, if it does. -/
def State.toldBlock (s : State) (k : Nat) : Option Bytes48 → State
  | none => s
  | some b => s.post (.context k) (.sideBlock b)

/-- The uplink up to the completion of a handover, with the block it completes, if it does. -/
structure UplinkNoted (k l : Nat) (x : CraneLink) (c : Context) (u : UplinkFields) (block : Option Bytes48) (s v : State) :
    Prop where
  link : LinkAt l (x.notedWith u block) s v
  context : v.contexts.get? k = some (c.notedWith block)
  contexts : ∀ j, j ≠ k → v.contexts.get? j = s.contexts.get? j
  polls : SamePolls s v
  orders : v.orders = s.orders
  replies : v.replies = s.replies
  notices : v.notices = (s.toldBlock k block).notices
  overflow : v.overflow = (s.toldBlock k block).overflow

theorem uplinkNoted_none (hm : s.links.wf n) (hx : s.links.get? l = some x) (hc : s.contexts.get? k = some c)
    (hinc : ¬ (x.heard = false ∧ ∃ fs, x.fragments u = some fs ∧ 24 ≤ fs.length)) :
    UplinkNoted k l x c u none s (s.noteUplink k l x u) := by
  rw [noteUplink_of_incomplete hm hx hinc]
  exact ⟨linkAt_modify (f := fun _ => x.heardUplink u) hx rfl rfl, hc, fun _ _ => rfl, ⟨rfl, rfl, rfl, rfl, rfl, fun _ => rfl⟩, rfl, rfl, rfl, rfl⟩

theorem uplinkNoted_some {fs : List Fragment} {b : Bytes48} (hm : s.links.wf n) (hx : s.links.get? l = some x)
    (hc : s.contexts.get? k = some c) (hheard : x.heard = false) (hfs : x.fragments u = some fs) (hlen : fs.length = 24)
    (hb : b.toList = fs.flatMap fun f => [f.fst, f.snd]) :
    UplinkNoted k l x c u (some b) s (s.noteUplink k l x u) := by
  rw [noteUplink_of_complete hm hx hheard hfs hlen hb]
  have hboth := post_congr_both (s := s) (t := { s with
    links := s.links.modify l fun _ => (x.heardUplink u).withBlock b
    contexts := s.contexts.modify k fun y => { y with segment := segmentOf (b.toList.headD 0).toNat } }) rfl rfl
    (.context k) (.sideBlock b)
  refine
    { link := linkAt_modify (f := fun _ => (x.heardUplink u).withBlock b) hx (State.post_links _ _ _) rfl, context := ?_
      contexts := fun j hj => ?_, polls := ?_, orders := State.post_orders _ _ _, replies := State.post_replies _ _ _
      notices := hboth.1, overflow := hboth.2 }
  · rw [State.post_contexts, Table.get?_modify_self, hc]
    rfl
  · rw [State.post_contexts, Table.get?_modify_of_ne _ _ hj]
  · refine ⟨State.post_heads _ _ _, State.post_airtime _ _ _, State.post_reefers _ _ _, State.post_pollWaits _ _ _,
      State.post_settings _ _ _, fun j => ?_⟩
    rw [State.post_contexts, Table.get?_modify]
    split
    · rw [Option.map_map]
      rfl
    · rfl

/-- Settles O53: by whether the uplink is taken, whether it completes its block, and whether it completes a handover. -/
theorem craneUplinksAreTaken : Obligations.CraneUplinksAreTaken := by
  intro tag u s k c l x htables htag hcls hext hx howner through switchingTo lost fs heard complete
  obtain ⟨hcwf, hlwf, -, -⟩ := htables
  have hc := State.get?_of_findTag hcwf htag
  obtain ⟨hnone, hsome⟩ := exec_craneUplink (u := u) htag hcls hext hx
  refine ⟨fun hignored => ?_, fun h hidle hserved hthrough => ?_⟩
  · cases hhead : headOf u.head with
    | none => exact hnone hhead
    | some h =>
      refine (hsome h hhead).1 (Bool.eq_false_iff.mpr fun htaken => ?_)
      obtain ⟨hidle, hserved, hvia⟩ := (uplinkTaken_iff x c h).mp htaken
      rcases hignored with h0 | h0 | h0
      · exact hidle h0
      · rw [h0] at hserved
        cases hserved
      · obtain ⟨h1, h2⟩ := h0 h (headOf_eq_some.mp hhead)
        exact hvia.elim h1 h2
  have htaken (hvia : c.serving = some h ∨ switchingTo h) : exec (.craneUplink tag u) s = .next (takeUplink k l x h u s) :=
    (hsome h (headOf_eq_some.mpr hthrough)).2 ((uplinkTaken_iff x c h).mpr ⟨hidle, hserved, hvia⟩)
  have hstays (hno : ¬ switchingTo h) : takeUplink k l x h u s = s.noteUplink k l x u := by
    rw [takeUplink_eq, if_neg (mt (switchTarget_eq_some _ _).mp hno)]
  refine ⟨fun hserving hno hinc => ?_, fun a b hserving hno hheard hfs hlen hb => ?_,
    fun old block hserving hne hswitch hprepared hstanding hinc hblock => ?_⟩
  · rw [htaken (.inl hserving), hstays hno, noteUplink_of_incomplete hlwf hx hinc]
    rfl
  · rw [htaken (.inl hserving), hstays hno, noteUplink_of_complete hlwf hx hheard hfs hlen hb]
    rfl
  have hnoted : UplinkNoted k l x c u block s (s.noteUplink k l x u) := by
    cases block with
    | none => exact uplinkNoted_none hlwf hx hc (hinc rfl)
    | some b =>
      obtain ⟨hheard, a, hfs, hlen, hb⟩ := hblock b rfl
      exact uplinkNoted_some hlwf hx hc hheard hfs hlen hb
  obtain ⟨n, hphase⟩ := hswitch
  have hyowner : (x.notedWith u block).owner = k := by cases block <;> exact howner
  have hyphase : (x.notedWith u block).phase.target? = some h := by cases block <;> exact congrArg Phase.target? hphase
  have hserving' : (c.notedWith block).serving = some old := by cases block <;> exact hserving
  have htag' : (c.notedWith block).tag = tag := by
    rw [← tag_of_findTag htag]
    cases block <;> rfl
  have hdone := handoverCompleted hnoted.polls hnoted.orders hnoted.link.self (by rw [hyowner]; exact hnoted.context) hyphase
    hserving' hne
  rw [htaken (.inr ⟨n, hphase⟩), takeUplink_eq, if_pos ((switchTarget_eq_some _ _).mpr ⟨n, hphase⟩)]
  generalize s.noteUplink k l x u = v at hnoted hdone
  generalize v.completeHandover l = t at hdone
  have hboth := post_congr_both hnoted.notices hnoted.overflow (.context k) (.handoverDone (some old) h .trigger)
  obtain ⟨hlink, hcontexts, htarget, hleft, hothers, horders, hnotices, hoverflow, hheads, hreplies, hlaw⟩ := hdone
  rw [htag'] at horders hlaw
  rw [hyowner] at hcontexts hnotices hoverflow
  refine ⟨t, rfl, ?_, fun j hj => ?_, fun e he => ?_, fun j hj => ?_, htarget, hleft, horders,
    ⟨hnotices.trans hboth.1, hoverflow.trans hboth.2⟩, hothers, hheads.trans hnoted.polls.heads, hreplies.trans hnoted.replies,
    fun hair => ?_⟩
  · rw [hlink.self]
    cases block <;> rfl
  · rw [hlink.others j hj, hnoted.link.others j hj]
  · rw [hcontexts, Table.get?_modify_self, hnoted.context]
    cases block <;> simp only [Option.map_some, Context.notedWith, Context.serveOn, Context.entry?] <;>
      rw [show c.cands.find? (fun e => e.head == h) = some e from he]
  · rw [hcontexts, Table.get?_modify_of_ne _ _ hj, hnoted.contexts j hj]
  · have hreleased := hlaw hair
    rw [State.released, if_pos hstanding] at hreleased
    rw [hleft]
    exact hreleased

end Sys2Proof.Machine
end

section
/-! Reefers: acknowledgements, answers and expiries (R142 to R149, R152 to R154), and the requests PAGE, REEFER_PARAMS and
REEFER_READ (R150, R136, R137). -/

namespace Sys2Proof.Machine

variable {s t : State} {r : Request} {q : ReqKind} {os : Options} {k i : Nat} {c : Context} {x : Reefer} {h : HeadIx}
  {tag : Tag}

/-! ### Routing -/

theorem onReefer_of_finds {f : Nat → Reefer → State → State} (hf : findsReefer tag s k c i x) : onReefer tag s f = f i x s := by
  obtain ⟨htag, -, hcls, hext, hx⟩ := hf
  unfold onReefer
  rw [htag]
  dsimp only
  rw [if_pos hcls, hext]
  dsimp only
  rw [hx]

theorem reeferTarget_of_names (hn : namesReefer r s k c i x) (ho : carries q r os) :
    reeferTarget q r s = .ok { opts := os, handle := k, ctx := c, index := i, record := x } := by
  obtain ⟨hnames, -, hcls, hext, hx⟩ := hn
  rw [reeferTarget, contextTarget_of_names hnames ho (by rw [hcls]; rfl)]
  simp only [hext, hx]

/-! ### Contact and polls -/

theorem setContact_eq (hx : s.reefers.get? i = some x) (d : Contact) :
    s.setContact i d = if x.contact = d then s
      else (s.modReefer i fun y => { y with contact := d }).post (.context x.owner) (.reeferContact d x.doze) := by
  unfold State.setContact
  rw [hx]

theorem pollIfOverdue_eq (hx : s.reefers.get? i = some x) :
    s.pollIfOverdue i = if x.interval + x.grace ≤ x.age then s.makePoll i else s := by
  unfold State.pollIfOverdue Reefer.overdue
  rw [hx]
  simp only [decide_eq_true_eq]

theorem pollIfOverdue_of_fields {y : Reefer} (hy : s.reefers.get? i = some y) (hi : y.interval = x.interval)
    (hg : y.grace = x.grace) (ha : y.age = x.age) :
    s.pollIfOverdue i = if x.interval + x.grace ≤ x.age then s.makePoll i else s := by
  rw [pollIfOverdue_eq hy, hi, hg, ha]

theorem get?_modReefer_of_get? (hx : s.reefers.get? i = some x) (f : Reefer → Reefer) :
    (s.modReefer i f).reefers.get? i = some (f x) := by
  rw [get?_modReefer, hx]
  rfl

/-- The record of `i` once its page has ended. -/
theorem get?_endPage (hx : s.reefers.get? i = some x) (res : Result) :
    (s.endPage i res).reefers.get? i = some { x with page := none } := by
  cases hp : x.page with
  | none =>
    rw [endPage_of_none (fun y hy => by rw [hx] at hy; cases hy; exact hp), hx]
    obtain ⟨⟩ := x
    cases hp
    rfl
  | some p =>
    rw [endPage_eq hx hp]
    show (s.reefers.modify i _).get? i = _
    rw [Table.get?_modify_self, hx]
    rfl

/-! ### DOZE_ACK and PAGE_ANSWER -/

/-- The record and the notices once contact is REACHABLE (R154). -/
def State.reached (s : State) (i : Nat) (x : Reefer) : State :=
  if x.contact = .reachable then s
  else (s.modReefer i fun y => { y with contact := .reachable }).post (.context x.owner) (.reeferContact .reachable x.doze)

theorem get?_reached (hx : s.reefers.get? i = some x) :
    (s.reached i x).reefers.get? i = some { x with contact := .reachable } := by
  unfold State.reached
  by_cases hc : x.contact = .reachable
  · rw [if_pos hc, hx]
    obtain ⟨⟩ := x
    cases hc
    rfl
  · rw [if_neg hc, State.post_reefers]
    exact get?_modReefer_of_get? hx _

theorem reached_contexts (s : State) (i : Nat) (x : Reefer) : (s.reached i x).contexts = s.contexts := by
  unfold State.reached
  split
  · rfl
  · exact State.post_contexts _ _ _

theorem reached_heads (s : State) (i : Nat) (x : Reefer) : (s.reached i x).heads = s.heads := by
  unfold State.reached
  split
  · rfl
  · exact State.post_heads _ _ _

theorem ackState_eq_some (st : Byte) (d : Doze) : ackState st = some d ↔ st = 1 ∧ d = .light ∨ st = 2 ∧ d = .deep := by
  unfold ackState
  by_cases h1 : st = 1
  · subst h1
    simp [eq_comm]
  · by_cases h2 : st = 2
    · subst h2
      simp [eq_comm]
    · rw [if_neg h1, if_neg h2]
      exact ⟨nofun, fun hd => hd.elim (fun hd => absurd hd.1 h1) fun hd => absurd hd.1 h2⟩

theorem reeferServing_eq (hx : s.reefers.get? i = some x) (hc : s.contexts.get? x.owner = some c) :
    s.reeferServing i = c.serving := by
  rw [State.reeferServing, State.reeferContext, hx]
  show (s.contexts.get? x.owner).bind _ = _
  rw [hc]
  rfl

theorem covered_eq (hx : s.reefers.get? i = some x) (hc : s.contexts.get? x.owner = some c) (h : HeadIx) :
    s.covered h i = (s.head h).covers c.sector := by
  have hctx : s.reeferContext i = some c := by rw [State.reeferContext, hx]; exact hc
  unfold State.covered
  rw [hctx]

/-- A page in ACK_WAIT of a record that has adopted a doze state (R142). -/
theorem releaseAckPage_of_ackWait {p : Page} (hx : s.reefers.get? i = some x) (hc : s.contexts.get? x.owner = some c)
    (hp : x.page = some p) (hwait : p.phase = .ackWait) :
    s.releaseAckPage i = if x.doze = .deep ∧ ¬ ∃ h, c.serving = some h ∧ (s.head h).covers c.sector = true
      then s.endPage i .notCovered else s.modPage i fun p => { p with phase := .slotWait } := by
  unfold State.releaseAckPage
  rw [hx]
  dsimp only
  rw [hp]
  dsimp only
  rw [if_pos hwait, reeferServing_eq hx hc]
  cases hserving : c.serving with
  | none => simp
  | some h => simp [covered_eq hx hc]

theorem releaseAckPage_of_other (hx : s.reefers.get? i = some x) (hno : ∀ p, x.page = some p → p.phase ≠ .ackWait) :
    s.releaseAckPage i = s := by
  unfold State.releaseAckPage
  rw [hx]
  dsimp only
  cases hp : x.page with
  | none => rfl
  | some p => exact if_neg (hno p hp)

/-- Settles O56: contact first, then the acknowledgement by the page, or the wake with its poll. -/
theorem acksAndAnswersMoveTheDozeState : Obligations.AcksAndAnswersMoveTheDozeState := by
  intro tag b st s k c i x hfinds howner s1 put
  have hack : exec (.dozeAck tag b st) s = .next (onReefer tag s (takeDozeAck st)) := rfl
  have hanswer : exec (.pageAnswer tag b) s = .next (onReefer tag s takePageAnswer) := rfl
  rw [onReefer_of_finds hfinds] at hack hanswer
  obtain ⟨-, hc, -, -, hx⟩ := hfinds
  have hs1 : s.reached i x = s1 := by rw [State.reached, howner]; rfl
  have hset : s.setContact i .reachable = s1 := by rw [setContact_eq hx, ← hs1]; rfl
  have hx1 : s1.reefers.get? i = some { x with contact := .reachable } := by rw [← hs1]; exact get?_reached hx
  have hc1 : s1.contexts.get? x.owner = some c := by rw [← hs1, reached_contexts, howner]; exact hc
  have hhead1 (h : HeadIx) : s1.head h = s.head h := by rw [← hs1]; exact head_of_heads (reached_heads s i x) h
  rw [takeDozeAck, hset] at hack
  rw [takePageAnswer, hset] at hanswer
  refine ⟨fun hignored => ?_, fun d hordered hd => ?_, fun hdoze => ?_, fun hdoze => ?_⟩
  · rw [hack]
    cases hst : ackState st with
    | none => rfl
    | some d =>
      refine congrArg _ (if_neg fun hordered => ?_)
      rcases hignored with hno | ⟨h1, h2⟩
      · exact hno hordered
      · rcases (ackState_eq_some st d).mp hst with ⟨h0, -⟩ | ⟨h0, -⟩
        · exact h1 h0
        · exact h2 h0
  · rw [(ackState_eq_some st d).mpr hd] at hack
    dsimp only at hack
    rw [if_pos hordered] at hack
    have hx2 := get?_modReefer_of_get? hx1 fun y => { y with doze := d, ackTimer := none }
    refine ⟨fun hno => ?_, fun p hp hwait => ?_⟩
    · rw [hack, releaseAckPage_of_other hx2 hno]
      rfl
    · rw [releaseAckPage_of_ackWait hx2 (c := c) hc1 hp hwait] at hack
      refine ⟨fun hcovered => ?_, fun huncovered => ?_⟩
      · rw [hack, if_neg ?_, State.modPage, modReefer_modReefer]
        · rfl
        · rintro ⟨hdeep, hno⟩
          rcases hcovered with hlight | ⟨h, hserving, hcov⟩
          · rw [hlight] at hdeep
            cases hdeep
          · exact hno ⟨h, hserving, (congrArg (fun y : Head => y.covers c.sector) (hhead1 h)).trans hcov⟩
      · rw [hack, if_pos ?_]
        · rfl
        · refine ⟨?_, ?_⟩
          · rcases hd with ⟨-, hlight⟩ | ⟨-, hdeep⟩
            · exact absurd (.inl hlight) huncovered
            · exact hdeep
          · rintro ⟨h, hserving, hcov⟩
            exact huncovered (.inr ⟨h, hserving, (congrArg (fun y : Head => y.covers c.sector) (hhead1 h)).symm.trans hcov⟩)
  · rw [hanswer, if_neg]
    rcases hdoze with hdoze | hdoze <;> rw [hdoze] <;> exact Bool.false_ne_true
  · have hdozing : x.doze.dozing = true := by rcases hdoze with hdoze | hdoze <;> rw [hdoze] <;> rfl
    rw [if_pos hdozing] at hanswer
    have hx2 := get?_endPage (get?_modReefer_of_get? hx1 fun y => { y with doze := .awake }) .done
    rw [hanswer]
    exact congrArg _ (pollIfOverdue_of_fields (y := { x with contact := .reachable, doze := .awake, page := none }) hx2
      rfl rfl rfl)

/-! ### Expiries of a record -/

theorem firstDue_eq_true {p : Reefer → Bool} {P : Reefer → Prop} (hp : ∀ y, p y = true → P y)
    (hno : ∀ e ∈ s.reefers, e.1 < i → ¬ P e.2) : s.firstDue p i = true := by
  refine List.all_eq_true.mpr fun e he => ?_
  by_cases hlt : e.1 < i
  · have : p e.2 = false := Bool.eq_false_iff.mpr fun h => hno e he hlt (hp e.2 h)
    simp [this]
  · simp [Nat.le_of_not_lt hlt]

theorem pagePhase_eq (d : Doze) : d.pagePhase = if d = .ordered then .ackWait else .slotWait := by
  cases d <;> rfl

theorem creditGiven_iff (s : State) (h : HeadIx) :
    s.creditGiven h = true ↔ (s.head h).state.inService = true ∧ (s.account h).polls < (s.account h).wg := by
  simp [State.creditGiven]

/-- A poll made (R146). -/
theorem makePoll_eq (hx : s.reefers.get? i = some x) (hc : s.contexts.get? x.owner = some c) (hserving : c.serving = some h)
    (hpoll : x.poll = .none) :
    s.makePoll i = if s.creditGiven h then s.sendPoll h i
      else (s.setPollWait h (s.pollWait h ++ [i])).modReefer i fun y => { y with poll := .waiting } := by
  unfold State.makePoll
  rw [hx, reeferServing_eq hx hc, hserving]
  exact if_pos hpoll

theorem makePoll_of_unserved (hx : s.reefers.get? i = some x) (hc : s.contexts.get? x.owner = some c)
    (hserving : c.serving = none) : s.makePoll i = s := by
  unfold State.makePoll
  rw [hx, reeferServing_eq hx hc, hserving]

theorem makePoll_of_polled (hx : s.reefers.get? i = some x) (hpoll : x.poll ≠ .none) : s.makePoll i = s := by
  unfold State.makePoll
  rw [hx]
  cases s.reeferServing i with
  | none => rfl
  | some h => exact if_neg hpoll

theorem ackExpiry_of_due (hx : s.reefers.get? i = some x) (hdue : x.ackTimer = some 0)
    (hfirst : ∀ e ∈ s.reefers, e.1 < i → e.2.ackTimer ≠ some 0) :
    let t := s.modReefer i fun y => { y with doze := .awake, ackTimer := none }
    let t' := if x.page.any (fun p => p.phase == .ackWait) then t.endPage i .alreadyAwake else t
    s.ackExpiry i = if x.interval + x.grace ≤ x.age then t'.makePoll i else t' := by
  intro t t'
  have hx1 : t.reefers.get? i = some { x with doze := .awake, ackTimer := none } := get?_modReefer_of_get? hx _
  have hdue' : x.ackDue = true := by rw [Reefer.ackDue, hdue]; rfl
  have hall := firstDue_eq_true (p := Reefer.ackDue) (P := fun y => y.ackTimer = some 0) (fun y hy => eq_of_beq hy) hfirst
  have hexp : s.ackExpiry i = t'.pollIfOverdue i := by
    unfold State.ackExpiry
    rw [hx]
    dsimp only
    rw [if_pos ⟨hdue', hall⟩]
    cases hp : x.page with
    | none => simp [t', hp, t]
    | some p =>
      by_cases hwait : p.phase = .ackWait
      · simp [t', hp, t, hwait]
      · simp [t', hp, t, hwait]
  have hx2 : ∃ y, t'.reefers.get? i = some y ∧ y.interval = x.interval ∧ y.grace = x.grace ∧ y.age = x.age := by
    by_cases hwait : (x.page.any fun p => p.phase == .ackWait) = true
    · refine ⟨{ x with doze := .awake, ackTimer := none, page := none }, ?_, rfl, rfl, rfl⟩
      rw [show t' = t.endPage i .alreadyAwake from if_pos hwait]
      exact get?_endPage hx1 _
    · refine ⟨{ x with doze := .awake, ackTimer := none }, ?_, rfl, rfl, rfl⟩
      rw [show t' = t from if_neg hwait]
      exact hx1
  obtain ⟨y, hy, hi, hg, ha⟩ := hx2
  rw [hexp, pollIfOverdue_of_fields hy hi hg ha]

theorem pageExpiry_of_due {p : Page} (hx : s.reefers.get? i = some x) (hp : x.page = some p) (hsent : p.phase = .sent 0) :
    s.pageExpiry i = if p.attempts + 1 < 2 then
        s.modPage i fun p => { p with attempts := p.attempts + 1, phase := .slotWait }
      else s.failPage i := by
  unfold State.pageExpiry
  rw [hx]
  dsimp only
  rw [hp]
  exact if_pos hsent

theorem pollExpiry_of_due (hx : s.reefers.get? i = some x) (hpoll : x.poll = .outstanding h 0) :
    s.pollExpiry i = (s.modReefer i fun y => { y with poll := .none }).returnCredit h := by
  unfold State.pollExpiry
  rw [hx]
  dsimp only
  rw [hpoll]
  exact if_pos rfl

theorem overdueExpiry_of_due (hx : s.reefers.get? i = some x) (hdue : x.overdueDue = true)
    (hfirst : ∀ e ∈ s.reefers, e.1 < i → e.2.overdueDue = false) :
    s.overdueExpiry i =
      (s.modReefer i fun y => { y with overdueDue := false, missed := satInc 255 y.missed }).overdueAction i := by
  have hall := firstDue_eq_true (p := Reefer.overdueDue) (P := fun y => y.overdueDue = true) (fun _ => id)
    fun e he hlt hd => Bool.false_ne_true ((hfirst e he hlt).symm.trans hd)
  unfold State.overdueExpiry
  rw [hx]
  exact if_pos ⟨hdue, hall⟩

theorem overdueAction_of_idle (hx : s.reefers.get? i = some x) (hc : s.contexts.get? x.owner = some c)
    (hidle : c.serving = none ∨ (x.doze ≠ .awake ∧ x.page.isSome)) : s.overdueAction i = s := by
  unfold State.overdueAction
  rw [hx, reeferServing_eq hx hc]
  cases hserving : c.serving with
  | none => rfl
  | some h =>
    rcases hidle with hno | ⟨hdoze, hpage⟩
    · rw [hserving] at hno
      cases hno
    · obtain ⟨p, hp⟩ := Option.isSome_iff_exists.mp hpage
      cases hd : x.doze with
      | awake => exact absurd hd hdoze
      | ordered | light | deep => simp only [hd, hp, Option.isNone_some, Bool.false_eq_true, if_false]

theorem overdueAction_of_awake (hx : s.reefers.get? i = some x) (hc : s.contexts.get? x.owner = some c)
    (hserving : c.serving = some h) (hdoze : x.doze = .awake) : s.overdueAction i = s.makePoll i := by
  unfold State.overdueAction
  rw [hx, reeferServing_eq hx hc, hserving]
  dsimp only
  rw [hdoze]

theorem overdueAction_of_doze (hx : s.reefers.get? i = some x) (hc : s.contexts.get? x.owner = some c)
    (hserving : c.serving = some h) (hdoze : x.doze ≠ .awake) (hpage : x.page = none) :
    s.overdueAction i =
      if (x.doze = .deep → (s.head h).covers c.sector = true) ∧ (s.pageQueue h).length < 32 then s.queuePage h i none
      else s := by
  have hinternal : s.overdueAction i = s.internalPage h i := by
    unfold State.overdueAction
    rw [hx, reeferServing_eq hx hc, hserving]
    dsimp only
    cases hd : x.doze with
    | awake => exact absurd hd hdoze
    | ordered | light | deep => simp only [hpage, Option.isNone_none, if_true]
  rw [hinternal, State.internalPage, hx]
  dsimp only
  rw [covered_eq hx hc]
  by_cases hcov : x.doze = .deep → (s.head h).covers c.sector = true
  · have hno : ¬ (x.doze = .deep ∧ ¬ (s.head h).covers c.sector = true) := fun ⟨hd, hn⟩ => hn (hcov hd)
    rw [if_neg hno]
    by_cases hlen : (s.pageQueue h).length < 32
    · rw [if_pos (show (s.pageQueue h).length < Config.pageEntries from hlen), if_pos ⟨hcov, hlen⟩]
    · rw [if_neg (show ¬ (s.pageQueue h).length < Config.pageEntries from hlen), if_neg fun hh => hlen hh.2]
  · have hyes : x.doze = .deep ∧ ¬ (s.head h).covers c.sector = true := by simpa using hcov
    rw [if_pos hyes, if_neg fun hh => hcov hh.1]

theorem get_queuesWithout_singleton (s : State) (i : Nat) (h : HeadIx) :
    (s.queuesWithout [i]).get h = (s.pageQueue h).filter (· != i) := by
  rw [State.queuesWithout, get_mapEach]
  refine List.filter_congr fun j _ => ?_
  by_cases hj : j = i <;> simp [hj]

/-- Settles O57: each expiry by its record, and what a poll made and a page ended write. -/
theorem reeferExpiriesAreTaken : Obligations.ReeferExpiriesAreTaken := by
  refine ⟨fun s hdue => ?_, ?_⟩
  · have hexec : exec .secondExpiry s = .next s.secondPass := rfl
    rw [hexec, State.secondPass, if_pos hdue]
    rfl
  intro j s x c hx hc put polledIfDue
  refine ⟨fun hdue hfirst => ?_, fun p hp hsent => ?_, fun h hpoll => ?_, fun hdue hfirst => ?_, fun h hserving hpoll => ?_,
    fun hno => ?_, fun p res hp => ?_⟩
  · exact congrArg _ (ackExpiry_of_due hx hdue hfirst)
  · have hexec : exec (.pageAnswerExpiry j) s = .next (s.pageExpiry j.val) := rfl
    rw [hexec, pageExpiry_of_due hx hp hsent]
    refine ⟨fun hnone => ?_, fun hsome => ?_⟩
    · rw [if_pos (by omega)]
      rfl
    · rw [if_neg (by omega), State.failPage, setContact_eq (get?_endPage hx .failed)]
      rfl
  · exact congrArg _ (pollExpiry_of_due hx hpoll)
  · have hexec : exec (.overdueExpiry j) s = .next (s.overdueExpiry j.val) := rfl
    rw [hexec, overdueExpiry_of_due hx hdue hfirst]
    have hx1 := get?_modReefer_of_get? hx fun y => { y with overdueDue := false, missed := satInc 255 y.missed }
    intro t
    refine ⟨fun hidle => ?_, fun hserved hawake => ?_, fun h hserving hdoze hpage => ⟨fun hfits => ?_, fun hno => ?_⟩⟩
    · exact congrArg _ (overdueAction_of_idle hx1 hc hidle)
    · obtain ⟨h, hserving⟩ := Option.isSome_iff_exists.mp hserved
      exact congrArg _ (overdueAction_of_awake hx1 hc hserving hawake)
    · rw [overdueAction_of_doze hx1 hc hserving hdoze hpage]
      refine congrArg _ ((if_pos hfits).trans ?_)
      rw [State.queuePage]
      simp only [pagePhase_eq]
      rfl
    · rw [overdueAction_of_doze hx1 hc hserving hdoze hpage]
      exact congrArg _ (if_neg hno)
  · have hctx : s.reeferContext j.val = some c := by rw [State.reeferContext, hx]; exact hc
    rw [makePoll_eq hx hc hserving hpoll]
    refine ⟨fun hserv hroom => ?_, fun hbad => ?_⟩
    · rw [if_pos ((creditGiven_iff s h).mpr ⟨hserv, hroom⟩), sendPoll_eq hctx]
      rfl
    · rw [if_neg fun hcredit => ?_]
      · rfl
      · obtain ⟨hserv, hroom⟩ := (creditGiven_iff s h).mp hcredit
        rcases hbad with h0 | h0
        · rw [hserv] at h0
          cases h0
        · omega
  · rcases hno with hserving | hpoll
    · exact makePoll_of_unserved hx hc hserving
    · exact makePoll_of_polled hx hpoll
  · intro t
    have hentry : s.pageEntry j.val = p.owner.map fun q => InFlight.is .page (.context x.owner) q := by
      simp [State.pageEntry, hx, hp]
    have ht : t = _ := endPage_eq hx hp res
    rw [hentry] at ht
    refine ⟨fun h => ?_, ?_, fun howner => ?_, fun q howner => ?_, ?_⟩
    · rw [ht]
      exact get_queuesWithout_singleton s j.val h
    · rw [ht]
      rfl
    · rw [ht, howner]
      exact ⟨rfl, rfl⟩
    · rw [ht, howner]
      rfl
    · rw [ht]

/-! ### PAGE, REEFER_PARAMS and REEFER_READ -/

/-- The rows of R150, each behind those above it. -/
theorem pageDeal_awake {a : ReeferTarget} (hd : a.record.doze = .awake) : pageDeal a s = .answered .alreadyAwake := if_pos hd

theorem pageDeal_unserved {a : ReeferTarget} (hd : a.record.doze ≠ .awake) (hno : a.ctx.serving = none) :
    pageDeal a s = .refused .noPath := by
  unfold pageDeal
  rw [if_neg hd, hno]

theorem pageDeal_pending {a : ReeferTarget} {p : Page} (hd : a.record.doze ≠ .awake) (hserving : a.ctx.serving = some h)
    (hp : a.record.page = some p) :
    pageDeal a s = if p.owner.isSome then .refused .inProgress else .takeOver := by
  unfold pageDeal
  rw [if_neg hd, hserving]
  dsimp only
  rw [hp]

theorem pageDeal_idle {a : ReeferTarget} (hd : a.record.doze ≠ .awake) (hserving : a.ctx.serving = some h)
    (hp : a.record.page = none) :
    pageDeal a s = if a.record.doze = .deep ∧ ¬ (s.head h).covers a.ctx.sector = true then .answered .notCovered
      else if 32 ≤ (s.pageQueue h).length then .refused .queueFull else .queue h := by
  unfold pageDeal
  rw [if_neg hd, hserving]
  dsimp only
  rw [hp]
  rfl

/-- The setting of a booked setpoint as the statement writes it. -/
theorem bookedPlan_of_some {held : Option Int} {b : Byte} {v : List Byte} (h : os.bytes .booked = some (b :: v)) :
    bookedPlan os held = (some (max (-400) (min 400 (beInt16 (b :: v)))),
      decide (beInt16 (b :: v) < -400) || decide (400 < beInt16 (b :: v))) := by
  unfold bookedPlan
  rw [h]
  simp [clampInt]

/-- Settles O58: PAGE by the rows of R150, and the two requests on a record by what they write and report. -/
theorem reeferRequestsAreTaken : Obligations.ReeferRequestsAreTaken := by
  intro r s k c i x hnames answered entry
  refine ⟨fun hbare => ?_, fun hbare => ?_, fun os hcarries => ?_⟩
  · have hexec : exec (.page r) s = execPage r s := rfl
    rw [execPage, reeferTarget_of_names hnames (carries_bare hbare rfl)] at hexec
    dsimp only at hexec
    refine ⟨fun hfull => ?_, fun hroom => ?_⟩
    · rw [hexec, if_pos (show s.inflightFull = true from decide_eq_true hfull)]
      rfl
    have hfull : ¬ s.inflightFull = true := fun hf => absurd hroom (Nat.not_lt.mpr (of_decide_eq_true hf))
    rw [if_neg hfull] at hexec
    refine ⟨fun hd => ?_, fun hd => ⟨fun hno => ?_, fun h hserving => ⟨fun p hp => ?_, fun hp => ?_⟩⟩⟩
    · rw [hexec, pageDeal_awake hd]
      rfl
    · rw [hexec, pageDeal_unserved hd hno]
      rfl
    · rw [pageDeal_pending hd hserving hp] at hexec
      refine ⟨fun howner => ?_, fun howner => ?_⟩
      · rw [hexec, if_pos howner]
        rfl
      · rw [hexec, if_neg (by rw [howner]; exact Bool.false_ne_true)]
        rfl
    · rw [pageDeal_idle hd hserving hp] at hexec
      intro covered
      refine ⟨fun hno => ?_, fun hcov hlen => ?_, fun hcov hlen => ?_⟩
      · rw [hexec, if_pos (Classical.not_imp.mp hno)]
        rfl
      · rw [hexec, if_neg fun hh => hh.2 (hcov hh.1), if_pos hlen]
        rfl
      · rw [hexec, if_neg fun hh => hh.2 (hcov hh.1), if_neg (Nat.not_le.mpr hlen)]
        simp only [State.queuePage, pagePhase_eq]
        rfl
  · have hexec : exec (.reeferRead r) s = execReeferRead r s := rfl
    rw [execReeferRead, reeferTarget_of_names hnames (carries_bare hbare rfl)] at hexec
    exact hexec
  · have hexec : exec (.reeferParams r) s = execReeferParams r s := rfl
    rw [execReeferParams, reeferTarget_of_names hnames hcarries] at hexec
    dsimp only at hexec
    refine ⟨fun hempty => ?_, fun hbad => ?_, fun pref hne hpref => ?_⟩
    · subst hempty
      rw [hexec]
      rfl
    · rw [hexec, reeferParamsChecks, hbad]
      rfl
    · have hempty : ¬ os.isEmpty = true := fun he => hne (List.isEmpty_iff.mp he)
      rw [reeferParamsChecks, hpref] at hexec
      dsimp only at hexec
      rw [if_neg hempty] at hexec
      simp only [clampOpt_eq] at hexec
      rw [hexec]
      cases hb : os.bytes .booked with
      | none =>
        simp only [bookedPlan, hb]
        rfl
      | some v =>
        cases v with
        | nil =>
          simp only [bookedPlan, hb]
          rfl
        | cons b v =>
          simp only [bookedPlan_of_some hb]
          rfl

end Sys2Proof.Machine
end

section
/-! The frame strobe (R171, R172): expiries that are not due, those a strobe takes first, and its counts. -/

namespace Sys2Proof.Machine

variable {s t : State} {i l : Nat} {h : HeadIx}

/-! ### An expiry that is not due -/

theorem startTimerExpiry_idle (hno : (s.head h).startTimer ≠ some 0) : s.startTimerExpiry h = s := if_neg fun hd => hno hd.2

theorem lockWaitExpiry_idle (hno : (s.head h).lockTimer ≠ some 0) : s.lockWaitExpiry h = s := if_neg fun hd => hno hd.2

theorem holdoverExpiry_idle (hno : (s.head h).holdoverTimer ≠ some 0) : s.holdoverExpiry h = s := if_neg fun hd => hno hd.2

theorem dwellExpiry_idle (hno : ∀ p, (s.head h).sweep = some p → p.remaining ≠ 0) : s.dwellExpiry h = s := by
  unfold State.dwellExpiry
  cases hp : (s.head h).sweep with
  | none => rfl
  | some p => exact if_neg (hno p hp)

theorem cycleExpiry_idle (hno : ∀ x, s.links.get? l = some x → x.cycle ≠ some 0) : s.cycleExpiry l = s := by
  unfold State.cycleExpiry
  cases hx : s.links.get? l with
  | none => rfl
  | some x => exact if_neg (hno x hx)

theorem secondPass_idle (hno : s.secondDue = false) : s.secondPass = s :=
  if_neg (by rw [hno]; exact Bool.false_ne_true)

theorem ackExpiry_idle (hno : ∀ x, s.reefers.get? i = some x → x.ackTimer ≠ some 0) : s.ackExpiry i = s := by
  unfold State.ackExpiry
  cases hx : s.reefers.get? i with
  | none => rfl
  | some x => exact if_neg fun hd => hno x hx (eq_of_beq hd.1)

theorem pageExpiry_idle (hno : ∀ x p, s.reefers.get? i = some x → x.page = some p → p.phase ≠ .sent 0) :
    s.pageExpiry i = s := by
  unfold State.pageExpiry
  cases hx : s.reefers.get? i with
  | none => rfl
  | some x =>
    dsimp only
    cases hp : x.page with
    | none => rfl
    | some p => exact if_neg (hno x p hx hp)

theorem pollExpiry_idle (hno : ∀ x h, s.reefers.get? i = some x → x.poll ≠ .outstanding h 0) : s.pollExpiry i = s := by
  unfold State.pollExpiry
  cases hx : s.reefers.get? i with
  | none => rfl
  | some x =>
    dsimp only
    cases hp : x.poll with
    | none | waiting => rfl
    | outstanding g n => exact if_neg fun hn => hno x g hx (by rw [hp, hn])

theorem overdueExpiry_idle (hno : ∀ x, s.reefers.get? i = some x → x.overdueDue = false) : s.overdueExpiry i = s := by
  unfold State.overdueExpiry
  cases hx : s.reefers.get? i with
  | none => rfl
  | some x => exact if_neg fun hd => Bool.false_ne_true ((hno x hx).symm.trans hd.1)

/-! ### The expiries a strobe takes first -/

theorem takeEach_idle {α : Type} {f : State → α → State} {as : List α} (hf : ∀ a ∈ as, f s a = s) : takeEach f as s = s := by
  induction as with
  | nil => rfl
  | cons a as ih =>
    rw [takeEach, hf a List.mem_cons_self]
    exact ih fun b hb => hf b (List.mem_cons_of_mem a hb)

theorem takeDue_of_quiet (hquiet : s.quiet) : s.takeDue = s := by
  obtain ⟨hsecond, hheads, hlinks, hreefers⟩ := hquiet
  have hrecord {i : Nat} {x : Reefer} (hx : s.reefers.get? i = some x) := hreefers (i, x) (Table.mem_of_get? hx)
  have hheadsDone : s.headExpiries = s := takeEach_idle fun h _ => by
    obtain ⟨hstart, hlock, hhold, hdwell⟩ := hheads h
    rw [startTimerExpiry_idle hstart, lockWaitExpiry_idle hlock, holdoverExpiry_idle hhold, dwellExpiry_idle hdwell]
  have hlinksDone : s.linkExpiries = s := takeEach_idle fun l _ =>
    cycleExpiry_idle fun x hx => hlinks (l, x) (Table.mem_of_get? hx)
  have hacks : takeEach State.ackExpiry s.reefers.keys s = s := takeEach_idle fun i _ =>
    ackExpiry_idle fun x hx => (hrecord hx).1
  have hpages : takeEach State.pageExpiry s.reefers.keys s = s := takeEach_idle fun i _ =>
    pageExpiry_idle fun x p hx hp => (hrecord hx).2.2.1 p hp
  have hpolls : takeEach State.pollExpiry s.reefers.keys s = s := takeEach_idle fun i _ =>
    pollExpiry_idle fun x h hx => (hrecord hx).2.2.2 h
  have hoverdue : takeEach State.overdueExpiry s.reefers.keys s = s := takeEach_idle fun i _ =>
    overdueExpiry_idle fun x hx => (hrecord hx).2.1
  unfold State.takeDue State.reeferExpiries
  rw [hheadsDone, hlinksDone]
  dsimp only
  rw [hacks, hpages, hpolls, secondPass_idle hsecond, hoverdue]

theorem after_append (is js : List Instr) (s : State) : s.after (is ++ js) = (s.after is).after js := by
  induction is generalizing s with
  | nil => rfl
  | cons i is ih => exact ih _

/-- Commands that each run one expiry run them one by one. -/
theorem after_map_eq_takeEach {α : Type} {f : State → α → State} {g : α → Instr} (as : List α)
    (hg : ∀ a ∈ as, ∀ s, exec (g a) s = .next (f s a)) (s : State) : s.after (as.map g) = takeEach f as s := by
  induction as generalizing s with
  | nil => rfl
  | cons a as ih =>
    rw [List.map_cons, State.after, hg a List.mem_cons_self]
    exact ih (fun b hb => hg b (List.mem_cons_of_mem a hb)) _

theorem after_heads (hs : List HeadIx) (s : State) :
    s.after (hs.flatMap fun h => [.startTimerExpiry h, .lockWaitExpiry h, .holdoverExpiry h, .dwellExpiry h]) =
      takeEach (fun s h => (((s.startTimerExpiry h).lockWaitExpiry h).holdoverExpiry h).dwellExpiry h) hs s := by
  induction hs generalizing s with
  | nil => rfl
  | cons h hs ih =>
    rw [List.flatMap_cons, after_append, ih]
    rfl

theorem keys_of_fixed (h : t.fixed = s.fixed) : t.links.keys = s.links.keys ∧ t.reefers.keys = s.reefers.keys := by
  have hlinks := congrArg (fun f : Fixed => f.links.map (·.1)) h
  have hreefers := congrArg (fun f : Fixed => f.reefers.map (·.1)) h
  simp only [State.fixed, List.map_map] at hlinks hreefers
  exact ⟨hlinks, hreefers⟩

/-- The keys of the links and of the reefers are the same at each point of a strobe. -/
theorem takeDue_eq_after (htables : s.tablesLaw) : s.takeDue = s.after s.dueOrder := by
  obtain ⟨-, ⟨-, hlinks⟩, ⟨-, hreefers⟩, -⟩ := htables
  have hlink (l : Nat) (hl : l ∈ s.links.keys) (t : State) : exec (.cycleExpiry (Fin.ofNat 32 l)) t = .next (t.cycleExpiry l) := by
    obtain ⟨e, he, rfl⟩ := List.mem_map.mp hl
    exact congrArg (fun n => Host.Outcome.next (t.cycleExpiry n)) (Nat.mod_eq_of_lt (hlinks e he))
  have hreefer (i : Nat) (hi : i ∈ s.reefers.keys) : (Fin.ofNat 4096 i).val = i := by
    obtain ⟨e, he, rfl⟩ := List.mem_map.mp hi
    exact Nat.mod_eq_of_lt (hreefers e he)
  have hrecords (g : Fin 4096 → Instr) (f : State → Nat → State) (hg : ∀ j t, exec (g j) t = .next (f t j.val)) (t : State) :
      t.after ((s.reefers.keys.map (Fin.ofNat 4096)).map g) = takeEach f s.reefers.keys t := by
    rw [List.map_map]
    refine after_map_eq_takeEach _ (fun i hi u => ?_) t
    rw [Function.comp, hg, hreefer i hi]
  have hheads : Keeps none s s.headExpiries := .takeEach (fun s h => Keeps.trans (Keeps.trans (Keeps.trans
    (.startTimerExpiry h) (.lockWaitExpiry h)) (.holdoverExpiry h)) (.dwellExpiry h)) _
  have hcycles := hheads.trans (Keeps.takeEach (fun _ l => .cycleExpiry l) s.links.keys)
  have hacks := hcycles.trans (Keeps.takeEach (fun _ i => .ackExpiry i) s.reefers.keys)
  have hpages := hacks.trans (Keeps.takeEach (fun _ i => .pageExpiry i) s.reefers.keys)
  have hpolls := hpages.trans (Keeps.takeEach (fun _ i => .pollExpiry i) s.reefers.keys)
  unfold State.takeDue State.reeferExpiries State.linkExpiries State.dueOrder
  dsimp only
  rw [(keys_of_fixed hheads.fixed).1, (keys_of_fixed hcycles.fixed).2, (keys_of_fixed hacks.fixed).2,
    (keys_of_fixed hpages.fixed).2, (keys_of_fixed hpolls.fixed).2]
  rw [after_append, after_append, after_append, after_append, after_append, after_heads,
    after_map_eq_takeEach _ hlink, hrecords .ackLimitExpiry State.ackExpiry fun _ _ => rfl, hrecords .pageAnswerExpiry State.pageExpiry fun _ _ => rfl,
    hrecords .pollAnswerExpiry State.pollExpiry fun _ _ => rfl, State.after, hrecords .overdueExpiry State.overdueExpiry fun _ _ => rfl]
  rfl

/-- Settles O59: a strobe takes what is due, then counts; an expiry that is not due changes nothing. -/
theorem strobesCountAndIdleExpiriesDoNothing : Obligations.StrobesCountAndIdleExpiriesDoNothing := by
  refine ⟨?_, fun s h l i => ?_⟩
  · intro down counted
    have hcounts (s : State) : counted s s.count := by
      refine ⟨head_count, rfl, ?_, ?_⟩
      · refine List.map_congr_left fun e _ => ?_
        obtain ⟨j, x⟩ := e
        cases hp : x.poll <;> simp only [Reefer.strobe, Poll.strobe, hp] <;> rfl
      · have hdivider : (if s.divider + 1 < 1000 then s.divider + 1 else 0) = s.count.divider := by
          show _ = if 1000 ≤ s.divider + 1 then 0 else s.divider + 1
          split <;> split <;> omega
        rw [hdivider]
        rfl
    refine ⟨fun s hquiet => ⟨s.count, ?_, hcounts s⟩, fun s htables => ⟨(s.after s.dueOrder).count, ?_, hcounts _⟩⟩
    · exact congrArg (fun t : State => Host.Outcome.next t.count) (takeDue_of_quiet hquiet)
    · exact congrArg (fun t : State => Host.Outcome.next t.count) (takeDue_eq_after htables)
  · exact ⟨fun hno => congrArg _ (startTimerExpiry_idle hno), fun hno => congrArg _ (lockWaitExpiry_idle hno),
      fun hno => congrArg _ (holdoverExpiry_idle hno), fun hno => congrArg _ (dwellExpiry_idle hno),
      fun hno => congrArg _ (cycleExpiry_idle hno), fun hno => congrArg _ (secondPass_idle hno),
      fun hno => congrArg _ (ackExpiry_idle hno), fun hno => congrArg _ (pageExpiry_idle hno),
      fun hno => congrArg _ (pollExpiry_idle hno), fun hno => congrArg _ (overdueExpiry_idle hno)⟩

end Sys2Proof.Machine
end

section
/-! Reefer reports (R127 to R134, R141): the status, the wake, the poll that ends, the class and the doze decision. -/

namespace Sys2Proof.Machine

variable {s t u : State} {i k : Nat} {c : Context} {x y : Reefer} {h : HeadIx} {f : ReportFields}

/-! ### A record replaced -/

/-- In a table in canonical form one record changes at most. -/
theorem modReefer_eq_const {n : Nat} (hwf : s.reefers.wf n) (hx : s.reefers.get? i = some x) (g : Reefer → Reefer) :
    s.modReefer i g = s.modReefer i fun _ => g x := by
  rw [State.modReefer, Table.modify_eq_const hwf hx]
  rfl

theorem modify_const_modify {α : Type} (m : Table α) (k : Nat) (w : α) (g : α → α) :
    (m.modify k fun _ => w).modify k g = m.modify k fun _ => g w :=
  Table.modify_modify _ _ _ _

/-- The owner of a REEFER context's record (R3). -/
theorem owner_of_finds {tag : Tag} (howners : s.ownershipLaw) (hfinds : findsReefer tag s k c i x) : x.owner = k := by
  obtain ⟨-, hreefers, -, -, -⟩ := howners
  obtain ⟨-, hc, hcls, hext, hx⟩ := hfinds
  have howner := hreefers (k, c) (Table.mem_of_get? hc) hcls
  rw [hext, Option.bind_some, hx] at howner
  exact eq_of_beq howner

/-! ### Status, contact and wake -/

/-- The record with its new status and contact, woken from its doze (R127, R152, R154). -/
def wokenBy (f : ReportFields) (x : Reefer) : Reefer :=
  { replaceStatus f x with
    contact := .reachable, doze := if x.doze.dozing then .awake else x.doze,
    page := if x.doze.dozing then none else x.page }

/-- At most one record, the notices, the page queues and the replies. -/
structure RecordStep (i : Nat) (y : Reefer) (s t : State) : Prop where
  reefers : t.reefers = s.reefers.modify i fun _ => y
  frame : t = { s with
    reefers := t.reefers, notices := t.notices, overflow := t.overflow, pageQueues := t.pageQueues, inflight := t.inflight,
    replies := t.replies }

theorem RecordStep.get? (a : RecordStep i y s t) (hx : s.reefers.get? i = some x) : t.reefers.get? i = some y := by
  rw [a.reefers, Table.get?_modify_self, hx]
  rfl

theorem RecordStep.contexts (a : RecordStep i y s t) : t.contexts = s.contexts := by
  rw [a.frame]

/-- Steps 1 and 2 of a report. -/
theorem contact_spec {n : Nat} (hwf : s.reefers.wf n) (hx : s.reefers.get? i = some x) (f : ReportFields) :
    let t := (s.modReefer i (replaceStatus f)).setContact i .reachable
    let s1 := if x.contact = .reachable then s else s.post (.context x.owner) (.reeferContact .reachable x.doze)
    RecordStep i { replaceStatus f x with contact := .reachable } s t ∧ t.notices = s1.notices ∧ t.overflow = s1.overflow ∧
      t.pageQueues = s.pageQueues ∧ t.inflight = s.inflight ∧ t.replies = s.replies := by
  intro t s1
  have hx1 : (s.modReefer i (replaceStatus f)).reefers.get? i = some (replaceStatus f x) := get?_modReefer_of_get? hx _
  have ht : t = if x.contact = .reachable then s.modReefer i (replaceStatus f)
      else ((s.modReefer i (replaceStatus f)).modReefer i fun y => { y with contact := .reachable }).post
        (.context x.owner) (.reeferContact .reachable x.doze) := setContact_eq hx1 .reachable
  by_cases hc : x.contact = .reachable
  · rw [if_pos hc] at ht
    have hs1 : s1 = s := if_pos hc
    rw [ht, hs1]
    refine ⟨⟨?_, rfl⟩, rfl, rfl, rfl, rfl, rfl⟩
    rw [State.modReefer_reefers, Table.modify_eq_const hwf hx]
    have hsame : replaceStatus f x = { replaceStatus f x with contact := .reachable } := by
      rw [← hc]
      rfl
    rw [← hsame]
  · rw [if_neg hc] at ht
    have hs1 : s1 = s.post _ _ := if_neg hc
    rw [ht, hs1]
    obtain ⟨hn, ho⟩ := post_congr_both (s := s)
      (t := (s.modReefer i (replaceStatus f)).modReefer i fun y => { y with contact := .reachable }) rfl rfl
      (.context x.owner) (.reeferContact .reachable x.doze)
    refine ⟨⟨?_, ?_⟩, hn, ho, ?_, ?_, ?_⟩
    · rw [State.post_reefers, modReefer_modReefer, State.modReefer_reefers, Table.modify_eq_const hwf hx]
      rfl
    · conv_lhs => rw [State.post_frame]
      conv_rhs => rw [State.post_frame]
      rfl
    all_goals
      rw [State.post_frame]
      rfl

/-- Steps 1 to 3 of a report: what waking changes is the page that ends with it. -/
theorem woken_spec {n : Nat} (hwf : s.reefers.wf n) (hx : s.reefers.get? i = some x) (f : ReportFields) :
    let t := ((s.modReefer i (replaceStatus f)).setContact i .reachable).wakeByReport i
    let s1 := if x.contact = .reachable then s else s.post (.context x.owner) (.reeferContact .reachable x.doze)
    RecordStep i (wokenBy f x) s t ∧ t.notices = s1.notices ∧ t.overflow = s1.overflow ∧
      (x.doze.dozing = true → x.page.isSome → t.pageQueues = s.queuesWithout [i] ∧
        (t.inflight, t.replies) = s.endings (s.pageEntry i).toList .done) ∧
      (x.doze.dozing = false ∨ x.page = none →
        t.pageQueues = s.pageQueues ∧ t.inflight = s.inflight ∧ t.replies = s.replies) := by
  obtain ⟨hstep, hnotices, hoverflow, hqueues, hinflight, hreplies⟩ := contact_spec hwf hx f
  generalize (s.modReefer i (replaceStatus f)).setContact i .reachable = v at *
  have hv := hstep.get? hx
  intro t s1
  have ht : t = if x.doze.dozing then v.wake i else v := by
    show v.wakeByReport i = _
    unfold State.wakeByReport
    rw [hv]
    rfl
  by_cases hd : x.doze.dozing = true
  · rw [if_pos hd, State.wake] at ht
    have hv1 := get?_modReefer_of_get? hv fun y => { y with doze := .awake }
    cases hp : x.page with
    | none =>
      rw [endPage_of_none fun y hy => by rw [hv1] at hy; cases hy; exact hp] at ht
      rw [ht]
      refine ⟨⟨?_, ?_⟩, hnotices, hoverflow, ?_, fun _ => ⟨hqueues, hinflight, hreplies⟩⟩
      · rw [State.modReefer_reefers, hstep.reefers, modify_const_modify]
        simp only [wokenBy, hd, if_true, replaceStatus, hp]
      · conv_lhs => rw [hstep.frame]
        rfl
      · exact fun _ hsome => absurd hsome Bool.false_ne_true
    | some p =>
      rw [endPage_eq hv1 hp] at ht
      have hentry : (v.modReefer i fun y => { y with doze := .awake }).pageEntry i = s.pageEntry i := by
        unfold State.pageEntry
        rw [hv1, hx]
        rfl
      have hends : (v.modReefer i fun y => { y with doze := .awake }).endings (s.pageEntry i).toList .done =
          s.endings (s.pageEntry i).toList .done :=
        endings_congr hinflight hreplies (fun k => congrArg (fun m : Table Context => (m.get? k).map (·.tag)) hstep.contexts) _ _
      rw [hentry, hends] at ht
      rw [ht]
      refine ⟨⟨?_, ?_⟩, hnotices, hoverflow, fun _ _ => ⟨?_, rfl⟩, ?_⟩
      · show Table.modify (v.reefers.modify i fun y => { y with doze := .awake }) i Reefer.pageEnded = _
        rw [hstep.reefers, modify_const_modify, modify_const_modify]
        simp only [wokenBy, hd, if_true, replaceStatus, Reefer.pageEnded]
      · conv_lhs => rw [hstep.frame]
        rfl
      · show mapEach _ v.pageQueues = _
        rw [hqueues]
        rfl
      · rintro (hno | hno)
        · rw [hd] at hno
          cases hno
        · cases hno
  · rw [if_neg hd] at ht
    rw [ht]
    refine ⟨⟨?_, hstep.frame⟩, hnotices, hoverflow, fun hyes => absurd hyes hd, fun _ => ⟨hqueues, hinflight, hreplies⟩⟩
    rw [hstep.reefers]
    simp only [wokenBy, hd, Bool.false_eq_true, if_false, replaceStatus]

/-! ### The poll that ends -/

/-- The record without its poll. -/
def Reefer.pollEnded (x : Reefer) : Reefer := { x with poll := .none }

/-- Polls of other reefers leave a change of record `i` as it is. -/
theorem waitPassFrom_modReefer (h : HeadIx) (q : List Nat) (s : State) (hi : i ∉ q) (g : Reefer → Reefer) :
    waitPassFrom h q (s.modReefer i g) = (waitPassFrom h q s).modReefer i g := by
  induction q generalizing s with
  | nil => rfl
  | cons j rest ih =>
    obtain ⟨hij, hrest⟩ := List.ne_and_not_mem_of_not_mem_cons hi
    have hsend : ((s.modReefer i g).setPollWait h rest).sendPoll h j = ((s.setPollWait h rest).sendPoll h j).modReefer i g := by
      have hctx : ((s.modReefer i g).setPollWait h rest).reeferContext j = (s.setPollWait h rest).reeferContext j := by
        show ((s.reefers.modify i g).get? j).bind _ = (s.reefers.get? j).bind _
        rw [Table.get?_modify_of_ne _ _ hij.symm]
        rfl
      unfold State.sendPoll
      rw [hctx]
      cases (s.setPollWait h rest).reeferContext j with
      | none => rfl
      | some c =>
        dsimp only [State.order, State.modReefer, State.modAccount, State.setAccount, State.setPollWait]
        rw [Table.modify_comm _ _ _ hij]
        rfl
    unfold waitPassFrom
    rw [show (s.modReefer i g).creditGiven h = s.creditGiven h from rfl]
    split
    · rw [hsend, ih _ hrest]
    · rfl

/-- The state once the poll `p` of record `i` has ended, its credit returned or its wait given up (R147). -/
def State.withoutPoll (s : State) (i : Nat) : Poll → State
  | .none => s
  | .outstanding h _ => (s.modReefer i Reefer.pollEnded).returnCredit h
  | .waiting => (s.leaveWaitLists i).modReefer i Reefer.pollEnded

theorem endPoll_eq (hx : s.reefers.get? i = some x) : s.endPoll i = s.withoutPoll i x.poll := by
  unfold State.endPoll
  rw [hx]
  dsimp only
  cases x.poll <;> rfl

/-- The poll of a record that other changes have reached ends as it would have ended before them. -/
theorem endPoll_after (hx : s.reefers.get? i = some x) (hstep : RecordStep i y s t)
    (hpoll : y.poll = x.poll) (hwait : ∀ h m, x.poll = .outstanding h m → i ∉ s.pollWait h) :
    let P := s.withoutPoll i x.poll
    (t.endPoll i).reefers = P.reefers.modify i (fun _ => y.pollEnded) ∧
      t.endPoll i = { t with
        reefers := (t.endPoll i).reefers, airtime := P.airtime, pollWaits := P.pollWaits, orders := P.orders } := by
  intro P
  have horders : t.orders = s.orders := by rw [hstep.frame]
  have hairtime : t.airtime = s.airtime := by rw [hstep.frame]
  have hwaits : t.pollWaits = s.pollWaits := by rw [hstep.frame]
  rw [endPoll_eq (hstep.get? hx), hpoll]
  cases hp : x.poll with
  | none =>
    have hP : P = s := by
      show s.withoutPoll i x.poll = s
      rw [hp]
      rfl
    have hy : y.pollEnded = y := by
      rw [← hpoll] at hp
      rw [Reefer.pollEnded, ← hp]
    rw [hP, hy]
    refine ⟨hstep.reefers, ?_⟩
    show t = { t with airtime := s.airtime, pollWaits := s.pollWaits, orders := s.orders }
    rw [← horders, ← hairtime, ← hwaits]
  | waiting =>
    have hP : P = (s.leaveWaitLists i).modReefer i Reefer.pollEnded := by
      show s.withoutPoll i x.poll = _
      rw [hp]
      rfl
    rw [hP]
    refine ⟨?_, ?_⟩
    · show Table.modify t.reefers i Reefer.pollEnded = Table.modify (s.reefers.modify i Reefer.pollEnded) i _
      rw [hstep.reefers, modify_const_modify, Table.modify_modify]
      rfl
    · show _ = { t with
        reefers := t.reefers.modify i Reefer.pollEnded, airtime := s.airtime
        pollWaits := mapEach (fun q : List Nat => q.filter (· != i)) s.pollWaits, orders := s.orders }
      rw [← horders, ← hairtime, ← hwaits]
      rfl
  | outstanding h m =>
    have hP : P = (s.modReefer i Reefer.pollEnded).returnCredit h := by
      show s.withoutPoll i x.poll = _
      rw [hp]
      rfl
    have hbase : s.modReefer i (fun _ => y.pollEnded) = (s.modReefer i Reefer.pollEnded).modReefer i fun _ => y.pollEnded := by
      rw [modReefer_modReefer]
      rfl
    have hsame : SamePolls (s.modReefer i fun _ => y.pollEnded) (t.modReefer i Reefer.pollEnded) := by
      refine ⟨?_, hairtime, ?_, hwaits, ?_, ?_⟩
      · rw [hstep.frame]
        rfl
      · rw [State.modReefer_reefers, hstep.reefers, modify_const_modify]
        rfl
      · rw [hstep.frame]
        rfl
      · intro k
        rw [hstep.frame]
        rfl
    have hpass := (mirror_modAccount hsame h fun a => { a with polls := a.polls - 1 }).trans
      (mirror_waitPass ((mirror_modAccount hsame h fun a => { a with polls := a.polls - 1 }).same hsame) h)
    have hcommute : (((s.modReefer i fun _ => y.pollEnded).modAccount h fun a => { a with polls := a.polls - 1 }).waitPass h) =
        P.modReefer i fun _ => y.pollEnded := by
      rw [hP, hbase]
      exact waitPassFrom_modReefer h _ ((s.modReefer i Reefer.pollEnded).modAccount h fun a => { a with polls := a.polls - 1 })
        (hwait h m hp) fun _ => y.pollEnded
    rw [hcommute] at hpass
    obtain ⟨new, hs, ht⟩ := hpass
    have hnew : P.orders = s.orders ++ new := congrArg State.orders hs
    refine ⟨congrArg State.reefers ht, ?_⟩
    show (t.modReefer i Reefer.pollEnded).returnCredit h = _
    rw [hnew, ← horders]
    exact ht.trans (by rw [show State.withoutPoll t i (.outstanding h m) = _ from ht]; rfl)

/-- What ending the poll of record `i` leaves. -/
theorem withoutPoll_spec (s : State) (i : Nat) (hx : s.reefers.get? i = some x)
    (hwait : ∀ h : HeadIx, i ∈ s.pollWait h → x.poll = .waiting) :
    let P := s.withoutPoll i x.poll
    P.reefers.get? i = some x.pollEnded ∧
      (∀ j, j ≠ i → (P.reefers.get? j).map Reefer.pollEnded = (s.reefers.get? j).map Reefer.pollEnded) ∧
      (∀ h : HeadIx, i ∉ P.pollWait h) ∧
      (∃ polls, (∀ o ∈ polls, ∃ h q, o = .poll h q) ∧ ((∀ h n, x.poll ≠ .outstanding h n) → polls = []) ∧
        P.orders = s.orders ++ polls) ∧
      (∀ h n, x.poll = .outstanding h n → (P.account h).polls ≤ max ((s.account h).polls - 1) (s.account h).wg) ∧
      ((∀ h n, x.poll ≠ .outstanding h n) → P.airtime = s.airtime ∧ ∀ j, j ≠ i → P.reefers.get? j = s.reefers.get? j) := by
  intro P
  cases hp : x.poll with
  | none =>
    have hP : P = s := by
      show s.withoutPoll i x.poll = s
      rw [hp]
      rfl
    have hx' : x.pollEnded = x := by rw [Reefer.pollEnded, ← hp]
    rw [hP, hx']
    refine ⟨hx, fun _ _ => rfl, fun h hi => ?_, ⟨[], nofun, fun _ => rfl, (List.append_nil _).symm⟩, nofun,
      fun _ => ⟨rfl, fun _ _ => rfl⟩⟩
    have := hwait h hi
    rw [hp] at this
    cases this
  | waiting =>
    have hP : P = (s.leaveWaitLists i).modReefer i Reefer.pollEnded := by
      show s.withoutPoll i x.poll = _
      rw [hp]
      rfl
    have hother (j : Nat) (hj : j ≠ i) : P.reefers.get? j = s.reefers.get? j := by
      rw [hP]
      exact Table.get?_modify_of_ne _ _ hj
    refine ⟨?_, fun j hj => by rw [hother j hj], fun h hi => ?_, ⟨[], nofun, fun _ => rfl, ?_⟩, nofun, fun _ => ⟨?_, hother⟩⟩
    · rw [hP]
      exact get?_modReefer_of_get? (s := s.leaveWaitLists i) hx _
    · rw [hP] at hi
      have hq : ((s.leaveWaitLists i).modReefer i Reefer.pollEnded).pollWait h = (s.pollWait h).filter (· != i) :=
        get_mapEach _ _ _
      rw [hq] at hi
      simp at hi
    · rw [hP]
      exact (List.append_nil _).symm
    · rw [hP]
      rfl
  | outstanding h m =>
    have hP : P = (s.modReefer i Reefer.pollEnded).returnCredit h := by
      show s.withoutPoll i x.poll = _
      rw [hp]
      rfl
    have hout (g : HeadIx) : i ∉ s.pollWait g := fun hi => by
      have := hwait g hi
      rw [hp] at this
      cases this
    have hpass := polledThrough_waitPass ((s.modReefer i Reefer.pollEnded).modAccount h fun a => { a with polls := a.polls - 1 }) h
    obtain ⟨-, -, -, -, hwaits⟩ := hpass.fields
    obtain ⟨⟨sent, hq, hrecords, horders, -⟩, hrest, hle, -⟩ := hpass
    have hq : s.pollWait h = sent ++ P.pollWait h := by rw [hP]; exact hq
    have hi : i ∉ sent := fun hmem => hout h (by rw [hq]; exact List.mem_append_left _ hmem)
    have hpolls : ∃ polls, (∀ o ∈ polls, ∃ h q, o = .poll h q) ∧ P.orders = s.orders ++ polls := by
      refine ⟨_, fun o ho => ?_, by rw [hP]; exact horders⟩
      obtain ⟨q, -, rfl⟩ := List.mem_map.mp ho
      exact ⟨h, q, rfl⟩
    obtain ⟨polls, hall, horders⟩ := hpolls
    refine ⟨?_, fun j hj => ?_, fun g hg => ?_, ⟨polls, hall, fun hno => absurd rfl (hno h m), horders⟩, fun g n hgn => ?_,
      fun hno => absurd rfl (hno h m)⟩
    · rw [hP]
      exact (hrecords i hi).trans (get?_modReefer_of_get? hx _)
    · rw [hP]
      refine (hrest j).trans ?_
      show ((s.reefers.modify i Reefer.pollEnded).get? j).map _ = _
      rw [Table.get?_modify_of_ne _ _ hj]
      rfl
    · by_cases hgh : g = h
      · subst hgh
        exact hout g (by rw [hq]; exact List.mem_append_right _ hg)
      · rw [hP] at hg
        exact hout g ((hwaits g hgh) ▸ hg)
    · cases hgn
      rw [hP]
      refine hle.trans (Nat.le_of_eq ?_)
      rw [show ((s.modReefer i Reefer.pollEnded).modAccount h fun a => { a with polls := a.polls - 1 }).account h = _ from
        State.account_setAccount_self _ h _]
      rfl

/-! ### The class -/

/-- The first of three rows that holds. -/
theorem firstRow_iff (a b d : Bool) :
    let v : AlarmClass := if a then .critical else if b then .deviation else if d then .advisory else .none
    (v = .critical ↔ a = true) ∧ (v = .deviation ↔ ¬ a = true ∧ b = true) ∧
      (v = .advisory ↔ ¬ a = true ∧ ¬ b = true ∧ d = true) := by
  cases a <;> cases b <;> cases d <;> decide

theorem nextAlarm_eq (g : Settings) (x : Reefer) (dev : Option Nat) (count : Nat) :
    nextAlarm g x dev count =
      if criticalCondition g x || dev.any (fun a => g.critThreshold ≤ a) ||
          (x.alarm == .critical && dev.any (fun a => g.critThreshold - g.devHysteresis ≤ a)) then .critical
      else if dev.any (fun _ => g.persistence ≤ count) ||
          (x.alarm == .deviation && dev.any (fun a => g.devThreshold - g.devHysteresis < a)) then .deviation
      else if advisoryCondition g x then .advisory
      else .none := by
  cases dev <;> rfl

theorem nextAlarm_iff (g : Settings) (x : Reefer) (dev : Option Nat) (count : Nat) :
    let critical : Prop := x.flags &&& g.criticalMask ≠ 0 ∨
      ∃ a, dev = some a ∧ (g.critThreshold ≤ a ∨ x.alarm = .critical ∧ g.critThreshold - g.devHysteresis ≤ a)
    let deviation : Prop :=
      ∃ a, dev = some a ∧ (g.persistence ≤ count ∨ x.alarm = .deviation ∧ g.devThreshold - g.devHysteresis < a)
    (nextAlarm g x dev count = .critical ↔ critical) ∧
      (nextAlarm g x dev count = .deviation ↔ ¬ critical ∧ deviation) ∧
      (nextAlarm g x dev count = .advisory ↔ ¬ critical ∧ ¬ deviation ∧ advisoryCondition g x = true) := by
  intro critical deviation
  have hcrit : (criticalCondition g x || dev.any (fun a => g.critThreshold ≤ a) ||
      (x.alarm == .critical && dev.any (fun a => g.critThreshold - g.devHysteresis ≤ a))) = true ↔ critical := by
    cases dev <;> simp [criticalCondition, critical, or_assoc]
  have hdev : (dev.any (fun _ => g.persistence ≤ count) ||
      (x.alarm == .deviation && dev.any (fun a => g.devThreshold - g.devHysteresis < a))) = true ↔ deviation := by
    cases dev <;> simp [deviation]
  rw [nextAlarm_eq, ← hcrit, ← hdev]
  exact firstRow_iff _ _ _

theorem advisoryCondition_iff (g : Settings) (x : Reefer) :
    advisoryCondition g x = true ↔ x.flags &&& ~~~g.criticalMask ≠ 0 ∨ x.power = .battery ∨
      ∃ v b, x.setpoint = some v ∧ x.booked = some b ∧ 6 ≤ (v.value - b).natAbs := by
  have hdiffer : x.setpointsDiffer = true ↔ ∃ v b, x.setpoint = some v ∧ x.booked = some b ∧ 6 ≤ (v.value - b).natAbs := by
    unfold Reefer.setpointsDiffer
    cases x.setpoint <;> cases x.booked <;> simp [Nat.succ_le_iff]
  rw [← hdiffer]
  simp [advisoryCondition, or_assoc]

/-- REEFER_CLASS, posted when the class of record `y` is not the old one (R134). -/
def postClass (old : AlarmClass) (y : Reefer) (v : State) : State :=
  if y.alarm = old then v
  else v.post (.context y.owner) (.reeferClass y.alarm old y.supply y.usedSetpoint y.lastDev y.persist y.flags)

theorem postClass_congr (hn : t.notices = s.notices) (ho : t.overflow = s.overflow) (old : AlarmClass) (y : Reefer) :
    (postClass old y t).notices = (postClass old y s).notices ∧
      (postClass old y t).overflow = (postClass old y s).overflow := by
  unfold postClass
  split
  · exact ⟨hn, ho⟩
  · exact post_congr_both hn ho _ _

theorem postClass_frame (old : AlarmClass) (y : Reefer) (v : State) :
    postClass old y v = { v with notices := (postClass old y v).notices, overflow := (postClass old y v).overflow } := by
  unfold postClass
  split
  · rfl
  · exact v.post_frame _ _

/-- Step 5 of a report. -/
theorem classify_eq (hy : s.reefers.get? i = some y) :
    s.classify i = postClass y.alarm (classified s.settings y) (s.modReefer i (classified s.settings)) := by
  unfold State.classify
  rw [hy]
  rfl

/-! ### The doze decision -/

theorem dozeDecision_of_order (hy : s.reefers.get? i = some y) (hc : s.contexts.get? y.owner = some c)
    (hserving : c.serving = some h) (hdoze : y.doze = .awake) (hpref : y.pref ≠ .none) (hpage : y.page = none) :
    s.dozeDecision i false = (s.order (.dozeOrder h c.tag (y.pref == .deep))).modReefer i fun r =>
      { r with doze := .ordered, ackTimer := some s.settings.ackLimit } := by
  unfold State.dozeDecision State.reeferContext
  rw [hy, Option.bind_some, hc]
  dsimp only
  rw [hserving]
  exact if_pos ⟨hdoze, hpref, hpage, rfl⟩

theorem dozeDecision_of_none (hy : s.reefers.get? i = some y) (hc : s.contexts.get? y.owner = some c) {woken : Bool}
    (hno : c.serving.isSome → ¬ (y.doze = .awake ∧ y.pref ≠ .none ∧ y.page = none ∧ woken = false)) :
    s.dozeDecision i woken = s := by
  unfold State.dozeDecision State.reeferContext
  rw [hy, Option.bind_some, hc]
  dsimp only
  cases hserving : c.serving with
  | none => rfl
  | some h => exact if_neg (hno (by rw [hserving]; rfl))

theorem dozing_eq (d : Doze) : d.dozing = (d == .light || d == .deep) := by
  cases d <;> rfl

/-- The record after the steps of a report (R127): `orders` says whether it is ordered to doze. -/
def reportedAs (g : Settings) (f : ReportFields) (x : Reefer) (orders : Bool) : Reefer :=
  let y := classified g (wokenBy f x).pollEnded
  if orders then { y with doze := .ordered, ackTimer := some g.ackLimit } else y

/-- The doze decision at the end of a report of record `x` (R141). -/
def ordersDoze (x : Reefer) (c : Context) : Bool :=
  x.doze != .ordered && x.page.isNone && x.pref != .none && c.serving.isSome

theorem ordersDoze_iff (g : Settings) (f : ReportFields) (x : Reefer) (c : Context) :
    ordersDoze x c = true ↔ c.serving.isSome ∧ ((classified g (wokenBy f x).pollEnded).doze = .awake ∧
      (classified g (wokenBy f x).pollEnded).pref ≠ .none ∧ (classified g (wokenBy f x).pollEnded).page = none ∧
      wakeEndsPage x = false) := by
  have hdoze : (classified g (wokenBy f x).pollEnded).doze = if x.doze.dozing then .awake else x.doze := rfl
  have hpref : (classified g (wokenBy f x).pollEnded).pref = x.pref := rfl
  have hpage : (classified g (wokenBy f x).pollEnded).page = if x.doze.dozing then none else x.page := rfl
  rw [hdoze, hpref, hpage]
  cases hd : x.doze <;> cases hp : x.page <;>
    simp [ordersDoze, wakeEndsPage, hd, hp, Doze.dozing, and_comm]

/-- A reefer report: its record, what its poll leaves of the airtime and the wait lists, its orders and its notices. -/
theorem takeReeferReport_spec {n : Nat} (hwf : s.reefers.wf n) (hx : s.reefers.get? i = some x)
    (hc : s.contexts.get? x.owner = some c) (hwait : ∀ h : HeadIx, i ∈ s.pollWait h → x.poll = .waiting) (f : ReportFields) :
    let P := s.withoutPoll i x.poll
    let t := takeReeferReport i x f s
    let y := reportedAs s.settings f x (ordersDoze x c)
    let s1 := if x.contact = .reachable then s else s.post (.context x.owner) (.reeferContact .reachable x.doze)
    let s2 := postClass x.alarm y s1
    t.reefers = P.reefers.modify i (fun _ => y) ∧ t.notices = s2.notices ∧ t.overflow = s2.overflow ∧
      t.orders = P.orders ++ (match c.serving with
        | some h => if ordersDoze x c then [.dozeOrder h c.tag (x.pref == .deep)] else []
        | none => []) ∧
      (x.doze.dozing = true → x.page.isSome → t.pageQueues = s.queuesWithout [i] ∧
        (t.inflight, t.replies) = s.endings (s.pageEntry i).toList .done) ∧
      (x.doze.dozing = false ∨ x.page = none →
        t.pageQueues = s.pageQueues ∧ t.inflight = s.inflight ∧ t.replies = s.replies) ∧
      t.airtime = P.airtime ∧ t.pollWaits = P.pollWaits ∧
      t = { s with
        reefers := t.reefers, notices := t.notices, overflow := t.overflow, orders := t.orders,
        airtime := t.airtime, pollWaits := t.pollWaits, pageQueues := t.pageQueues, inflight := t.inflight,
        replies := t.replies } := by
  intro P t y s1 s2
  obtain ⟨hstep, hnotices, hoverflow, hdozing, hidle⟩ := woken_spec hwf hx f
  have ht : t = (((((s.modReefer i (replaceStatus f)).setContact i .reachable).wakeByReport i).endPoll i).classify i).dozeDecision i
      (wakeEndsPage x) := rfl
  generalize ((s.modReefer i (replaceStatus f)).setContact i .reachable).wakeByReport i = w at *
  obtain ⟨hrecords, hframe⟩ := endPoll_after hx hstep rfl fun h m hp hi => by
    have := hwait h hi
    rw [hp] at this
    cases this
  obtain ⟨hP, -⟩ := withoutPoll_spec s i hx hwait
  generalize w.endPoll i = v at *
  have hy : v.reefers.get? i = some (wokenBy f x).pollEnded := by
    rw [hrecords, Table.get?_modify_self, hP]
    rfl
  have hsettings : v.settings = s.settings := by
    rw [hframe, hstep.frame]
  have hcontexts : v.contexts = s.contexts := by
    rw [hframe, hstep.frame]
  have hclass := classify_eq hy
  have hrecords' := State.reefers_classify (s := v) i
  rw [hsettings] at hclass hrecords'
  rw [hrecords, modify_const_modify] at hrecords'
  have hs2 : s2 = postClass x.alarm (classified s.settings (wokenBy f x).pollEnded) s1 := by
    show postClass x.alarm (reportedAs s.settings f x (ordersDoze x c)) s1 = _
    cases ordersDoze x c <;> rfl
  have hvn : v.notices = s1.notices := by rw [hframe, ← hnotices]
  have hvo : v.overflow = s1.overflow := by rw [hframe, ← hoverflow]
  obtain ⟨hzn, hzo, hzf⟩ : (v.classify i).notices = s2.notices ∧ (v.classify i).overflow = s2.overflow ∧
      v.classify i = { v with
        reefers := (v.classify i).reefers, notices := (v.classify i).notices, overflow := (v.classify i).overflow } := by
    rw [hs2, hclass]
    obtain ⟨hn, ho⟩ := postClass_congr (t := v.modReefer i (classified s.settings)) hvn hvo x.alarm
      (classified s.settings (wokenBy f x).pollEnded)
    refine ⟨hn, ho, ?_⟩
    conv_lhs => rw [postClass_frame]
    conv_rhs => rw [postClass_frame]
    rfl
  generalize v.classify i = z at *
  have hz : z.reefers.get? i = some (classified s.settings (wokenBy f x).pollEnded) := by
    rw [hrecords', Table.get?_modify_self, hP]
    rfl
  have hzc : z.contexts.get? x.owner = some c := by rw [hzf, ← hc, ← hcontexts]
  have hzs : z.settings = s.settings := by rw [hzf, ← hsettings]
  have hzrest : z = { s with
      reefers := z.reefers, notices := z.notices, overflow := z.overflow, orders := P.orders, airtime := P.airtime,
      pollWaits := P.pollWaits, pageQueues := w.pageQueues, inflight := w.inflight, replies := w.replies } := by
    conv_lhs => rw [hzf, hframe, hstep.frame]
  have hzq : z.pageQueues = w.pageQueues := by rw [hzrest]
  have hzi : z.inflight = w.inflight := by rw [hzrest]
  have hzr : z.replies = w.replies := by rw [hzrest]
  have hza : z.airtime = P.airtime := by rw [hzrest]
  have hzw : z.pollWaits = P.pollWaits := by rw [hzrest]
  have horders : z.orders = P.orders := by rw [hzrest]
  have hzrest' : z = { s with
      reefers := z.reefers, notices := z.notices, overflow := z.overflow, orders := z.orders, airtime := z.airtime,
      pollWaits := z.pollWaits, pageQueues := z.pageQueues, inflight := z.inflight, replies := z.replies } := by
    rw [hzq, hzi, hzr, hza, hzw, horders]
    exact hzrest
  have hdozingPages : x.doze.dozing = true → x.page.isSome → z.pageQueues = s.queuesWithout [i] ∧
      (z.inflight, z.replies) = s.endings (s.pageEntry i).toList .done := by rw [hzq, hzi, hzr]; exact hdozing
  have hidlePages : x.doze.dozing = false ∨ x.page = none →
      z.pageQueues = s.pageQueues ∧ z.inflight = s.inflight ∧ z.replies = s.replies := by rw [hzq, hzi, hzr]; exact hidle
  by_cases hord : ordersDoze x c = true
  · obtain ⟨hserved, hdoze, hpref, hpage, hwoken⟩ := (ordersDoze_iff s.settings f x c).mp hord
    obtain ⟨h, hserving⟩ := Option.isSome_iff_exists.mp hserved
    have ht' := dozeDecision_of_order hz hzc hserving hdoze hpref hpage
    rw [← hwoken, ← ht, hzs] at ht'
    have hy' : y = { classified s.settings (wokenBy f x).pollEnded with doze := .ordered, ackTimer := some s.settings.ackLimit } := by
      show reportedAs s.settings f x (ordersDoze x c) = _
      rw [hord]
      rfl
    rw [ht', hy', hserving]
    dsimp only
    rw [if_pos hord]
    refine ⟨?_, hzn, hzo, ?_, ?_⟩
    · show Table.modify z.reefers i (fun r => { r with doze := .ordered, ackTimer := some s.settings.ackLimit }) = _
      rw [hrecords', modify_const_modify]
    · show z.orders ++ _ = _
      rw [horders]
      rfl
    · refine ⟨hdozingPages, hidlePages, hza, hzw, ?_⟩
      conv_lhs => rw [hzrest']
      rfl
  · have ht' : t = z := ht.trans (dozeDecision_of_none hz hzc fun hserved hh => hord ((ordersDoze_iff s.settings f x c).mpr ⟨hserved, hh⟩))
    have hy' : y = classified s.settings (wokenBy f x).pollEnded := by
      show reportedAs s.settings f x (ordersDoze x c) = _
      exact if_neg hord
    rw [ht', hy']
    refine ⟨hrecords', hzn, hzo, ?_, hdozingPages, hidlePages, hza, hzw, hzrest'⟩
    · rw [horders]
      cases c.serving with
      | none => exact (List.append_nil _).symm
      | some h =>
        dsimp only
        rw [if_neg hord, List.append_nil]

/-- Settles O55: the six steps of a report, its poll ended as if nothing else had changed. -/
theorem reeferReportsReplaceAndClassify : Obligations.ReeferReportsReplaceAndClassify := by
  intro tag f s k c i r htables howners hpolls hfinds g stored supply setpoint power p dev count differ critical deviation advisory dozing orders
  have howner := owner_of_finds howners hfinds
  have hexec := exec_reeferReport hfinds f
  obtain ⟨htag, hc, -, -, hx⟩ := hfinds
  obtain ⟨-, -, ⟨hsorted, hbound⟩, -⟩ := htables
  obtain ⟨-, hwaiting, -, -, -⟩ := hpolls
  have hwait (h : HeadIx) (hi : i ∈ s.pollWait h) : r.poll = .waiting := by
    have := (hwaiting h i hi).2
    rw [hx] at this
    exact eq_of_beq this
  have hdozing : r.doze.dozing = dozing := dozing_eq _
  have horders : ordersDoze r c = orders := rfl
  obtain ⟨hreefers, hnotices, hoverflow, hsent, hpages, hidle, hairtime, hwaits, hframe⟩ :=
    takeReeferReport_spec ⟨hsorted, hbound⟩ hx (c := c) (by rw [howner]; exact hc) hwait f
  obtain ⟨hP, hothers, hout, ⟨polls, hpolls, hnone, hP'⟩, hcredit, hsame⟩ := withoutPoll_spec s i hx hwait
  rw [horders] at hreefers hnotices hoverflow hsent
  rw [hdozing] at hpages hidle
  have hrecord : (takeReeferReport i r f s).reefers.get? i = some (reportedAs s.settings f r orders) := by
    rw [hreefers, Table.get?_modify_self, hP]
    rfl
  have hother (j : Nat) (hj : j ≠ i) : (takeReeferReport i r f s).reefers.get? j = (s.withoutPoll i r.poll).reefers.get? j := by
    rw [hreefers, Table.get?_modify_of_ne _ _ hj]
  have halarm : (reportedAs s.settings f r orders).alarm = nextAlarm g (wokenBy f r).pollEnded dev count := by
    cases orders <;> rfl
  obtain ⟨hcritical, hdeviation, hadvisory⟩ := nextAlarm_iff g (wokenBy f r).pollEnded dev count
  rw [advisoryCondition_iff] at hadvisory
  rw [← halarm] at hcritical hdeviation hadvisory
  refine ⟨takeReeferReport i r f s, reportedAs s.settings f r orders, hexec, hrecord, ?_, hcritical, hdeviation, hadvisory,
    ⟨polls, hpolls, hnone, ?_⟩, ?_, fun h n hp => ⟨?_, ?_⟩, fun hno => ⟨?_, fun j hj => ?_⟩, fun h => ?_, fun hd hp => ?_,
    fun hd => ?_, fun j hj => ?_, hframe⟩
  · rw [← hdozing]
    cases orders <;> rfl
  · rw [hP', tag_of_findTag htag] at hsent
    exact hsent
  · intro s1 s2
    have hs1 : s1 = if r.contact = .reachable then s else s.post (.context r.owner) (.reeferContact .reachable r.doze) := by
      rw [howner]
    have hs2 : s2 = postClass r.alarm (reportedAs s.settings f r orders) s1 := by
      rw [postClass]
      refine congrArg (fun v => if (reportedAs s.settings f r orders).alarm = r.alarm then s1 else v) ?_
      have hcongr : ∀ o, (reportedAs s.settings f r o).owner = r.owner ∧ (reportedAs s.settings f r o).supply = supply ∧
        (reportedAs s.settings f r o).usedSetpoint = p ∧ (reportedAs s.settings f r o).lastDev = dev ∧
        (reportedAs s.settings f r o).persist = count ∧ (reportedAs s.settings f r o).flags = f.flags := by
        intro o
        cases o <;> exact ⟨rfl, rfl, rfl, rfl, rfl, rfl⟩
      obtain ⟨ho, hsu, hp, hde, hpe, hfl⟩ := hcongr orders
      rw [ho, hsu, hp, hde, hpe, hfl, howner]
    rw [hs2, hs1]
    exact ⟨hnotices, hoverflow⟩
  · rw [account_of_airtime hairtime]
    exact hcredit h n hp
  · have hpassed : s.withoutPoll i r.poll = (s.modReefer i Reefer.pollEnded).returnCredit h := by
      rw [hp]
      rfl
    rw [hpassed] at hairtime hwaits hsent hother
    refine ⟨hairtime, hwaits, ⟨_, hsent, fun o ho => ?_⟩, hother⟩
    split at ho
    · split at ho
      · exact ⟨_, _, _, List.mem_singleton.mp ho⟩
      · cases ho
    · cases ho
  · rw [hairtime]
    exact (hsame hno).1
  · rw [hother j hj]
    exact (hsame hno).2 j hj
  · rw [State.pollWait, hwaits]
    exact hout h
  · obtain ⟨hqueues, hends⟩ := hpages hd hp
    refine ⟨fun h => ?_, hends⟩
    rw [State.pageQueue, hqueues]
    exact get_queuesWithout_singleton s i h
  · obtain ⟨hq, hin, hre⟩ := hidle hd
    exact ⟨hre, hin, hq⟩
  · rw [hother j hj]
    exact hothers j hj

end Sys2Proof.Machine
end

section
/-! Reports of a served context (R84 to R89, R117): the count toward the trigger, the immediate handover with the reefer's
page and poll wait, and the crane path. -/

namespace Sys2Proof.Machine

variable {s t u v : State} {i k l n : Nat} {c : Context} {x y : Reefer} {h g : HeadIx} {e sv : Candidate}

/-! ### Stage 4 -/

/-- The list after stage 4 (R84). -/
def countedList (p : ClassParams) (h : HeadIx) (sv : Candidate) (list : List Candidate) : List Candidate :=
  list.map fun e =>
    { e with
      ttt := if e.head = h then 0 else if sv.score + 16 * p.hysteresis < e.score then min p.ttt (e.ttt + 1) else 0 }

theorem stageTrigger_eq {p : ClassParams} {list : List Candidate} (hsv : list.find? (fun e => e.head == h) = some sv) :
    stageTrigger p h list = countedList p h sv list := by
  unfold stageTrigger countedList
  rw [hsv]
  refine List.map_congr_left fun e _ => ?_
  split
  · rfl
  · split <;> rfl

theorem heads_countedList (p : ClassParams) (h : HeadIx) (sv : Candidate) (list : List Candidate) :
    (countedList p h sv list).map (·.head) = list.map (·.head) := by
  rw [countedList, List.map_map]
  rfl

/-- The state behind stage 4 of a report. -/
def reportFiled (s : State) (k : Nat) (list : List Candidate) (sector : Sector) : State :=
  s.modContext k fun c => { c with cands := list, sector := sector, lastReport := some s.frame }

theorem takeReport_of_served {es : List MeasEntry} (hserv : c.serving = some h)
    (hsv : (stageScore s c (stageFilter s c (s.handoverTarget c) (acceptedEntries s es))).find? (fun e => e.head == h) = some sv) :
    let counted := countedList (s.params.get c.cls) h sv
      (stageScore s c (stageFilter s c (s.handoverTarget c) (acceptedEntries s es)))
    takeReport k c es s = stageFive (reportFiled s k counted sv.sector) k { c with cands := counted } h counted := by
  intro counted
  have hsector : followSector c (stageScore s c (stageFilter s c (s.handoverTarget c) (acceptedEntries s es))) = sv.sector := by
    unfold followSector
    rw [hserv]
    dsimp only
    rw [hsv]
  unfold takeReport
  dsimp only
  rw [hsector, hserv]
  dsimp only
  rw [stageTrigger_eq hsv]
  rfl

/-! ### Stage 5 -/

theorem stageFive_idle {list : List Candidate} (hno : c.pinned = true ∨ (s.handoverTarget c).isSome ∨
    triggerCandidate s (s.params.get c.cls) h (s.contextStanding c).isSome list = none) :
    stageFive s k c h list = s := by
  unfold stageFive
  by_cases hstop : (c.pinned || (s.handoverTarget c).isSome) = true
  · exact if_pos hstop
  · rw [if_neg hstop]
    have hnone : triggerCandidate s (s.params.get c.cls) h (s.contextStanding c).isSome list = none := by
      rcases hno with hp | ht | hnone
      · exact absurd (by rw [hp]; rfl) hstop
      · exact absurd (by rw [ht, Bool.or_true]) hstop
      · exact hnone
    cases hst : s.contextStanding c with
    | none =>
      rw [hst] at hnone
      dsimp only
      rw [show triggerCandidate s (s.params.get c.cls) h false list = none from hnone]
    | some r =>
      rw [hst] at hnone
      dsimp only
      rw [show triggerCandidate s (s.params.get c.cls) h true list = none from hnone]

theorem stageFive_handover {list : List Candidate} (hp : c.pinned = false) (ht : s.handoverTarget c = none)
    (hst : s.contextStanding c = none) (htrig : triggerCandidate s (s.params.get c.cls) h false list = some e) :
    stageFive s k c h list = s.immediateHandover k c h e.head := by
  unfold stageFive
  rw [if_neg (by rw [hp, ht]; exact Bool.false_ne_true), hst]
  dsimp only
  rw [htrig]

theorem stageFive_crane {list : List Candidate} (hp : c.pinned = false) (ht : s.handoverTarget c = none)
    (hst : s.contextStanding c = some (l, n)) (htrig : triggerCandidate s (s.params.get c.cls) h true list = some e) :
    stageFive s k c h list = s.cranePath k l n e.head := by
  unfold stageFive
  rw [if_neg (by rw [hp, ht]; exact Bool.false_ne_true), hst]
  dsimp only
  rw [htrig]

/-! ### The crane path -/

theorem link?_eq (c : Context) : c.link? = if c.cls = .crane then c.ext else none := by
  unfold Context.link?
  cases c.cls <;> rfl

theorem askPrepared_eq_admitted (hactive : (s.head g).state = .active) :
    s.askPrepared g l n = .admitted ↔
      (s.account g).standing + (s.account g).prepared + n ≤ (s.head g).effective ∧
        (∀ r, s.reservation .standing l = some r → r.1 ≠ g) ∧ s.reservation .prepared l = none := by
  have heff : (s.head g).effective = (s.head g).capacity := by simp [Head.effective, hactive]
  unfold State.askPrepared
  by_cases hheld : ((s.reservation .standing l).any (fun r => r.1 == g) || (s.reservation .prepared l).isSome) = true
  · rw [if_pos hheld]
    refine ⟨nofun, fun ⟨_, hst, hpr⟩ => ?_⟩
    rcases Bool.or_eq_true_iff.mp hheld with hany | hsome
    · obtain ⟨r, hr, hrg⟩ := (Option.any_eq_true ..).mp hany
      exact absurd (eq_of_beq hrg) (hst r hr)
    · rw [hpr] at hsome
      cases hsome
  · rw [if_neg hheld, admissionTest_eq_admitted, heff]
    rw [Bool.or_eq_true, not_or] at hheld
    obtain ⟨hany, hsome⟩ := hheld
    refine ⟨fun ⟨_, hfits⟩ => ⟨hfits, fun r hr hrg => hany ?_, ?_⟩, fun ⟨hfits, _⟩ => ⟨hactive, hfits⟩⟩
    · rw [hr]
      exact beq_iff_eq.mpr hrg
    · exact Option.not_isSome_iff_eq_none.mp hsome

/-! ### The page and the poll wait of a reefer handed over -/

theorem movePage_of_none (hx : s.reefers.get? i = some x) (hp : x.page = none) : s.movePage i g = s := by
  unfold State.movePage
  rw [hx]
  dsimp only
  rw [hp]

/-- A page that a handover moves, once it has been sent, waits for a slot again with one attempt more (R88). -/
def Page.resent (p : Page) : Page :=
  { p with
    attempts := match p.phase with | .sent _ => p.attempts + 1 | _ => p.attempts
    phase := match p.phase with | .sent _ => .slotWait | q => q }

theorem movePage_of_page {p : Page} (hx : s.reefers.get? i = some x) (hp : x.page = some p)
    (hc : s.contexts.get? x.owner = some c) :
    s.movePage i g =
      if 2 ≤ p.resent.attempts then s.failPage i
      else if x.doze = .deep ∧ ¬ (s.head g).covers c.sector then s.endPage i .notCovered
      else if (s.pageQueue g).length < 32 then
        ((s.leavePageQueues i).modPage i fun q => { q with attempts := p.resent.attempts, phase := p.resent.phase }).setPageQueue g
          ((s.pageQueue g).filter (· != i) ++ [i])
      else s.endPage i .noPath := by
  have hqueue : ((s.leavePageQueues i).modPage i fun q =>
      { q with attempts := p.resent.attempts, phase := p.resent.phase }).pageQueue g = (s.pageQueue g).filter (· != i) :=
    get_mapEach _ _ _
  unfold State.movePage
  rw [hx]
  dsimp only
  rw [hp]
  dsimp only
  rw [covered_eq hx hc, ← hqueue]
  rfl

theorem moveWait_eq (hx : s.reefers.get? i = some x) :
    s.moveWait i g = if x.poll = .waiting then
        ((s.leaveWaitLists i).setPollWait g ((s.pollWait g).filter (· != i) ++ [i])).waitPass g
      else s := by
  have hq : (s.leaveWaitLists i).pollWait g = (s.pollWait g).filter (· != i) := get_mapEach _ _ _
  unfold State.moveWait
  rw [hx]
  dsimp only
  rw [hq]

theorem resent_eq {p : Page} {again : Bool} (hagain : again = true ↔ ∃ n, p.phase = .sent n) :
    p.resent.attempts = (if again then p.attempts + 1 else p.attempts) ∧
      p.resent.phase = if again then .slotWait else p.phase := by
  unfold Page.resent
  dsimp only
  cases hp : p.phase with
  | sent n =>
    rw [hagain.mpr ⟨n, hp⟩]
    exact ⟨rfl, rfl⟩
  | ackWait | slotWait =>
    have hno : again = false := Bool.eq_false_iff.mpr fun hyes => by
      obtain ⟨n, hn⟩ := hagain.mp hyes
      rw [hp] at hn
      cases hn
    rw [hno]
    exact ⟨rfl, rfl⟩

theorem queuesWithout_singleton (s : State) (i : Nat) :
    s.queuesWithout [i] = mapEach (fun q => q.filter (· != i)) s.pageQueues := by
  refine mapEach_congr fun g => List.filter_congr fun j _ => ?_
  by_cases hj : j = i <;> simp [hj]

/-- What moving a page may change (R88). -/
def PageMoveFrame (s t : State) : Prop :=
  t = { s with
    reefers := t.reefers, pageQueues := t.pageQueues, inflight := t.inflight, replies := t.replies, notices := t.notices,
    overflow := t.overflow }

theorem pageMoveFrame_endPage (s : State) (i : Nat) (res : Result) : PageMoveFrame s (s.endPage i res) := by
  have hframe := State.endPage_frame s i res
  unfold PageMoveFrame
  conv_lhs => rw [hframe]
  conv_rhs => rw [hframe]

theorem pageMoveFrame_failPage (s : State) (i : Nat) : PageMoveFrame s (s.failPage i) := by
  have hcontact : ∀ v : State, PageMoveFrame v (v.setContact i .unreachable) := fun v => by
    unfold State.setContact PageMoveFrame
    split
    · rfl
    · split
      · rfl
      · conv_lhs => rw [State.post_frame]
        conv_rhs => rw [State.post_frame]
        rfl
  have h1 := pageMoveFrame_endPage s i .failed
  have h2 := hcontact (s.endPage i .failed)
  unfold State.failPage PageMoveFrame
  unfold PageMoveFrame at h1 h2
  generalize s.endPage i .failed = w at *
  generalize w.setContact i .unreachable = z at *
  rw [h2, h1]

/-- The record and the queues once a page has ended. -/
theorem ended_spec {p : Page} (hx : s.reefers.get? i = some x) (hp : x.page = some p) (res : Result) (h : HeadIx) :
    (s.endPage i res).pageQueue h = (s.pageQueue h).filter (· != i) := by
  rw [endPage_eq hx hp]
  exact get_queuesWithout_singleton s i h

theorem failed_spec {p : Page} (hx : s.reefers.get? i = some x) (hp : x.page = some p) (h : HeadIx) :
    (∃ y, (s.failPage i).reefers.get? i = some y ∧ y.page = none ∧ y.poll = x.poll) ∧
      (s.failPage i).pageQueue h = (s.pageQueue h).filter (· != i) := by
  have hx1 := get?_endPage hx .failed
  have hq := ended_spec hx hp .failed h
  unfold State.failPage
  rw [setContact_eq hx1]
  split
  · exact ⟨⟨_, hx1, rfl, rfl⟩, hq⟩
  · refine ⟨⟨{ x with page := none, contact := .unreachable }, ?_, rfl, rfl⟩, ?_⟩
    · rw [State.post_reefers]
      exact get?_modReefer_of_get? hx1 _
    · rw [State.post_frame]
      exact hq

/-- A page moves to the new head's queue, or it ends (R88). -/
theorem movePage_spec {p : Page} (hx : s.reefers.get? i = some x) (hp : x.page = some p)
    (hc : s.contexts.get? x.owner = some c) (g : HeadIx) :
    let t := s.movePage i g
    let moves : Prop := p.resent.attempts < 2 ∧ (x.doze = .deep → (s.head g).covers c.sector = true) ∧
      (s.pageQueue g).length < 32
    PageMoveFrame s t ∧
      (∃ y, t.reefers.get? i = some y ∧ y.poll = x.poll ∧ (moves → y.page = some p.resent) ∧ (¬ moves → y.page = none)) ∧
      (moves → t.pageQueue g = (s.pageQueue g).filter (· != i) ++ [i]) ∧
      (¬ moves → t.pageQueue g = (s.pageQueue g).filter (· != i)) ∧
      ∀ g', g' ≠ g → t.pageQueue g' = (s.pageQueue g').filter (· != i) := by
  intro t moves
  have ht : t = _ := movePage_of_page hx hp hc
  have hends (res : Result) (hno : ¬ moves) (e : t = s.endPage i res) : PageMoveFrame s t ∧
      (∃ y, t.reefers.get? i = some y ∧ y.poll = x.poll ∧ (moves → y.page = some p.resent) ∧ (¬ moves → y.page = none)) ∧
      (moves → t.pageQueue g = (s.pageQueue g).filter (· != i) ++ [i]) ∧
      (¬ moves → t.pageQueue g = (s.pageQueue g).filter (· != i)) ∧
      ∀ g', g' ≠ g → t.pageQueue g' = (s.pageQueue g').filter (· != i) := by
    rw [e]
    exact ⟨pageMoveFrame_endPage s i res, ⟨_, get?_endPage hx res, rfl, fun hm => absurd hm hno, fun _ => rfl⟩,
      fun hm => absurd hm hno, fun _ => ended_spec hx hp res g, fun g' _ => ended_spec hx hp res g'⟩
  by_cases hattempts : 2 ≤ p.resent.attempts
  · rw [if_pos hattempts] at ht
    have hno : ¬ moves := fun hm => absurd hm.1 (Nat.not_lt.mpr hattempts)
    obtain ⟨⟨y, hy, hpage, hpoll⟩, hq⟩ := failed_spec hx hp g
    rw [ht]
    exact ⟨pageMoveFrame_failPage s i, ⟨y, hy, hpoll, fun hm => absurd hm hno, fun _ => hpage⟩, fun hm => absurd hm hno,
      fun _ => hq, fun g' _ => (failed_spec hx hp g').2⟩
  rw [if_neg hattempts] at ht
  by_cases hcov : x.doze = .deep ∧ ¬ (s.head g).covers c.sector = true
  · rw [if_pos hcov] at ht
    exact hends .notCovered (fun hm => hcov.2 (hm.2.1 hcov.1)) ht
  rw [if_neg hcov] at ht
  by_cases hlen : (s.pageQueue g).length < 32
  · rw [if_pos hlen] at ht
    have hmoves : moves := ⟨Nat.lt_of_not_le hattempts, fun hd => Classical.not_not.mp fun hn => hcov ⟨hd, hn⟩, hlen⟩
    rw [ht]
    refine ⟨rfl, ⟨{ x with page := some p.resent }, ?_, rfl, fun _ => rfl, fun hno => absurd hmoves hno⟩, fun _ => ?_,
      fun hno => absurd hmoves hno, fun g' hg => ?_⟩
    · refine (get?_modReefer_of_get? (s := s.leavePageQueues i) hx fun y => { y with
        page := y.page.map fun q => { q with attempts := p.resent.attempts, phase := p.resent.phase } }).trans (congrArg some ?_)
      rw [hp]
      rfl
    · exact State.pageQueue_setPageQueue_self _ g _
    · rw [State.pageQueue_setPageQueue_of_ne _ _ hg]
      exact get_mapEach _ _ _
  · rw [if_neg hlen] at ht
    exact hends .noPath (fun hm => hlen hm.2.2) ht

/-! ### The immediate handover -/

/-- The context served through the head of entry `e` of the list counted (R5, R87). -/
def handedTo (list : List Candidate) (e : Candidate) (frame : BitVec 32) (c : Context) : Context :=
  { c with
    serving := some e.head, sector := e.sector, lastReport := some frame
    cands := list.map fun x => { x with ttt := 0, missing := if x.head = e.head then 0 else x.missing } }

theorem modContext_handedTo {list : List Candidate} (hnodup : (list.map (·.head)).Nodup) (hmem : e ∈ list) (sector : Sector) :
    (reportFiled s k list sector).modContext k (fun c => c.serveOn e.head) = s.modContext k (handedTo list e s.frame) := by
  have hfind : list.find? (fun x => x.head == e.head) = some e := by
    obtain ⟨x, hx⟩ := Option.isSome_iff_exists.mp (List.find?_isSome.mpr ⟨e, hmem, beq_self_eq_true _⟩ :
      (list.find? fun x => x.head == e.head).isSome)
    have hxe : x.head = e.head := eq_of_beq (List.find?_some (p := fun x : Candidate => x.head == e.head) hx)
    rw [hx, List.inj_on_of_nodup_map hnodup (List.mem_of_find?_eq_some hx) hmem hxe]
  have hserve : (fun c : Context => c.serveOn e.head) ∘ (fun c : Context =>
      { c with cands := list, sector := sector, lastReport := some s.frame }) = handedTo list e s.frame := by
    funext c
    unfold Context.serveOn Context.entry? handedTo
    dsimp only [Function.comp]
    rw [hfind]
  rw [reportFiled, modContext_modContext, hserve]

/-- The state behind SERVE_ORDER of an immediate handover (R87). -/
def handoverStarted (s : State) (k : Nat) (tag : Tag) (h : HeadIx) (list : List Candidate) (e : Candidate) : State :=
  { s with
    contexts := s.contexts.modify k (handedTo list e s.frame), orders := s.orders ++ [.serveOrder tag (some h) e.head] }

theorem immediateHandover_eq {list : List Candidate} (hnodup : (list.map (·.head)).Nodup) (hmem : e ∈ list) (sector : Sector)
    (c : Context) :
    (reportFiled s k list sector).immediateHandover k c h e.head =
      ((handoverStarted s k c.tag h list e).moveReeferWork c e.head).post (.context k)
        (.handoverDone (some h) e.head .trigger) := by
  unfold State.immediateHandover
  dsimp only
  rw [modContext_handedTo hnodup hmem]
  rfl

theorem moveReeferWork_of_other (hcls : c.cls ≠ .reefer) : s.moveReeferWork c g = s := by
  unfold State.moveReeferWork
  cases hc : c.cls with
  | reefer => exact absurd hc hcls
  | crane | vehicle | handheld => rfl

theorem moveReeferWork_of_reefer (hcls : c.cls = .reefer) (hext : c.ext = some i) :
    s.moveReeferWork c g = (s.movePage i g).moveWait i g := by
  unfold State.moveReeferWork
  rw [hcls, hext]

/-- What moving a poll wait leaves (R89). -/
theorem moveWait_spec (hx : s.reefers.get? i = some x) (g : HeadIx) :
    let t := s.moveWait i g
    (t.contexts = s.contexts ∧ t.heads = s.heads ∧ t.links = s.links ∧ t.pageQueues = s.pageQueues) ∧
      (∃ polls, t.orders = s.orders ++ polls ∧ ∀ o ∈ polls, ∃ q, o = Order.poll g q) ∧
      (∀ j, (t.reefers.get? j).map (·.page) = (s.reefers.get? j).map (·.page)) ∧
      (x.poll ≠ .waiting → t.pollWaits = s.pollWaits) ∧
      (x.poll = .waiting → (∃ n, t.pollWait g = ((s.pollWait g).filter (· != i) ++ [i]).drop n) ∧
        ∀ g', g' ≠ g → t.pollWait g' = (s.pollWait g').filter (· != i)) := by
  intro t
  have ht : t = _ := moveWait_eq hx
  by_cases hp : x.poll = .waiting
  · rw [if_pos hp] at ht
    have hpass := polledThrough_waitPass ((s.leaveWaitLists i).setPollWait g ((s.pollWait g).filter (· != i) ++ [i])) g
    rw [← ht] at hpass
    obtain ⟨hheads, hcontexts, -, -, hwaits⟩ := hpass.fields
    have hpolls := hpass.polls_sent
    obtain ⟨⟨sent, hq, -, -, -⟩, hrest, -, hframe⟩ := hpass
    rw [State.pollWait_setPollWait_self] at hq
    refine ⟨⟨hcontexts, hheads, ?_, ?_⟩, hpolls, fun j => ?_, fun hno => absurd hp hno, fun _ => ⟨⟨sent.length, ?_⟩,
      fun g' hg => ?_⟩⟩
    · rw [hframe]
      rfl
    · rw [hframe]
      rfl
    · have := congrArg (Option.map Reefer.page) (hrest j)
      simp only [Option.map_map, Function.comp_def] at this
      exact this
    · rw [hq, List.drop_left]
    · rw [hwaits g' hg, State.pollWait_setPollWait_of_ne _ _ hg]
      exact get_mapEach _ _ _
  · rw [if_neg hp] at ht
    rw [ht]
    exact ⟨⟨rfl, rfl, rfl, rfl⟩, ⟨[], (List.append_nil _).symm, nofun⟩, fun _ => rfl, fun _ => rfl, fun hyes => absurd hyes hp⟩

theorem tags_of_handedTo (m : Table Context) (k : Nat) (list : List Candidate) (e : Candidate) (frame : BitVec 32) (j : Nat) :
    ((m.modify k (handedTo list e frame)).get? j).map (·.tag) = (m.get? j).map (·.tag) := by
  rw [Table.get?_modify]
  split
  · rw [Option.map_map]
    rfl
  · rfl

/-- A page that ends with the handover (R88): the moved context keeps its tag, so the reply is the one due before. -/
theorem endPage_handoverStarted {tag : Tag} {list : List Candidate} {p : Page} (hx : s.reefers.get? i = some x)
    (hp : x.page = some p) (res : Result) :
    (handoverStarted s k tag h list e).endPage i res =
      { handoverStarted s k tag h list e with
        pageQueues := mapEach (fun q => q.filter (· != i)) s.pageQueues
        reefers := s.reefers.modify i fun y => { y with page := none }
        inflight := (s.endings (s.pageEntry i).toList res).1
        replies := (s.endings (s.pageEntry i).toList res).2 } := by
  have hends : (handoverStarted s k tag h list e).endings (s.pageEntry i).toList res = s.endings (s.pageEntry i).toList res :=
    endings_congr (s := s) (t := handoverStarted s k tag h list e) rfl rfl (tags_of_handedTo s.contexts k list e s.frame) _ _
  rw [endPage_eq (s := handoverStarted s k tag h list e) hx hp, queuesWithout_singleton]
  rw [show (handoverStarted s k tag h list e).pageEntry i = s.pageEntry i from rfl, hends]
  rfl

/-- Settles O46: stage 4 counts, and stage 5 hands over, prepares or does nothing. -/
theorem reportsHandServedContextsOver : Obligations.ReportsHandServedContextsOver := by
  intro tag es s k c h sv htables howners hcands hair htag hserv scored p counted filed s' standing atTrigger hsv
  have hc : s.contexts.get? k = some c := State.get?_of_findTag htables.1 htag
  have hctag : c.tag = tag := tag_of_findTag htag
  subst hctag
  have hexec : exec (.measurementReport c.tag es) s = .next (stageFive s' k { c with cands := counted } h counted) := by
    rw [exec_measurementReport htag, takeReport_of_served hserv hsv]
    rfl
  have hstanding : s'.contextStanding { c with cands := counted } = standing := by
    rw [State.contextStanding, link?_eq]
    rfl
  have htarget : s'.handoverTarget { c with cands := counted } = s.handoverTarget c := rfl
  have htrigger : triggerCandidate s' (s'.params.get c.cls) h standing.isSome counted = counted.find? atTrigger := rfl
  refine ⟨fun hno => ?_, fun e hp ht htrig => ?_⟩
  · rw [hexec, stageFive_idle]
    rw [htarget, hstanding]
    exact hno
  intro moved
  have hmem : e ∈ counted := List.mem_of_find?_eq_some htrig
  have hok := candidatesOk_scored (kept := s.handoverTarget c) (es := es) hcands
    (hcands.2 (k, c) (Table.mem_of_get? hc))
  have hnodup : (counted.map (·.head)).Nodup := by
    have hheads : counted.map (·.head) = scored.map (·.head) := heads_countedList p h sv scored
    rw [hheads]
    exact hok.2.1
  have hhandover (hst : standing = none) : exec (.measurementReport c.tag es) s =
      .next (((handoverStarted s k c.tag h counted e).moveReeferWork { c with cands := counted } e.head).post (.context k)
        (.handoverDone (some h) e.head .trigger)) := by
    have htrig' : triggerCandidate s' (s'.params.get c.cls) h false counted = some e := by
      rw [← htrig, ← htrigger, hst]
      rfl
    rw [hexec, stageFive_handover (s := s') (c := { c with cands := counted }) hp ht (hstanding.trans hst) htrig']
    exact congrArg _ (immediateHandover_eq hnodup hmem sv.sector { c with cands := counted })
  have hreefer (i : Nat) (r : Reefer) (hcls : c.cls = .reefer) (hext : c.ext = some i) (hr : s.reefers.get? i = some r) :
      exec (.measurementReport c.tag es) s =
        .next ((((handoverStarted s k c.tag h counted e).movePage i e.head).moveWait i e.head).post (.context k)
          (.handoverDone (some h) e.head .trigger)) ∧
      (handoverStarted s k c.tag h counted e).contexts.get? r.owner = some (handedTo counted e s.frame c) := by
    have hst : standing = none := by
      show (if c.cls = .crane then c.ext else none).bind _ = none
      rw [if_neg (by rw [hcls]; nofun)]
      rfl
    rw [hhandover hst, moveReeferWork_of_reefer (c := { c with cands := counted }) hcls hext]
    refine ⟨rfl, ?_⟩
    rw [owner_of_finds howners ⟨htag, hc, hcls, hext, hr⟩]
    show (s.contexts.modify k _).get? k = _
    rw [Table.get?_modify_self, hc]
    rfl
  refine ⟨fun hcls hst => ?_, fun i r hcls hext hr => ?_, fun i r hcls hext hr => ?_, fun l n hst => ?_⟩
  · rw [hhandover hst, moveReeferWork_of_other (c := { c with cands := counted }) hcls]
    rfl
  · obtain ⟨hexec', hctx⟩ := hreefer i r hcls hext hr
    have hr' : (handoverStarted s k c.tag h counted e).reefers.get? i = some r := hr
    refine ⟨_, hexec', ?_⟩
    have hv : PageMoveFrame (handoverStarted s k c.tag h counted e) ((handoverStarted s k c.tag h counted e).movePage i e.head) ∧
        ∃ y, ((handoverStarted s k c.tag h counted e).movePage i e.head).reefers.get? i = some y ∧ y.poll = r.poll := by
      cases hpg : r.page with
      | none =>
        rw [movePage_of_none hr' hpg]
        exact ⟨rfl, r, hr', rfl⟩
      | some p =>
        obtain ⟨hframe, ⟨y, hy, hpoll, -⟩, -⟩ := movePage_spec hr' hpg hctx e.head
        exact ⟨hframe, y, hy, hpoll⟩
    obtain ⟨hframe, y, hy, hpoll⟩ := hv
    have hcontexts := congrArg State.contexts hframe
    have hheads := congrArg State.heads hframe
    have hlinks := congrArg State.links hframe
    have horders := congrArg State.orders hframe
    have hwaits := congrArg State.pollWaits hframe
    obtain ⟨⟨hc1, hh1, hl1, hq1⟩, ⟨polls, ho1, hpolls⟩, hpages, hidle, hwaiting⟩ := moveWait_spec hy e.head
    rw [hpoll] at hidle hwaiting
    refine ⟨?_, ⟨polls, ?_, hpolls⟩, fun hnone => ?_, fun p hp => ?_, fun hno => ?_, fun hyes => ?_, ?_, ?_⟩
    · rw [State.post_contexts, hc1, hcontexts]
      rfl
    · rw [State.post_orders, ho1, horders]
      exact List.append_assoc _ _ _
    · rw [State.post_pageQueues, hq1, movePage_of_none hr' hnone]
      rfl
    · intro again p' moves
      have hagain : again = true ↔ ∃ n, p.phase = .sent n := by
        show (match p.phase with | .sent _ => true | _ => false) = true ↔ _
        cases p.phase <;> simp
      have hresent : p' = p.resent := by
        obtain ⟨ha, hph⟩ := resent_eq hagain
        show ({ p with
          attempts := if again then p.attempts + 1 else p.attempts, phase := if again then .slotWait else p.phase } : Page) = _
        rw [← ha, ← hph]
        rfl
      obtain ⟨-, ⟨z, hz, -, hkept, hended⟩, hjoins, hleaves, hothers⟩ := movePage_spec hr' hp hctx e.head
      have hmoves : moves ↔ p.resent.attempts < 2 ∧ (r.doze = .deep → (s.head e.head).covers e.sector = true) ∧
          (s.pageQueue e.head).length < 32 := by
        show p'.attempts < 2 ∧ _ ∧ _ ↔ _
        rw [hresent]
      have hpage := hpages i
      rw [hz] at hpage
      refine ⟨fun hm => ⟨?_, ?_⟩, fun hm => ⟨?_, ?_⟩, fun g hg => ?_⟩
      · rw [State.post_reefers, hpage, hresent]
        exact congrArg some (hkept (hmoves.mp hm))
      · rw [State.pageQueue, State.post_pageQueues, hq1]
        exact hjoins (hmoves.mp hm)
      · rw [State.post_reefers, hpage]
        exact congrArg some (hended (mt hmoves.mpr hm))
      · rw [State.pageQueue, State.post_pageQueues, hq1]
        exact hleaves (mt hmoves.mpr hm)
      · rw [State.pageQueue, State.post_pageQueues, hq1]
        exact hothers g hg
    · rw [State.post_pollWaits, hidle hno, hwaits]
      rfl
    · obtain ⟨⟨n, hn⟩, hothers⟩ := hwaiting hyes
      have hwait (g : HeadIx) : ((handoverStarted s k c.tag h counted e).movePage i e.head).pollWait g = s.pollWait g :=
        congrArg (fun q : Vector (List Nat) 24 => q.get g) hwaits
      rw [hwait] at hn
      refine ⟨⟨n, ?_⟩, fun g hg => ?_⟩
      · rw [State.pollWait, State.post_pollWaits]
        exact hn
      · rw [State.pollWait, State.post_pollWaits, ← hwait g]
        exact hothers g hg
    · rw [State.post_links, hl1, hlinks]
      rfl
    · rw [State.post_heads, hh1, hheads]
      rfl
  · obtain ⟨hexec', hctx⟩ := hreefer i r hcls hext hr
    have hr' : (handoverStarted s k c.tag h counted e).reefers.get? i = some r := hr
    have howner := owner_of_finds howners ⟨htag, hc, hcls, hext, hr⟩
    cases hpg : r.page with
    | none =>
      intro without started paged passed
      rw [hexec', movePage_of_none hr' hpg, moveWait_eq hr']
      rfl
    | some p =>
      intro without started paged passed
      have hagain : (match p.phase with | .sent _ => true | _ => false) = true ↔ ∃ n, p.phase = .sent n := by
        cases p.phase <;> simp
      obtain ⟨hatt, hphase⟩ := resent_eq hagain
      have hfailed : ((handoverStarted s k c.tag h counted e).endPage i .failed).reefers.get? i = some { r with page := none } :=
        get?_endPage hr' .failed
      have hpaged : paged = (handoverStarted s k c.tag h counted e).movePage i e.head := by
        rw [movePage_of_page hr' hpg hctx]
        by_cases h1 : 2 ≤ p.resent.attempts
        · rw [if_pos h1, State.failPage, setContact_eq hfailed, endPage_handoverStarted hr hpg, howner]
          rw [hatt] at h1
          refine (if_pos h1).trans ?_
          by_cases hcontact : r.contact = .unreachable
          · exact (if_pos hcontact).trans (if_pos hcontact).symm
          · refine (if_neg hcontact).trans (Eq.trans ?_ (if_neg hcontact).symm)
            rw [State.modReefer, Table.modify_modify]
            rfl
        · rw [if_neg h1]
          rw [hatt] at h1
          refine (if_neg h1).trans ?_
          by_cases h2 : r.doze = .deep ∧ ¬ (s.head e.head).covers e.sector = true
          · refine (if_pos h2).trans (Eq.trans ?_ (if_pos h2).symm)
            exact (endPage_handoverStarted hr hpg _).symm
          · refine (if_neg h2).trans (Eq.trans ?_ (if_neg h2).symm)
            by_cases h3 : (s.pageQueue e.head).length < 32
            · refine (if_pos h3).trans (Eq.trans ?_ (if_pos h3).symm)
              have hresent : ((handoverStarted s k c.tag h counted e).leavePageQueues i).modPage i
                  (fun q => { q with attempts := p.resent.attempts, phase := p.resent.phase }) =
                  ((handoverStarted s k c.tag h counted e).leavePageQueues i).modPage i fun q =>
                    { q with
                      attempts := if (match p.phase with | .sent _ => true | _ => false) then p.attempts + 1 else p.attempts
                      phase := if (match p.phase with | .sent _ => true | _ => false) then .slotWait else q.phase } := by
                have hr'' : ((handoverStarted s k c.tag h counted e).leavePageQueues i).reefers.get? i = some r := hr
                have hconst := modReefer_eq_const (s := (handoverStarted s k c.tag h counted e).leavePageQueues i)
                  htables.2.2.1 hr''
                rw [State.modPage, hconst, hpg, hatt, hphase]
                refine Eq.symm ?_
                rw [State.modPage, hconst, hpg]
                rfl
              rw [hresent]
              rfl
            · refine (if_neg h3).trans (Eq.trans ?_ (if_neg h3).symm)
              exact (endPage_handoverStarted hr hpg _).symm
      obtain ⟨hframe, ⟨y, hy, hpoll, -⟩, -⟩ := movePage_spec hr' hpg hctx e.head
      have hwaits := congrArg State.pollWaits hframe
      rw [hexec', moveWait_eq hy, hpoll]
      rw [← hpaged] at hwaits ⊢
      have hpassed : passed = if r.poll = .waiting then
          ((paged.leaveWaitLists i).setPollWait e.head ((paged.pollWait e.head).filter (· != i) ++ [i])).waitPass e.head
          else paged := by
        rw [State.leaveWaitLists, State.pollWait, hwaits]
        rfl
      rw [hpassed]
  · have hactive : (s.head e.head).state = .active := by
      have hat := List.find?_some htrig
      simp only [atTrigger, hst, Option.isSome_some, if_true, Bool.and_eq_true] at hat
      exact eq_of_beq hat.2
    have htrig' : triggerCandidate s' (s'.params.get c.cls) h true counted = some e := by
      rw [← htrig, ← htrigger, hst]
      rfl
    have hexec' : exec (.measurementReport c.tag es) s = .next (s'.cranePath k l n e.head) := by
      rw [hexec, stageFive_crane (s := s') (c := { c with cands := counted }) hp ht (hstanding.trans hst) htrig']
    have hask := askPrepared_eq_admitted (l := l) (n := n) hactive
    intro a fits free
    refine ⟨fun hyes => ?_, fun hno => ?_⟩
    · have hadm : s'.askPrepared e.head l n = .admitted := hask.mpr ⟨hyes.1, hyes.2⟩
      rw [hexec', State.cranePath, hadm]
      dsimp only
      rw [join_eq (s := s') hair]
      rfl
    · have hadm : s'.askPrepared e.head l n ≠ .admitted := fun hh => hno ⟨(hask.mp hh).1, (hask.mp hh).2⟩
      rw [hexec', State.cranePath]
      cases hres : s'.askPrepared e.head l n with
      | admitted => exact absurd hres hadm
      | notActive | doesNotFit => rfl

end Sys2Proof.Machine
end

section
/-! Prepared reservations that a head cancels (R35, R61): when it leaves ACTIVE, and when its capacity falls. -/

namespace Sys2Proof.Machine

variable {s t u v w : State} {l n : Nat} {x : CraneLink} {h g : HeadIx} {cause : HandoverCause} {ls : List Nat}

/-! ### Steps that post -/

/-- A step that posts notices and does nothing else, whatever stands beside them. -/
structure Posts (f : State → State) : Prop where
  frame : ∀ v, f v = { v with notices := (f v).notices, overflow := (f v).overflow }
  congr : ∀ v w : State, w.notices = v.notices → w.overflow = v.overflow →
    (f w).notices = (f v).notices ∧ (f w).overflow = (f v).overflow

theorem Posts.id : Posts id := ⟨fun _ => rfl, fun _ _ hn ho => ⟨hn, ho⟩⟩

theorem Posts.post (sub : Subject) (d : NoticeContent) : Posts fun v => v.post sub d :=
  ⟨fun v => v.post_frame sub d, fun _ _ hn ho => post_congr_both hn ho sub d⟩

theorem Posts.comp {f g : State → State} (hf : Posts f) (hg : Posts g) : Posts fun v => g (f v) where
  frame v := by
    refine (hg.frame (f v)).trans ?_
    generalize (g (f v)).notices = ns
    generalize (g (f v)).overflow = o
    rw [hf.frame v]
  congr v w hn ho := by
    obtain ⟨hn', ho'⟩ := hf.congr v w hn ho
    exact hg.congr _ _ hn' ho'

theorem Posts.foldl {α : Type} {f : State → α → State} (hf : ∀ a, Posts fun v => f v a) (as : List α) :
    Posts fun v => as.foldl f v := by
  induction as with
  | nil => exact .id
  | cons a as ih => exact (hf a).comp ih

/-- The same notices in another state. -/
theorem Posts.at {f : State → State} (hf : Posts f) (hn : w.notices = v.notices) (ho : w.overflow = v.overflow) :
    f w = { w with notices := (f v).notices, overflow := (f v).overflow } := by
  obtain ⟨hn', ho'⟩ := hf.congr v w hn ho
  rw [hf.frame w, hn', ho']

theorem posts_postFailed (s : State) (cause : HandoverCause) (l : Nat) : Posts fun v => s.postFailed cause v l := by
  unfold State.postFailed
  cases s.links.get? l with
  | none => exact .id
  | some k =>
    dsimp only
    cases k.phase.target? with
    | none => exact .id
    | some g => exact .post _ _

theorem posts_failures (s : State) (cause : HandoverCause) (ls : List Nat) : Posts fun v => ls.foldl (s.postFailed cause) v :=
  .foldl (posts_postFailed s cause) ls

theorem postFailed_congr (hl : t.links.get? l = s.links.get? l) (hc : t.contexts = s.contexts) (cause : HandoverCause) (v : State) :
    t.postFailed cause v l = s.postFailed cause v l := by
  have hserving : t.linkServing l = s.linkServing l := by
    unfold State.linkServing State.linkContext
    rw [hl, hc]
  unfold State.postFailed
  rw [hl, hserving]

/-! ### Links that lose their handover -/

theorem linksEnded_nil (s : State) : s.linksEnded [] = s.links := List.map_id _

theorem linksEnded_of_same (hl : t.links = s.linksEnded [l]) (ls : List Nat) : t.linksEnded ls = s.linksEnded (l :: ls) := by
  unfold State.linksEnded at *
  rw [hl, List.map_map]
  refine List.map_congr_left fun e _ => ?_
  by_cases he : e.1 = l <;> by_cases hin : e.1 ∈ ls <;> simp_all

theorem linksEnded_single (s : State) (l : Nat) : s.linksEnded [l] = s.links.modify l fun k => { k with phase := .none } := by
  refine List.map_congr_left fun e _ => ?_
  by_cases he : e.1 = l <;> simp [he]

theorem linksEnded_of_no_handover (hwf : s.links.wf n) (hno : ∀ x, s.links.get? l = some x → x.phase = .none) :
    s.linksEnded [l] = s.links := by
  refine (List.map_congr_left fun e he => ?_).trans (List.map_id _)
  obtain ⟨j, x⟩ := e
  by_cases hj : j = l
  · subst hj
    have hphase := hno x (Table.get?_of_mem hwf he)
    rw [if_pos (by simp)]
    show (j, { x with phase := .none }) = (j, x)
    rw [← hphase]
  · rw [if_neg (by simpa using hj)]
    rfl

theorem get?_linksEnded (s : State) (ls : List Nat) (l : Nat) :
    (s.linksEnded ls).get? l = (s.links.get? l).map fun k => if l ∈ ls then { k with phase := .none } else k := by
  have hmap : s.linksEnded ls = s.links.map fun e => (e.1, if e.1 ∈ ls then { e.2 with phase := .none } else e.2) := by
    refine List.map_congr_left fun e _ => ?_
    by_cases he : e.1 ∈ ls <;> simp [he]
  rw [hmap]
  generalize s.links = m
  induction m with
  | nil => rfl
  | cons e m ih =>
    obtain ⟨j, x⟩ := e
    simp only [List.map_cons, Table.get?]
    by_cases hj : l = j
    · rw [if_pos hj, if_pos hj, hj]
      rfl
    · rw [if_neg hj, if_neg hj, ih]

theorem dropPrepared_eq (s : State) (h : HeadIx) (l : Nat) :
    s.dropPrepared h l = s.setAccount h ((s.account h).without [l]) := by
  have hlist : (s.account h).list.filter (fun r => !(r.kind == .prepared && r.owner == l)) =
      (s.account h).list.filter fun r => !(r.kind == .prepared && [l].contains r.owner) := by
    refine List.filter_congr fun r _ => ?_
    by_cases hr : r.owner = l <;> simp [hr]
  rw [State.dropPrepared, State.modAccount, hlist]
  rfl

/-! ### One prepared reservation, and many -/

/-- One prepared reservation cancelled with its handover, the counts kept (R35, R121). -/
theorem cancelOne_eq (hwf : s.links.wf n) (hkeeps : cause.keepsCount = true) (h : HeadIx) (l : Nat) :
    (s.dropPrepared h l).endHandover l cause =
      ({ s.postFailed cause s l with links := s.linksEnded [l] } : State).setAccount h ((s.account h).without [l]) := by
  have hposts := posts_postFailed s cause l
  cases hx : s.links.get? l with
  | none =>
    have hsame : s.linksEnded [l] = s.links := linksEnded_of_no_handover hwf fun x hx' => by rw [hx] at hx'; cases hx'
    have hend : (s.dropPrepared h l).endHandover l cause = s.dropPrepared h l := by
      unfold State.endHandover
      rw [show (s.dropPrepared h l).links.get? l = none from hx]
    have hfail : s.postFailed cause s l = s := by
      unfold State.postFailed
      rw [hx]
    rw [hsame, hend, hfail, dropPrepared_eq]
  | some x =>
    have hx' : (s.dropPrepared h l).links.get? l = some x := hx
    cases hp : x.phase.target? with
    | none =>
      have hsame : s.linksEnded [l] = s.links := linksEnded_of_no_handover hwf fun y hy => by
        cases hx.symm.trans hy
        exact phase_eq_none hp
      have hfail : s.postFailed cause s l = s := by
        unfold State.postFailed
        rw [hx]
        dsimp only
        rw [hp]
      rw [hsame, endHandover_of_no_target hx' hp, hfail, dropPrepared_eq]
    | some g =>
      have hfail : s.postFailed cause s l = s.post (.context x.owner) (.handoverFailed (s.linkServing l) g cause) := by
        unfold State.postFailed
        rw [hx]
        dsimp only
        rw [hp]
      rw [endHandover_of_target hx' hp, hfail]
      have hposted := (Posts.post (.context x.owner) (.handoverFailed (s.linkServing l) g cause)).at (v := s)
        (w := (s.dropPrepared h l).withoutHandover l x.owner g cause) rfl rfl
      refine hposted.trans ?_
      rw [State.post_frame s, State.withoutHandover, if_pos hkeeps, linksEnded_single]
      rw [dropPrepared_eq]
      rfl

/-- Prepared reservations cancelled in the order given, each ending its handover (R35). -/
theorem cancelEach_eq (hwf : s.links.wf n) (hnodup : ls.Nodup) (hkeeps : cause.keepsCount = true) (h : HeadIx) :
    cancelEach h cause ls s =
      ({ ls.foldl (s.postFailed cause) s with links := s.linksEnded ls } : State).setAccount h ((s.account h).without ls) := by
  induction ls generalizing s with
  | nil =>
    have hnone : (s.account h).without [] = s.account h := by simp [Account.without]
    rw [hnone, linksEnded_nil]
    exact (State.setAccount_account s h).symm
  | cons l rest ih =>
    obtain ⟨hl, hrest⟩ := List.nodup_cons.mp hnodup
    have hone := cancelOne_eq (s := s) hwf hkeeps h l
    unfold cancelEach
    generalize (s.dropPrepared h l).endHandover l cause = w at hone
    have hlinks : w.links = s.linksEnded [l] := by rw [hone]; rfl
    have hcontexts : w.contexts = s.contexts := by
      rw [hone]
      show (s.postFailed cause s l).contexts = s.contexts
      rw [(posts_postFailed s cause l).frame s]
    have hwf' : w.links.wf n := by
      rw [hlinks, linksEnded_single]
      exact Table.modify_wf _ _ hwf
    have hfail : ∀ (ms : List Nat), l ∉ ms → ∀ v, ms.foldl (w.postFailed cause) v = ms.foldl (s.postFailed cause) v := by
      intro ms
      induction ms with
      | nil => exact fun _ _ => rfl
      | cons m ms ihm =>
        intro hm v
        obtain ⟨hlm, hms⟩ := List.ne_and_not_mem_of_not_mem_cons hm
        have hget : w.links.get? m = s.links.get? m := by
          rw [hlinks, linksEnded_single, Table.get?_modify_of_ne _ _ hlm.symm]
        rw [List.foldl_cons, List.foldl_cons, postFailed_congr hget hcontexts, ihm hms]
    rw [ih hwf' hrest, hfail rest hl, linksEnded_of_same hlinks, List.foldl_cons]
    have hacc : w.account h = (s.account h).without [l] := by
      rw [hone]
      exact State.account_setAccount_self _ h _
    have hn : w.notices = (s.postFailed cause s l).notices := by rw [hone]; rfl
    have ho : w.overflow = (s.postFailed cause s l).overflow := by rw [hone]; rfl
    rw [hacc, Account.without_without, (posts_failures s cause rest).at hn ho,
      (posts_failures s cause rest).frame (s.postFailed cause s l), hone]
    simp [State.setAccount]

theorem failures_congr (hl : t.links = s.links) (hc : t.contexts = s.contexts) (cause : HandoverCause) (ls : List Nat) (v : State) :
    ls.foldl (t.postFailed cause) v = ls.foldl (s.postFailed cause) v := by
  have hsame : t.postFailed cause = s.postFailed cause := by
    funext v l
    exact postFailed_congr (by rw [hl]) hc cause v
  rw [hsame]

theorem linksEnded_congr (hl : t.links = s.links) (ls : List Nat) : t.linksEnded ls = s.linksEnded ls := by
  unfold State.linksEnded
  rw [hl]

theorem preparedOwners_nodup {a : Account} (h : (a.list.map (·.owner)).Nodup) : a.preparedOwners.Nodup :=
  h.sublist (List.filter_sublist.map _)

/-! ### Loss of lock -/

theorem Account.without_preparedOwners (a : Account) :
    a.without a.preparedOwners = { a with list := a.list.filter fun r => r.kind == .standing } := by
  have hlist : a.list.filter (fun r => !(r.kind == .prepared && a.preparedOwners.contains r.owner)) =
      a.list.filter fun r => r.kind == .standing := by
    refine List.filter_congr fun r hr => ?_
    cases hk : r.kind with
    | standing => rfl
    | prepared =>
      have hmem : r.owner ∈ a.preparedOwners :=
        List.mem_map_of_mem (List.mem_filter.mpr ⟨hr, by rw [hk]; rfl⟩)
      simp [hmem]
  rw [Account.without, hlist]

theorem prepared_of_filter_standing (a : Account) :
    ({ a with list := a.list.filter fun r => r.kind == .standing } : Account).standing = a.standing ∧
      ({ a with list := a.list.filter fun r => r.kind == .standing } : Account).prepared = 0 := by
  unfold Account.standing Account.prepared Account.sum
  refine ⟨?_, ?_⟩
  · dsimp only
    rw [List.filter_filter]
    simp
  · dsimp only
    rw [List.filter_filter]
    have hnone : a.list.filter (fun r => r.kind == .prepared && r.kind == .standing) = [] :=
      List.filter_eq_nil_iff.mpr fun r _ => by cases r.kind <;> decide
    rw [hnone]
    rfl

/-- The fit behind prepared reservations cancelled (R57). -/
theorem fit_after_failures (s v : State) (cause : HandoverCause) (ls : List Nat) (m : Table CraneLink) (h : HeadIx) (a : Account) :
    (({ ls.foldl (s.postFailed cause) v with links := m } : State).setAccount h a).fit h =
      (({ ls.foldl (s.postFailed cause) v with links := m } : State).setAccount h
        { a with wg := grantedWindow (v.head h) a }).passIfGrown h a.wg := by
  have hhead : ({ ls.foldl (s.postFailed cause) v with links := m } : State).head h = v.head h := by
    rw [(posts_failures s cause ls).frame v]
    rfl
  rw [fit_eq, State.account_setAccount_self, State.head_setAccount, State.setAccount_setAccount, hhead]

/-- A head that leaves ACTIVE: its record, HEAD_STATE, its prepared reservations and the fit (R35, R57). -/
theorem changeHead_of_leaving {f : Head → Head} (hwf : s.links.wf n) (hnodup : ((s.account h).list.map (·.owner)).Nodup)
    (hactive : (s.head h).state = .active) (hleaves : (f (s.head h)).state ≠ .active) :
    let y := f (s.head h)
    let a := s.account h
    s.changeHead h f =
      (({ a.preparedOwners.foldl (s.postFailed .targetLost)
          ((s.setHead h y).post (.head h) (.headState y.state y.cause y.effective)) with
          links := s.linksEnded a.preparedOwners } : State).setAccount h
        { a with
          list := a.list.filter fun r => r.kind == .standing, wg := min a.wreq (y.effective - a.standing) }).passIfGrown h
        a.wg := by
  intro y a
  have hhead : ((s.modHead h f).postHeadState h).head h = y := by
    rw [State.postHeadState, State.head_post]
    exact State.head_setHead_self s h y
  have hs1 : (s.modHead h f).postHeadState h = (s.setHead h y).post (.head h) (.headState y.state y.cause y.effective) := by
    rw [State.postHeadState, show (s.modHead h f).head h = y from State.head_setHead_self s h y]
    rfl
  unfold State.changeHead
  dsimp only
  rw [if_pos ⟨hactive, by rw [hhead]; exact hleaves⟩, State.cancelPrepared, hs1]
  have hlinks : ((s.setHead h y).post (.head h) (.headState y.state y.cause y.effective)).links = s.links := by
    rw [State.post_links]
    rfl
  have hcontexts : ((s.setHead h y).post (.head h) (.headState y.state y.cause y.effective)).contexts = s.contexts := by
    rw [State.post_contexts]
    rfl
  have hacc : ((s.setHead h y).post (.head h) (.headState y.state y.cause y.effective)).account h = a := by
    rw [State.account_post]
    rfl
  have hhead' : ((s.setHead h y).post (.head h) (.headState y.state y.cause y.effective)).head h = y := by
    rw [State.head_post]
    exact State.head_setHead_self s h y
  generalize (s.setHead h y).post (.head h) (.headState y.state y.cause y.effective) = s1 at *
  rw [hacc, cancelEach_eq (hlinks ▸ hwf) (preparedOwners_nodup hnodup) rfl, hacc, failures_congr hlinks hcontexts,
    linksEnded_congr hlinks, Account.without_preparedOwners, fit_after_failures, hhead']
  obtain ⟨hst, hpr⟩ := prepared_of_filter_standing a
  have hwindow : grantedWindow y { a with list := a.list.filter fun r => r.kind == .standing } =
      min a.wreq (y.effective - a.standing) := by
    rw [grantedWindow, hst, hpr, Nat.sub_zero]
  rw [hwindow]

/-- What a fit leaves: its head's account, polls and their orders, and nothing else (R57, R147). -/
theorem fitted_frame (s : State) (h : HeadIx) (a : Account) (old : Nat) :
    let t := (s.setAccount h a).passIfGrown h old
    t.account h = { a with polls := (t.account h).polls } ∧
      (∀ g, g ≠ h → t.account g = s.account g ∧ t.pollWait g = s.pollWait g) ∧
      t = { s with airtime := t.airtime, orders := t.orders, reefers := t.reefers, pollWaits := t.pollWaits } := by
  intro t
  have hpass : PolledThrough h (s.setAccount h a) t := polledThrough_passIfGrown _ h old
  obtain ⟨-, -, -, hothers, hwaits⟩ := hpass.fields
  have hself := hpass.account
  rw [State.account_setAccount_self] at hself
  obtain ⟨-, -, -, hframe⟩ := hpass
  refine ⟨hself, fun g hg => ⟨?_, ?_⟩, ?_⟩
  · rw [hothers g hg, State.account_setAccount_of_ne _ _ hg]
  · rw [hwaits g hg]
    rfl
  · generalize t.account h = ta at hframe
    generalize t.pollWait h = tw at hframe
    rw [hframe]
    rfl

/-- Settles O34. -/
theorem lossOfLockGivesHoldover : Obligations.LossOfLockGivesHoldover := by
  intro b h s htables hnodup hb hactive x a x' standing wg told
  have hexec := exec_syncLost_eq hb s
  obtain ⟨-, hwf, -⟩ := htables
  have hlost : syncLost h s = s.changeHead h fun x =>
      { x with state := .holdover, locked := false, holdoverTimer := some x.holdoverLimit } := by
    rw [syncLost, hactive]
  have heq := changeHead_of_leaving (f := fun x =>
    { x with state := .holdover, locked := false, holdoverTimer := some x.holdoverLimit }) hwf hnodup hactive nofun
  obtain ⟨ns, o, htold⟩ : ∃ ns o, told = { s.setHead h x' with notices := ns, overflow := o } :=
    ⟨_, _, ((Posts.post (.head h) (.headState .holdover x.cause (x.capacity / 2))).comp
      (posts_failures s .targetLost a.preparedOwners)).frame (s.setHead h x')⟩
  obtain ⟨hself, hothers, hframe⟩ := fitted_frame { told with links := s.linksEnded a.preparedOwners } h
    { a with list := standing, wg := wg } a.wg
  obtain ⟨t, ht⟩ : ∃ t, t = (({ told with links := s.linksEnded a.preparedOwners } : State).setAccount h
    { a with list := standing, wg := wg }).passIfGrown h a.wg := ⟨_, rfl⟩
  rw [← ht] at hself hothers hframe
  have hheads : t.heads = (s.setHead h x').heads := by rw [hframe, htold]
  refine ⟨t, ?_, ht, (head_of_heads hheads h).trans (State.head_setHead_self s h x'), by rw [hframe, htold]; rfl,
    fun g hg => ⟨(head_of_heads hheads g).trans (State.head_setHead_of_ne _ _ hg), ?_⟩, by rw [hself], by rw [hself], by rw [hself],
    fun l => ?_, ?_⟩
  · rw [hexec, hlost, ht]
    exact congrArg _ heq
  · obtain ⟨hacc, hwait⟩ := hothers g hg
    rw [htold] at hacc hwait
    exact ⟨hacc, hwait⟩
  · rw [show t.links = s.linksEnded a.preparedOwners by rw [hframe]]
    exact get?_linksEnded s _ l
  · clear_value told
    subst htold
    conv_lhs => rw [hframe]
    rw [show t.notices = ns by rw [hframe], show t.overflow = o by rw [hframe], hheads,
      show t.links = s.linksEnded a.preparedOwners by rw [hframe]]
    rfl

/-! ### A capacity that falls -/

theorem Account.without_congr {a : Account} {ls ms : List Nat} (h : ∀ l, l ∈ ls ↔ l ∈ ms) : a.without ls = a.without ms := by
  have hlist : a.list.filter (fun r => !(r.kind == .prepared && ls.contains r.owner)) =
      a.list.filter fun r => !(r.kind == .prepared && ms.contains r.owner) := by
    refine List.filter_congr fun r _ => ?_
    simp [h]
  rw [Account.without, Account.without, hlist]

theorem linksEnded_congr_mem {ls ms : List Nat} (h : ∀ l, l ∈ ls ↔ l ∈ ms) : s.linksEnded ls = s.linksEnded ms := by
  refine List.map_congr_left fun e _ => ?_
  simp [h]

/-- Cancelling until the rest fits cancels the first of the links given: as many as it takes, and no more (R61). -/
theorem cancelUntilFits_eq (h : HeadIx) (ls : List Nat) (s : State) :
    let fits (j : Nat) : Prop := ((s.account h).without (ls.take j)).standing + ((s.account h).without (ls.take j)).prepared ≤
      (s.head h).effective
    ∃ m ≤ ls.length, cancelUntilFits h ls s = cancelEach h .capacity (ls.take m) s ∧ (fits m ∨ m = ls.length) ∧
      ∀ j < m, ¬ fits j := by
  induction ls generalizing s with
  | nil => exact ⟨0, Nat.le_refl 0, rfl, .inr rfl, fun j hj => absurd hj (Nat.not_lt_zero j)⟩
  | cons l rest ih =>
    have hzero : (s.account h).without ((l :: rest).take 0) = s.account h := by simp [Account.without]
    have hnow : ((s.account h).without ((l :: rest).take 0)).standing + ((s.account h).without ((l :: rest).take 0)).prepared ≤
        (s.head h).effective ↔ (s.account h).standing + (s.account h).prepared ≤ (s.head h).effective := by rw [hzero]
    by_cases hfits : (s.account h).standing + (s.account h).prepared ≤ (s.head h).effective
    · refine ⟨0, Nat.zero_le _, ?_, .inl (hnow.mpr hfits), fun j hj => absurd hj (Nat.not_lt_zero j)⟩
      rw [cancelUntilFits, if_pos hfits]
      rfl
    · obtain ⟨m, hle, heq, hstop, hmore⟩ := ih ((s.dropPrepared h l).endHandover l .capacity)
      have hacc : ((s.dropPrepared h l).endHandover l .capacity).account h = (s.account h).without [l] := by
        have := account_cancelEach h .capacity [l] s h
        rwa [if_pos rfl] at this
      have hhead : ((s.dropPrepared h l).endHandover l .capacity).head h = s.head h := head_cancelEach h .capacity [l] s h
      simp only [hacc, hhead, Account.without_without] at hstop hmore
      refine ⟨m + 1, Nat.succ_le_succ hle, ?_, hstop.imp id (congrArg (· + 1)), fun j hj => ?_⟩
      · rw [cancelUntilFits, if_neg hfits, heq]
        rfl
      · cases j with
        | zero => exact mt hnow.mp hfits
        | succ j => exact hmore j (Nat.lt_of_succ_lt_succ hj)

/-- Of a list whose keys differ, those whose keys are not among the last ones are the first ones. -/
theorem filter_not_drop {α : Type} {f : α → Nat} {q : List α} (hnodup : (q.map f).Nodup) (n : Nat) :
    q.filter (fun a => !((q.map f).drop n).contains (f a)) = q.take n := by
  have hsplit : (q.take n ++ q.drop n) = q := List.take_append_drop n q
  conv_lhs =>
    arg 2
    rw [← hsplit]
  rw [List.filter_append, ← List.map_drop]
  have hdisjoint : ∀ a ∈ q.take n, f a ∉ (q.drop n).map f := by
    intro a ha hmem
    rw [← hsplit, List.map_append] at hnodup
    exact (List.nodup_append.mp hnodup).2.2 _ (List.mem_map_of_mem ha) _ hmem rfl
  have hleft : (q.take n).filter (fun a => !((q.drop n).map f).contains (f a)) = q.take n :=
    List.filter_eq_self.mpr fun a ha => by simpa using hdisjoint a ha
  have hright : (q.drop n).filter (fun a => !((q.drop n).map f).contains (f a)) = [] :=
    List.filter_eq_nil_iff.mpr fun a ha => by
      have : f a ∈ (q.drop n).map f := List.mem_map_of_mem ha
      simp only [List.contains_iff_mem.mpr this]
      decide
  rw [hleft, hright, List.append_nil]

theorem Account.prepared_without_newest {a : Account} (hnodup : (a.list.map (·.owner)).Nodup) (n : Nat) :
    (a.without (a.preparedOwners.drop n)).list.filter (fun r => r.kind == .prepared) =
      (a.list.filter fun r => r.kind == .prepared).take n := by
  have hq : ((a.list.filter fun r => r.kind == .prepared).map (·.owner)).Nodup := preparedOwners_nodup hnodup
  rw [← filter_not_drop hq n, Account.without]
  dsimp only
  rw [List.filter_filter, List.filter_filter]
  refine List.filter_congr fun r _ => ?_
  change _ = (!(a.preparedOwners.drop n).contains r.owner && r.kind == .prepared)
  cases r.kind <;> cases (a.preparedOwners.drop n).contains r.owner <;> rfl

theorem preparedOwners_without_newest {a : Account} (hnodup : (a.list.map (·.owner)).Nodup) (n : Nat) :
    (a.without (a.preparedOwners.drop n)).preparedOwners = a.preparedOwners.take n := by
  rw [Account.preparedOwners, Account.prepared_without_newest hnodup, List.map_take]
  rfl

theorem prepared_without_newest_units {a : Account} (hnodup : (a.list.map (·.owner)).Nodup) (n : Nat) :
    (a.without (a.preparedOwners.drop n)).prepared =
      (((a.list.filter fun r => r.kind == .prepared).map (·.units)).take n).sum := by
  rw [Account.prepared, Account.sum, Account.prepared_without_newest hnodup, List.map_take]

theorem standingOwners_without (a : Account) (ls : List Nat) : (a.without ls).standingOwners = a.standingOwners := by
  unfold Account.standingOwners Account.without
  dsimp only
  rw [List.filter_filter]
  refine congrArg _ (List.filter_congr fun r _ => ?_)
  cases r.kind <;> simp

/-- The newest first, of the list reversed. -/
theorem without_newest_first (a : Account) (j : Nat) :
    a.without (a.preparedOwners.reverse.take j) = a.without (a.preparedOwners.drop (a.preparedOwners.length - j)) := by
  refine Account.without_congr fun l => ?_
  rw [List.take_reverse, List.mem_reverse]

/-- A new capacity (R61): the prepared reservations that stay, those that go, and the fit. -/
theorem newCapacity_eq (hwf : s.links.wf n) (hnodup : ((s.account h).list.map (·.owner)).Nodup) :
    let a := s.account h
    let units := (a.list.filter fun q => q.kind == .prepared).map (·.units)
    ∃ m, (a.standing + (units.take m).sum ≤ (s.head h).effective ∨ m = 0) ∧ m ≤ units.length ∧
      (∀ j, m < j → j ≤ units.length → (s.head h).effective < a.standing + (units.take j).sum) ∧
      s.newCapacity h =
        (({ (a.preparedOwners.drop m).reverse.foldl (s.postFailed .capacity) s with
            links := s.linksEnded (a.preparedOwners.drop m) } : State).setAccount h
          { a.without (a.preparedOwners.drop m) with
            wg := min a.wreq ((s.head h).effective - a.standing - (units.take m).sum) }).passIfGrown h a.wg := by
  intro a units
  have hlen : units.length = a.preparedOwners.length := by simp [units, Account.preparedOwners]
  obtain ⟨j, hj, heq, hstop, hmore⟩ := cancelUntilFits_eq h a.preparedOwners.reverse s
  rw [List.length_reverse] at hj hstop
  have hfits (i : Nat) (hi : i ≤ a.preparedOwners.length) :
      ((s.account h).without (a.preparedOwners.reverse.take i)).standing +
        ((s.account h).without (a.preparedOwners.reverse.take i)).prepared =
      a.standing + (units.take (a.preparedOwners.length - i)).sum := by
    rw [without_newest_first a i, Account.standing_without, prepared_without_newest_units hnodup]
  refine ⟨a.preparedOwners.length - j, ?_, by omega, fun i hi hle => ?_, ?_⟩
  · rcases hstop with hstop | hall
    · left
      rw [← hfits j hj]
      exact hstop
    · right
      omega
  · have hno := hmore (a.preparedOwners.length - i) (by omega)
    have hsum := hfits (a.preparedOwners.length - i) (by omega)
    rw [show a.preparedOwners.length - (a.preparedOwners.length - i) = i by omega] at hsum
    dsimp only at hno
    rw [hsum] at hno
    exact Nat.lt_of_not_le hno
  · have hgone : a.preparedOwners.reverse.take j = (a.preparedOwners.drop (a.preparedOwners.length - j)).reverse :=
      List.take_reverse
    have hnodup' : (a.preparedOwners.drop (a.preparedOwners.length - j)).reverse.Nodup :=
      List.nodup_reverse.mpr ((preparedOwners_nodup hnodup).sublist (List.drop_sublist _ _))
    have hmem (l : Nat) : l ∈ (a.preparedOwners.drop (a.preparedOwners.length - j)).reverse ↔
        l ∈ a.preparedOwners.drop (a.preparedOwners.length - j) := List.mem_reverse
    rw [State.newCapacity, heq, hgone, cancelEach_eq hwf hnodup' rfl, fit_after_failures, linksEnded_congr_mem hmem,
      Account.without_congr hmem, grantedWindow, Account.standing_without, prepared_without_newest_units hnodup]
    rfl

/-! ### HEAD_CONFIG -/

theorem headConfigChecks_unread {os : Options} {x : Head} {a : Account} (h : os.readAs .spanFirst x.spanFirst segmentOf = none ∨
    os.readAs .spanLast x.spanLast segmentOf = none) : headConfigChecks os x a = .error .badOption := by
  unfold headConfigChecks
  rcases h with h | h
  · rw [h]
  · rw [h]
    cases os.readAs .spanFirst x.spanFirst segmentOf <;> rfl

/-- The checks of HEAD_CONFIG behind its span values (R44, R62). -/
theorem headConfigChecks_read {os : Options} {x : Head} {a : Account} {first last : Segment}
    (hf : os.readAs .spanFirst x.spanFirst segmentOf = some first) (hl : os.readAs .spanLast x.spanLast segmentOf = some last) :
    headConfigChecks os x a =
      if os.isEmpty then .error .missingOption
      else if last < first then .error .badOption
      else if os.has .capacity ∧ settingOf 16 240 x.capacity (os.nat .capacity) < a.standing then .error .badOption
      else .ok
        { capacity := clampOpt 16 240 x.capacity (os.nat .capacity),
          startFrames := clampOpt 1 65535 x.startFrames (os.nat .startFrames),
          lockLimit := clampOpt 1 65535 x.lockLimit (os.nat .lockLimit),
          holdoverLimit := clampOpt 1 65535 x.holdoverLimit (os.nat .holdoverLimit), spanFirst := first, spanLast := last } := by
  unfold headConfigChecks
  rw [hf, hl]
  dsimp only
  rw [clampOpt_eq 16 240]

/-- Settles O39. -/
theorem headConfigWritesTheSettings : Obligations.HeadConfigWritesTheSettings := by
  intro r h s os hnames hcarries x a refused
  have hexec : exec (.headConfig r) s = execHeadConfig r s := rfl
  rw [execHeadConfig, headTarget_of_namesHead hnames hcarries] at hexec
  dsimp only at hexec
  have hrefused {res : Result} (hchecks : headConfigChecks os (s.head h) (s.account h) = .error res) : refused res := by
    rw [hchecks] at hexec
    exact hexec
  refine ⟨fun hbad => hrefused (headConfigChecks_unread hbad), fun first last hf hl => ?_⟩
  have hchecks := headConfigChecks_read (a := s.account h) hf hl
  refine ⟨fun hempty => ?_, fun hne hlt => ?_, fun hne hle => ?_⟩
  · rw [if_pos (by rw [hempty]; rfl)] at hchecks
    exact hrefused hchecks
  · rw [if_neg (mt List.isEmpty_iff.mp hne), if_pos hlt] at hchecks
    exact hrefused hchecks
  rw [if_neg (mt List.isEmpty_iff.mp hne), if_neg (not_lt.mpr hle)] at hchecks
  intro c x' clamped done units
  refine ⟨fun hno => ?_, fun hhas hlt => ?_, fun hhas hle' htables hnodup => ?_⟩
  · rw [if_neg (by rw [hno]; exact fun hh => Bool.false_ne_true hh.1)] at hchecks
    simp only [clampOpt_eq] at hchecks
    rw [hchecks] at hexec
    dsimp only at hexec
    rw [hno, takeHeadConfig, if_neg Bool.false_ne_true] at hexec
    rw [hexec]
    change Host.Outcome.next (answer .headConfig r .done _ (.head h) (headConfigBody ((s.setHead h x').head h))
      (s.setHead h x')) = _
    rw [State.head_setHead_self]
    rfl
  · rw [if_pos ⟨hhas, hlt⟩] at hchecks
    exact hrefused hchecks
  · rw [if_neg fun hh => Nat.not_lt.mpr hle' hh.2] at hchecks
    simp only [clampOpt_eq] at hchecks
    rw [hchecks] at hexec
    dsimp only at hexec
    rw [hhas, takeHeadConfig, if_pos rfl] at hexec
    obtain ⟨-, hwf, -⟩ := htables
    have hhead : (s.setHead h x').head h = x' := State.head_setHead_self s h x'
    obtain ⟨n, hfits, hn, hmore, heq⟩ := newCapacity_eq (s := s.setHead h x') (h := h) hwf hnodup
    rw [hhead] at hfits hmore heq
    obtain ⟨ns, o, htold⟩ : ∃ ns o, (a.preparedOwners.drop n).reverse.foldl (s.postFailed .capacity) (s.setHead h x') =
        { s.setHead h x' with notices := ns, overflow := o } :=
      ⟨_, _, (posts_failures s .capacity _).frame (s.setHead h x')⟩
    obtain ⟨hself, hothers, hframe⟩ := fitted_frame { (a.preparedOwners.drop n).reverse.foldl (s.postFailed .capacity)
      (s.setHead h x') with links := s.linksEnded (a.preparedOwners.drop n) } h
      { a.without (a.preparedOwners.drop n) with wg := min a.wreq (x'.effective - a.standing - (units.take n).sum) } a.wg
    change (s.setHead h x').newCapacity h = (({ (a.preparedOwners.drop n).reverse.foldl (s.postFailed .capacity)
      (s.setHead h x') with links := s.linksEnded (a.preparedOwners.drop n) } : State).setAccount h
      { a.without (a.preparedOwners.drop n) with
        wg := min a.wreq (x'.effective - a.standing - (units.take n).sum) }).passIfGrown h a.wg at heq
    rw [← heq] at hself hothers hframe
    have hheads : ((s.setHead h x').newCapacity h).heads = (s.setHead h x').heads := by rw [hframe, htold]
    have hhead' : ((s.setHead h x').newCapacity h).head h = x' := (head_of_heads hheads h).trans hhead
    refine ⟨(s.setHead h x').newCapacity h, n, ?_, hfits, hn, hmore, heq, hhead',
      fun g hg => (head_of_heads hheads g).trans (State.head_setHead_of_ne _ _ hg), ?_, ?_, ?_, ?_⟩
    · rw [hexec]
      change Host.Outcome.next (answer .headConfig r .done _ (.head h) (headConfigBody (((s.setHead h x').newCapacity h).head h))
        ((s.setHead h x').newCapacity h)) = _
      rw [hhead']
      rfl
    · rw [hself]
      exact standingOwners_without a _
    · rw [hself]
      exact preparedOwners_without_newest hnodup n
    · rw [hframe, htold]
      rfl
    · rw [hframe, htold]
      rfl

end Sys2Proof.Machine
end

section
/-! RESTART (R166): what it does to the reefers, to the heads and to the links, and what it posts. -/

namespace Sys2Proof.Machine

variable {s t u v w : State} {l n : Nat} {x : CraneLink} {h g : HeadIx} {ls : List Nat} {ns : List Notice}

/-! ### Notices posted one after the other -/

/-- The notices `ns` posted in their order (R162). -/
def State.postAll (s : State) (ns : List Notice) : State := ns.foldl (fun v n => v.post n.subject n.content) s

theorem posts_postAll (ns : List Notice) : Posts fun v => v.postAll ns := by
  induction ns with
  | nil => exact .id
  | cons n ns ih => exact (Posts.post n.subject n.content).comp ih

theorem postAll_append (s : State) (ns ms : List Notice) : s.postAll (ns ++ ms) = (s.postAll ns).postAll ms :=
  List.foldl_append

/-- With room in the queue, a notice posted raises no overflow, and stands in the queue beside others of it. -/
theorem post_with_room (s : State) (n : Notice) (hroom : s.notices.length < Config.noticeEntries) :
    (s.post n.subject n.content).overflow = s.overflow ∧
      (s.post n.subject n.content).notices.length ≤ s.notices.length + 1 ∧
      ∀ m ∈ (s.post n.subject n.content).notices, m ∈ s.notices ∨ m = n := by
  unfold State.post
  dsimp only
  rw [if_pos hroom]
  split
  · refine ⟨rfl, by simp, fun m hm => ?_⟩
    obtain ⟨m', hm', heq⟩ := List.mem_map.mp hm
    split at heq
    · exact .inr heq.symm
    · exact .inl (heq ▸ hm')
  · refine ⟨rfl, by simp, fun m hm => ?_⟩
    exact (List.mem_append.mp hm).imp id fun h => List.mem_singleton.mp h

/-- With room for all of them, notices posted raise no overflow, and nothing else joins the queue. -/
theorem postAll_with_room (hroom : s.notices.length + ns.length ≤ Config.noticeEntries) :
    (s.postAll ns).overflow = s.overflow ∧ ∀ m ∈ (s.postAll ns).notices, m ∈ s.notices ∨ m ∈ ns := by
  induction ns generalizing s with
  | nil => exact ⟨rfl, fun m hm => .inl hm⟩
  | cons n ns ih =>
    rw [List.length_cons] at hroom
    obtain ⟨hoverflow, hlength, hmem⟩ := post_with_room s n (by omega)
    obtain ⟨hoverflow', hmem'⟩ := ih (s := s.post n.subject n.content) (by omega)
    refine ⟨hoverflow'.trans hoverflow, fun m hm => ?_⟩
    rcases hmem' m hm with hm | hm
    · exact (hmem m hm).imp id fun heq => List.mem_cons.mpr (.inl heq)
    · exact .inr (List.mem_cons_of_mem _ hm)

/-- Notices of which no two are of one kind and subject join the queue in their order. -/
theorem postAll_of_distinct (hroom : s.notices.length + ns.length ≤ Config.noticeEntries)
    (hdistinct : (s.notices ++ ns).Pairwise fun a b => a.matches b = false) : (s.postAll ns).notices = s.notices ++ ns := by
  induction ns generalizing s with
  | nil => exact (List.append_nil _).symm
  | cons n ns ih =>
    rw [List.length_cons] at hroom
    have hsplit : s.notices ++ n :: ns = (s.notices ++ [n]) ++ ns := by simp
    have hnone : s.notices.any (·.matches n) = false :=
      List.any_eq_false.mpr fun m hm => by
        simpa using (List.pairwise_append.mp hdistinct).2.2 m hm n List.mem_cons_self
    have hpost : (s.post n.subject n.content).notices = s.notices ++ [n] := by
      unfold State.post
      dsimp only
      rw [if_neg (by simpa using hnone), if_pos (by omega)]
    rw [hsplit] at hdistinct ⊢
    have hrest := ih (s := s.post n.subject n.content) (by rw [hpost, List.length_append, List.length_singleton]; omega)
      (by rw [hpost]; exact hdistinct)
    rw [hpost] at hrest
    exact hrest

/-! ### A link -/

/-- A link record behind a restart (R115, R125). -/
def CraneLink.behindRestart (x : CraneLink) : CraneLink :=
  let y := { x with next := none, down := none, waiting := none, releasePending := false, phase := .none }
  if x.state = .running ∨ x.state = .holding then { y with state := .safeStop, cause := some .restart } else y

/-- CRANE_STATE of a link that a restart stops (R115). -/
def CraneLink.stopNotices (x : CraneLink) : List Notice :=
  if x.state = .running ∨ x.state = .holding then
    [{ subject := .context x.owner, content := .craneState .safeStop (some .restart) }] else []

/-- HANDOVER_FAILED of a handover that a restart ends (R125). -/
def CraneLink.endNotices (x : CraneLink) (serving : Option HeadIx) : List Notice :=
  match x.phase.target? with
  | some g => [{ subject := .context x.owner, content := .handoverFailed serving g .restart }]
  | none => []

/-- The notices of a restart about a link (R115, R125). -/
def State.restartNotices (s : State) (l : Nat) : List Notice :=
  match s.links.get? l with
  | some x => x.stopNotices ++ x.endNotices (s.linkServing l)
  | none => []

/-- The end of a handover whose counts are kept: the phase, and HANDOVER_FAILED (R125). -/
theorem endHandover_restart (hwf : s.links.wf n) (hx : s.links.get? l = some x) :
    s.endHandover l .restart = (s.modLink l fun k => { k with phase := .none }).postAll (x.endNotices (s.linkServing l)) := by
  unfold CraneLink.endNotices
  cases hp : x.phase.target? with
  | none =>
    have hsame : s.links.modify l (fun k => { k with phase := .none }) = s.links := by
      refine Table.modify_of_forall hwf fun v hv => ?_
      cases hx.symm.trans hv
      rw [← phase_eq_none hp]
    rw [endHandover_of_no_target hx hp]
    show s = { s with links := s.links.modify l fun k => { k with phase := .none } }
    rw [hsame]
  | some g => exact endHandover_of_target hx hp .restart

/-- Posting and a change of a link record do not see each other. -/
theorem postAll_modLink (s : State) (ns : List Notice) (l : Nat) (f : CraneLink → CraneLink) :
    (s.modLink l f).postAll ns = (s.postAll ns).modLink l f := by
  induction ns generalizing s with
  | nil => rfl
  | cons n ns ih =>
    show ((s.modLink l f).post n.subject n.content).postAll ns = ((s.post n.subject n.content).postAll ns).modLink l f
    rw [← modLink_post, ih]

/-- The record of a link that a restart stops, or leaves in its state, its handover still to be ended (R115). -/
def CraneLink.stoppedByRestart (x : CraneLink) : CraneLink :=
  if x.state = .running ∨ x.state = .holding then
    { x.afterRestart with state := .safeStop, cause := some .restart } else x.afterRestart

theorem stoppedByRestart_fields (x : CraneLink) :
    x.stoppedByRestart.owner = x.owner ∧ x.stoppedByRestart.phase = x.phase ∧
      { x.stoppedByRestart with phase := .none } = x.behindRestart := by
  unfold CraneLink.stoppedByRestart CraneLink.behindRestart
  split <;> exact ⟨rfl, rfl, rfl⟩

/-- A link in RUNNING or HOLDING is stopped, with its notice (R115). -/
theorem restartLink_of_link (hwf : s.links.wf n) (hx : s.links.get? l = some x) :
    s.restartLink l = ((s.modLink l fun _ => x.stoppedByRestart).postAll x.stopNotices).endHandover l .restart := by
  have hconst : s.modLink l CraneLink.afterRestart = s.modLink l fun _ => x.afterRestart := by
    rw [State.modLink, Table.modify_eq_const hwf hx]
    rfl
  have hx1 : (s.modLink l fun _ => x.afterRestart).links.get? l = some x.afterRestart := by rw [get?_modLink, hx]; rfl
  have hstop : (s.modLink l fun _ => x.afterRestart).enterSafeStop l .restart =
      (s.modLink l fun _ => { x.afterRestart with state := .safeStop, cause := some .restart }).post (.context x.owner)
        (.craneState .safeStop (some .restart)) := by
    unfold State.enterSafeStop
    rw [hx1]
    dsimp only
    rw [modLink_modLink]
    rfl
  unfold State.restartLink CraneLink.stoppedByRestart CraneLink.stopNotices
  rw [hx]
  dsimp only
  rw [hconst]
  cases hstate : x.state with
  | running => exact congrArg (State.endHandover · l .restart) hstop
  | holding => exact congrArg (State.endHandover · l .restart) hstop
  | idle => rfl
  | safeStop => rfl

/-- The restart on a link: its record, and its notices (R115, R125). -/
theorem restartLink_eq (hwf : s.links.wf n) (l : Nat) :
    s.restartLink l = (s.postAll (s.restartNotices l)).modLink l CraneLink.behindRestart := by
  unfold State.restartNotices
  cases hx : s.links.get? l with
  | none =>
    have hsame : s.restartLink l = s := by
      unfold State.restartLink
      rw [hx]
    rw [hsame]
    show s = { s with links := s.links.modify l CraneLink.behindRestart }
    rw [Table.modify_of_get?_none _ _ _ hx]
  | some x =>
    obtain ⟨howner, hphase, hwhole⟩ := stoppedByRestart_fields x
    rw [restartLink_of_link hwf hx, postAll_modLink]
    have hframe := (posts_postAll x.stopNotices).frame s
    have hlinks : (s.postAll x.stopNotices).links = s.links := by rw [hframe]
    have hserving : ((s.postAll x.stopNotices).modLink l fun _ => x.stoppedByRestart).linkServing l = s.linkServing l := by
      rw [State.linkServing, State.linkServing, State.linkContext, State.linkContext, get?_modLink, hlinks, hx, hframe]
      exact congrArg (fun o => (s.contexts.get? o).bind _) howner
    have hx2 : ((s.postAll x.stopNotices).modLink l fun _ => x.stoppedByRestart).links.get? l = some x.stoppedByRestart := by
      rw [get?_modLink, hlinks, hx]
      rfl
    have hnotices : x.stoppedByRestart.endNotices (s.linkServing l) = x.endNotices (s.linkServing l) := by
      unfold CraneLink.endNotices
      rw [howner, hphase]
    have hwf2 : ((s.postAll x.stopNotices).modLink l fun _ => x.stoppedByRestart).links.wf n :=
      Table.modify_wf l (fun _ => x.stoppedByRestart) (show (s.postAll x.stopNotices).links.wf n by rw [hlinks]; exact hwf)
    rw [endHandover_restart hwf2 hx2, hserving, hnotices, modLink_modLink, postAll_modLink,
      ← postAll_append]
    have hrecord : ((s.postAll (x.stopNotices ++ x.endNotices (s.linkServing l))).links.modify l CraneLink.behindRestart) =
        (s.postAll (x.stopNotices ++ x.endNotices (s.linkServing l))).links.modify l fun _ => x.behindRestart := by
      refine Table.modify_eq_const (n := n) (w := x) ?_ ?_ _
      · rw [(posts_postAll _).frame s]; exact hwf
      · rw [(posts_postAll _).frame s]; exact hx
    unfold State.modLink
    rw [hrecord, ← hwhole]
    rfl

/-! ### All links -/

theorem restartNotices_congr (hl : t.links.get? l = s.links.get? l) (hc : t.contexts = s.contexts) :
    t.restartNotices l = s.restartNotices l := by
  unfold State.restartNotices State.linkServing State.linkContext
  rw [hl, hc]

/-- The restart on the links given, each once (R115, R125). -/
theorem restartLinks_eq (hwf : s.links.wf n) (hnodup : ls.Nodup) :
    restartLinks ls s =
      { s.postAll (ls.flatMap s.restartNotices) with
        links := s.links.map fun e => if e.1 ∈ ls then (e.1, e.2.behindRestart) else e } := by
  induction ls generalizing s with
  | nil =>
    have hsame : s.links.map (fun e => if e.1 ∈ [] then (e.1, e.2.behindRestart) else e) = s.links :=
      (List.map_congr_left fun e _ => by simp).trans (List.map_id _)
    rw [hsame]
    rfl
  | cons l ls ih =>
    obtain ⟨hl, hls⟩ := List.nodup_cons.mp hnodup
    have hone := restartLink_eq hwf l
    have hframe := (posts_postAll (s.restartNotices l)).frame s
    have hlinks : (s.restartLink l).links = s.links.modify l CraneLink.behindRestart := by rw [hone, hframe]; rfl
    have hnotices : ls.flatMap (s.restartLink l).restartNotices = ls.flatMap s.restartNotices := by
      refine List.flatMap_congr fun j hj => restartNotices_congr ?_ ?_
      · rw [hlinks, Table.get?_modify_of_ne _ _ fun hjl : j = l => hl (hjl ▸ hj)]
      · rw [hone, hframe]; rfl
    rw [restartLinks, ih (hlinks ▸ Table.modify_wf _ _ hwf) hls, hnotices, hlinks, hone, postAll_modLink, ← postAll_append]
    have hmap : (s.links.modify l CraneLink.behindRestart).map
        (fun e => if e.1 ∈ ls then (e.1, e.2.behindRestart) else e) =
        s.links.map fun e => if e.1 ∈ l :: ls then (e.1, e.2.behindRestart) else e := by
      rw [Table.modify, List.map_map]
      refine List.map_congr_left fun e _ => ?_
      by_cases he : e.1 = l
      · have hin : e.1 ∉ ls := he ▸ hl
        simp [he, hl]
      · simp [he]
    rw [hmap]
    rfl

/-! ### The heads and their accounts -/

/-- The account of a head behind a restart (R68). -/
def restartedAccount (x : Head) (a : Account) : Account :=
  { a with list := a.list.filter fun r => r.kind == .standing, wg := min a.wreq (x.effective - a.standing) }

/-- The restart on one head, where nobody waits for a poll (R48, R68). -/
theorem restartHead_eq (hwait : s.pollWait h = []) (hwg : (s.account h).wg = grantedWindow (s.head h) (s.account h)) :
    s.restartHead h =
      (s.setHead h { s.head h with staged := none }).setAccount h (restartedAccount (s.head h) (s.account h)) := by
  have hacc : (s.modHead h fun x => { x with staged := none }).account h = s.account h := rfl
  have hlist : (s.account h).list.filter (fun r => r.kind != .prepared) =
      (s.account h).list.filter fun r => r.kind == .standing :=
    List.filter_congr fun r _ => by cases r.kind <;> rfl
  obtain ⟨hst, hpr⟩ := prepared_of_filter_standing (s.account h)
  unfold State.restartHead
  dsimp only
  rw [hacc]
  by_cases hnone : (s.account h).preparedOwners.isEmpty
  · have hall : ∀ r ∈ (s.account h).list, r.kind == .standing := by
      intro r hr
      cases hk : r.kind with
      | standing => rfl
      | prepared =>
        have hmem : r.owner ∈ (s.account h).preparedOwners :=
          List.mem_map_of_mem (List.mem_filter.mpr ⟨hr, by rw [hk]; rfl⟩)
        rw [List.isEmpty_iff.mp hnone] at hmem
        cases hmem
    have hfilter : (s.account h).list.filter (fun r => r.kind == .standing) = (s.account h).list :=
      List.filter_eq_self.mpr hall
    have hsame : restartedAccount (s.head h) (s.account h) = s.account h := by
      rw [hfilter] at hpr
      rw [grantedWindow, show (s.account h).prepared = 0 from hpr, Nat.sub_zero] at hwg
      rw [restartedAccount, hfilter, ← hwg]
    rw [if_pos hnone, hsame]
    exact (State.setAccount_account (s.setHead h { s.head h with staged := none }) h).symm
  · rw [if_neg hnone, fit_eq, State.passIfGrown, State.waitPass]
    have hwindow : grantedWindow ((s.setHead h { s.head h with staged := none }).head h)
        { s.account h with list := (s.account h).list.filter fun r => r.kind == .standing } =
        min (s.account h).wreq ((s.head h).effective - (s.account h).standing) := by
      rw [State.head_setHead_self, grantedWindow, hst, hpr]
      rfl
    have hpassed : ∀ v : State, waitPassFrom h [] v = v := fun _ => rfl
    have hdone : ∀ a : Account, (((s.modHead h fun x => { x with staged := none }).modAccount h fun a =>
        { a with list := a.list.filter fun r => r.kind != .prepared }).setAccount h a).pollWait h = [] := fun _ => hwait
    rw [hdone, hpassed, ite_self, State.modAccount, State.account_setAccount_self, State.setAccount_setAccount,
      State.head_setAccount]
    rw [hacc, hlist, State.modHead, hwindow]
    rfl

/-- The restart on the heads given, where nobody waits for a poll (R48, R68). -/
theorem restartHeads_eq {hs : List HeadIx} (hnodup : hs.Nodup) (hwait : ∀ h : HeadIx, s.pollWait h = [])
    (hwg : ∀ h : HeadIx, (s.account h).wg = grantedWindow (s.head h) (s.account h)) :
    let t := restartHeads hs s
    t = { s with heads := t.heads, airtime := t.airtime } ∧
      ∀ h : HeadIx, t.head h = (if h ∈ hs then { s.head h with staged := none } else s.head h) ∧
        t.account h = if h ∈ hs then restartedAccount (s.head h) (s.account h) else s.account h := by
  induction hs generalizing s with
  | nil => exact ⟨rfl, fun h => ⟨by rw [if_neg List.not_mem_nil]; rfl, by rw [if_neg List.not_mem_nil]; rfl⟩⟩
  | cons g hs ih =>
    obtain ⟨hg, hhs⟩ := List.nodup_cons.mp hnodup
    have hone := restartHead_eq (hwait g) (hwg g)
    have hhead : ∀ h, (s.restartHead g).head h = if h = g then { s.head h with staged := none } else s.head h := by
      intro h
      rw [hone, State.head_setAccount]
      split
      · next heq => subst heq; exact State.head_setHead_self _ _ _
      · next hne => exact State.head_setHead_of_ne _ _ hne
    have hacc : ∀ h, (s.restartHead g).account h =
        if h = g then restartedAccount (s.head h) (s.account h) else s.account h := by
      intro h
      rw [hone]
      split
      · next heq => subst heq; exact State.account_setAccount_self _ _ _
      · next hne => exact State.account_setAccount_of_ne _ _ hne
    have hwg' : ∀ h, ((s.restartHead g).account h).wg = grantedWindow ((s.restartHead g).head h) ((s.restartHead g).account h) := by
      intro h
      rw [hhead, hacc]
      split
      · obtain ⟨hst, hpr⟩ := prepared_of_filter_standing (s.account h)
        have hst' : (restartedAccount (s.head h) (s.account h)).standing = (s.account h).standing := hst
        have hpr' : (restartedAccount (s.head h) (s.account h)).prepared = 0 := hpr
        rw [grantedWindow, hst', hpr', Nat.sub_zero]
        rfl
      · exact hwg h
    intro t
    obtain ⟨hframe, hfields⟩ := ih hhs (s := s.restartHead g) (fun h => by rw [hone]; exact hwait h) hwg'
    have hlast : t = restartHeads hs (s.restartHead g) := rfl
    rw [← hlast] at hframe hfields
    clear_value t
    refine ⟨?_, fun h => ?_⟩
    · generalize t.heads = th at hframe
      generalize t.airtime = ta at hframe
      rw [hframe, hone]
      rfl
    · obtain ⟨hx, ha⟩ := hfields h
      rw [hhead] at hx
      rw [hacc, hhead] at ha
      rw [hx, ha]
      by_cases heq : h = g
      · subst heq
        simp [hg]
      · simp [heq]

/-! ### The whole restart -/

theorem allHeads_nodup : allHeads.Nodup := by decide

theorem mem_allHeads (h : HeadIx) : h ∈ allHeads := by revert h; decide

theorem Table.keys_nodup {α : Type} {m : Table α} (hm : m.wf n) : m.keys.Nodup :=
  List.pairwise_map.mpr (hm.1.imp fun h => Nat.ne_of_lt h)

/-- A table holds at most one for each of its slots. -/
theorem Table.length_le_of_wf {α : Type} {m : Table α} (hm : m.wf n) : m.length ≤ n := by
  have hsub : m.keys ⊆ List.range n := by
    intro k hk
    obtain ⟨e, he, rfl⟩ := List.mem_map.mp hk
    exact List.mem_range.mpr (hm.2 e he)
  have hle := (List.subperm_of_subset (Table.keys_nodup hm) hsub).length_le
  rwa [Table.keys, List.length_map, List.length_range] at hle

/-- The notices of a restart about all links, entry by entry. -/
theorem restartNotices_keys (hwf : s.links.wf n) :
    s.links.keys.flatMap s.restartNotices = s.links.flatMap fun e => e.2.stopNotices ++ e.2.endNotices (s.linkServing e.1) := by
  rw [Table.keys, List.flatMap_map]
  refine List.flatMap_congr fun e he => ?_
  rw [State.restartNotices, Table.get?_of_mem hwf he]

theorem length_linkNotices_le (x : CraneLink) (serving : Option HeadIx) :
    (x.stopNotices ++ x.endNotices serving).length ≤ 2 := by
  unfold CraneLink.stopNotices CraneLink.endNotices
  split <;> cases x.phase.target? <;> simp

theorem length_flatMap_le {α β : Type} (m : List α) (f : α → List β) (k : Nat) (hf : ∀ e ∈ m, (f e).length ≤ k) :
    (m.flatMap f).length ≤ m.length * k := by
  rw [List.length_flatMap]
  exact (List.sum_le_card_nsmul _ k (by simpa using hf)).trans (by simp)

/-- What a notice of a restart about a link says. -/
theorem mem_linkNotices {x : CraneLink} {serving : Option HeadIx} {m : Notice} (hm : m ∈ x.stopNotices ++ x.endNotices serving) :
    m.subject = .context x.owner ∧
      (m.content = .craneState .safeStop (some .restart) ∨ ∃ serving g, m.content = .handoverFailed serving g .restart) := by
  rcases List.mem_append.mp hm with hm | hm
  · unfold CraneLink.stopNotices at hm
    split at hm
    · rw [List.mem_singleton.mp hm]
      exact ⟨rfl, .inl rfl⟩
    · cases hm
  · unfold CraneLink.endNotices at hm
    cases hp : x.phase.target? with
    | none => rw [hp] at hm; cases hm
    | some g =>
      rw [hp] at hm
      rw [List.mem_singleton.mp hm]
      exact ⟨rfl, .inr ⟨_, _, rfl⟩⟩

/-- The two notices of a restart about a link are of different kinds. -/
theorem linkNotices_distinct (x : CraneLink) (serving : Option HeadIx) :
    (x.stopNotices ++ x.endNotices serving).Pairwise fun a b => a.matches b = false := by
  unfold CraneLink.stopNotices CraneLink.endNotices
  cases x.phase.target? <;> split <;> simp [Notice.matches, NoticeContent.kind]

/-- Two link records have two owners (R3). -/
theorem owner_ne_of_ne (hown : s.ownershipLaw) {d e : Nat × CraneLink} (hd : d ∈ s.links) (he : e ∈ s.links) (hne : d.1 ≠ e.1) :
    d.2.owner ≠ e.2.owner := by
  obtain ⟨-, -, -, hlinks, -⟩ := hown
  intro howner
  have hdx := hlinks d hd
  have hex := hlinks e he
  rw [← howner] at hex
  cases hc : s.contexts.get? d.2.owner with
  | none => rw [hc] at hdx; cases hdx
  | some c =>
    rw [hc] at hdx hex
    simp only [Option.any_some, Bool.and_eq_true, beq_iff_eq] at hdx hex
    exact hne (Option.some.inj (hdx.2.symm.trans hex.2))

/-- The notices of a restart: no two are of one kind and subject (R3). -/
theorem restartNotices_distinct (hwf : s.links.wf n) (hown : s.ownershipLaw) :
    (s.links.flatMap fun e => e.2.stopNotices ++ e.2.endNotices (s.linkServing e.1)).Pairwise
      fun a b => a.matches b = false := by
  refine List.pairwise_flatMap.mpr ⟨fun e _ => linkNotices_distinct e.2 _, ?_⟩
  refine hwf.1.imp_of_mem fun hd he hlt m hm m' hm' => ?_
  obtain ⟨hsubject, -⟩ := mem_linkNotices hm
  obtain ⟨hsubject', -⟩ := mem_linkNotices hm'
  have hne := owner_ne_of_ne hown hd he (Nat.ne_of_lt hlt)
  rw [Notice.matches, hsubject, hsubject']
  simp [hne]

/-- The restart whole: the work in progress gone, then the heads, the links and their notices (R166). -/
theorem takeRestart_eq (htables : s.tablesLaw)
    (hwg : ∀ h : HeadIx, (s.account h).wg = grantedWindow (s.head h) (s.account h)) :
    let t := takeRestart s
    let ns := s.links.flatMap fun e => e.2.stopNotices ++ e.2.endNotices (s.linkServing e.1)
    (∀ h : HeadIx, t.head h = { s.head h with staged := none } ∧ t.account h = restartedAccount (s.head h) (s.account h)) ∧
      t = { ({ s with notices := [] } : State).postAll ns with
        inflight := [], restartCause := .warm, heads := t.heads, airtime := t.airtime
        links := s.links.mapAll CraneLink.behindRestart, reefers := s.restartReefers.reefers
        pageQueues := Vector.replicate 24 [], pollWaits := Vector.replicate 24 [] } := by
  intro t ns
  obtain ⟨-, hwf, -⟩ := htables
  obtain ⟨u, hu⟩ : ∃ u, u = ({ s with inflight := [], notices := [], restartCause := .warm } : State).restartReefers := ⟨_, rfl⟩
  obtain ⟨hframe, hfields⟩ := restartHeads_eq (s := u) allHeads_nodup (by rw [hu]; intro h; exact Vector.getElem_replicate _)
    (by rw [hu]; exact hwg)
  have ht : t = restartLinks (restartHeads allHeads u).links.keys (restartHeads allHeads u) := by rw [hu]; rfl
  generalize restartHeads allHeads u = v at hframe hfields ht
  have hlinks : v.links = s.links := by rw [hframe, hu]; rfl
  have hcontexts : v.contexts = s.contexts := by rw [hframe, hu]; rfl
  rw [hlinks, restartLinks_eq (hlinks ▸ hwf) (Table.keys_nodup hwf)] at ht
  have hnotices : s.links.keys.flatMap v.restartNotices = ns :=
    (List.flatMap_congr fun l _ => restartNotices_congr (by rw [hlinks]) hcontexts).trans (restartNotices_keys hwf)
  have hmap : v.links.map (fun e => if e.1 ∈ s.links.keys then (e.1, e.2.behindRestart) else e) =
      s.links.mapAll CraneLink.behindRestart := by
    rw [hlinks]
    exact List.map_congr_left fun e he => if_pos (List.mem_map_of_mem he)
  have hpost := (posts_postAll ns).at (v := { s with notices := [] }) (w := v) (by rw [hframe, hu]; rfl) (by rw [hframe, hu]; rfl)
  rw [hnotices, hmap, hpost] at ht
  clear_value t ns
  refine ⟨fun h => ?_, ?_⟩
  · obtain ⟨hx, ha⟩ := hfields h
    rw [if_pos (mem_allHeads h)] at hx ha
    rw [ht]
    rw [hu] at hx ha
    exact ⟨hx, ha⟩
  · have hheads : t.heads = v.heads := by rw [ht]
    have hairtime : t.airtime = v.airtime := by rw [ht]
    rw [hheads, hairtime, ht, (posts_postAll ns).frame]
    generalize v.heads = vh at hframe
    generalize v.airtime = va at hframe
    rw [hframe, hu]
    rfl

/-- Settles O48. -/
theorem restartKeepsRecordsAndDropsWork : Obligations.RestartKeepsRecordsAndDropsWork := by
  intro r s hpart hbare htables hair
  obtain ⟨hfields, hframe⟩ := takeRestart_eq htables fun h => (hair h).1
  obtain ⟨t, ht⟩ : ∃ t, t = takeRestart s := ⟨_, rfl⟩
  rw [← ht] at hfields hframe
  obtain ⟨ns, hns⟩ : ∃ ns, ns = s.links.flatMap fun e => e.2.stopNotices ++ e.2.endNotices (s.linkServing e.1) := ⟨_, rfl⟩
  rw [← hns] at hframe
  obtain ⟨-, hwf, -⟩ := htables
  have hroom : ({ s with notices := [] } : State).notices.length + ns.length ≤ Config.noticeEntries := by
    have hle := length_flatMap_le s.links (fun e => e.2.stopNotices ++ e.2.endNotices (s.linkServing e.1)) 2
      fun e _ => length_linkNotices_le _ _
    have hlinks := Table.length_le_of_wf hwf
    rw [← hns] at hle
    simp only [Config.craneLinks, Config.noticeEntries, List.length_nil] at *
    omega
  obtain ⟨hoverflow, hmem⟩ := postAll_with_room hroom
  have hnotices : t.notices = (({ s with notices := [] } : State).postAll ns).notices := by rw [hframe]
  have hrestart : t.restartCause = .warm := by rw [hframe]
  have hinflight : t.inflight = [] := by rw [hframe]
  refine ⟨t, ?_, hinflight, hrestart, ?_, fun h => ?_, ?_, by rw [hframe]; rfl, fun m hm => ?_, fun hown => ?_, ?_⟩
  · have hexec : exec (.restart r) s = execRestart r s := rfl
    rw [hexec, execRestart, partTarget_of_namesPart hpart (carries_bare hbare rfl), ht]
    rfl
  · rw [hframe, (posts_postAll ns).frame]
  · obtain ⟨hx, ha⟩ := hfields h
    have hqueue : t.pageQueue h = [] := by
      rw [hframe]
      exact Vector.getElem_replicate _
    have hwait : t.pollWait h = [] := by
      rw [hframe]
      exact Vector.getElem_replicate _
    rw [ha]
    exact ⟨hx, hqueue, hwait, rfl, rfl, rfl, rfl⟩
  · rw [hframe]
    refine List.map_congr_left fun e _ => ?_
    unfold CraneLink.behindRestart
    split <;> rfl
  · rw [hnotices] at hm
    rcases hmem m hm with hm | hm
    · cases hm
    · rw [hns] at hm
      obtain ⟨e, he, hm⟩ := List.mem_flatMap.mp hm
      obtain ⟨hsubject, hcontent⟩ := mem_linkNotices hm
      exact ⟨e, he, hsubject, hcontent⟩
  · have hdistinct := restartNotices_distinct hwf hown
    rw [← hns] at hdistinct
    rw [hnotices, postAll_of_distinct hroom hdistinct, hns]
    rfl
  · rw [(posts_postAll ns).frame, hoverflow, ← hnotices] at hframe
    generalize t.notices = tn at *
    generalize t.heads = th at *
    generalize t.airtime = ta at *
    rw [hframe]

end Sys2Proof.Machine
end

section
/-! The laws of pages and polls (R60, R146, R148) with the serving heads given apart: what one record's change asks of
them. Between the steps of one command the heads may have moved while a page or a wait has yet to follow. -/

namespace Sys2Proof.Machine

variable {s t u : State} {f f' : Nat → Option HeadIx} {i n : Nat} {h : HeadIx} {r : Reefer} {g : Reefer → Reefer}
  {x : HeadIx → Prop}

/-! ### Queues by head -/

section
variable {q q' : HeadIx → List Nat} {p p' : Nat → Bool}

/-- The records that satisfy `p` stand once each in the queue of their head, `f`, and each has one. -/
structure Listed (q : HeadIx → List Nat) (f : Nat → Option HeadIx) (p : Nat → Bool) : Prop where
  nodup : ∀ h, (q h).Nodup
  mem : ∀ h i, i ∈ q h ↔ f i = some h ∧ p i = true
  served : ∀ i, p i = true → (f i).isSome

/-- Lists of which each element names its list have no element twice, all together, when none has one twice. -/
theorem nodup_flatMap_of_named (hq : ∀ h, (q h).Nodup) (hf : ∀ h, ∀ i ∈ q h, f i = some h) : (allHeads.flatMap q).Nodup := by
  refine List.nodup_flatMap.mpr ⟨fun h _ => hq h, ?_⟩
  refine allHeads_nodup.imp fun {a b} hne i ha hb => ?_
  exact hne (Option.some.inj ((hf a i ha).symm.trans (hf b i hb)))

theorem listed_iff : Listed q f p ↔ (allHeads.flatMap q).Nodup ∧ (∀ h, ∀ i ∈ q h, f i = some h ∧ p i = true) ∧
    ∀ i, p i = true → ((f i).any fun h => (q h).contains i) = true := by
  constructor
  · rintro ⟨hnodup, hmem, hserved⟩
    refine ⟨nodup_flatMap_of_named hnodup fun h i hi => ((hmem h i).mp hi).1, fun h i => (hmem h i).mp, fun i hi => ?_⟩
    obtain ⟨h, hh⟩ := Option.isSome_iff_exists.mp (hserved i hi)
    rw [hh]
    exact List.contains_iff_mem.mpr ((hmem h i).mpr ⟨hh, hi⟩)
  · rintro ⟨hnodup, hmem, hall⟩
    refine ⟨fun h => (List.nodup_flatMap.mp hnodup).1 h (mem_allHeads h), fun h i => ⟨hmem h i, fun ⟨hf, hp⟩ => ?_⟩, fun i hi => ?_⟩
    · have := hall i hp
      rw [hf] at this
      exact List.contains_iff_mem.mp this
    · cases hf : f i with
      | none => have := hall i hi; rw [hf] at this; cases this
      | some h => rfl

/-- The head of a record that does not satisfy `p` does not matter. -/
theorem Listed.rehead (l : Listed q f p) (hf : ∀ i, p i = true → f' i = f i) : Listed q f' p := by
  refine ⟨l.nodup, fun h i => (l.mem h i).trans (and_congr_left fun hp => by rw [hf i hp]), fun i hp => ?_⟩
  rw [hf i hp]
  exact l.served i hp

theorem Listed.congr (l : Listed q f p) (hq : ∀ h, q' h = q h) (hf : ∀ i, f' i = f i) (hp : ∀ i, p' i = p i) :
    Listed q' f' p' := by
  obtain rfl : q' = q := funext hq
  obtain rfl : f' = f := funext hf
  obtain rfl : p' = p := funext hp
  exact l

/-- One record's change. -/
theorem Listed.change (l : Listed q f p) (hf : ∀ j, j ≠ i → f' j = f j) (hp : ∀ j, j ≠ i → p' j = p j)
    (hq : ∀ h, ∀ j, j ≠ i → (j ∈ q' h ↔ j ∈ q h)) (hnodup : ∀ h, (q' h).Nodup)
    (hmem : ∀ h, i ∈ q' h ↔ f' i = some h ∧ p' i = true) (hserved : p' i = true → (f' i).isSome) : Listed q' f' p' := by
  refine ⟨hnodup, fun h j => ?_, fun j hj => ?_⟩
  · by_cases hji : j = i
    · exact hji ▸ hmem h
    · rw [hq h j hji, hf j hji, hp j hji]
      exact l.mem h j
  · by_cases hji : j = i
    · subst hji
      exact hserved hj
    · rw [hf j hji]
      exact l.served j (hp j hji ▸ hj)

/-- A record leaves every queue; which head it has does not matter then. -/
theorem Listed.leave (l : Listed q f p) (hf : ∀ j, j ≠ i → f' j = f j) (hp : ∀ j, j ≠ i → p' j = p j) (hi : p' i = false)
    (hq : ∀ h, q' h = (q h).filter (· != i)) : Listed q' f' p' := by
  refine l.change hf hp (fun h j hj => ?_) (fun h => ?_) (fun h => ?_) fun hp => by rw [hi] at hp; cases hp
  · simp [hq, hj]
  · rw [hq]
    exact (l.nodup h).filter _
  · simp [hq, hi]

/-- A record that stands in none joins the queue of its head. -/
theorem Listed.join (l : Listed q f p) (hf : ∀ j, j ≠ i → f' j = f j) (hp : ∀ j, j ≠ i → p' j = p j) (hold : p i = false)
    (hhead : f' i = some h) (hi : p' i = true) (hself : q' h = q h ++ [i]) (hq : ∀ g, g ≠ h → q' g = q g) : Listed q' f' p' := by
  have hout : ∀ g, i ∉ q g := fun g hg => by
    have := ((l.mem g i).mp hg).2
    rw [hold] at this
    cases this
  refine l.change hf hp (fun g j hj => ?_) (fun g => ?_) (fun g => ?_) fun _ => by rw [hhead]; rfl
  · by_cases hg : g = h
    · subst hg
      rw [hself]
      simp [hj]
    · rw [hq g hg]
  · by_cases hg : g = h
    · subst hg
      rw [hself]
      exact List.nodup_append.mpr ⟨l.nodup g, List.nodup_singleton i, fun a ha b hb => by
        rintro rfl
        exact hout g (List.mem_singleton.mp hb ▸ ha)⟩
    · rw [hq g hg]
      exact l.nodup g
  · by_cases hg : g = h
    · subst hg
      simp [hself, hhead, hi]
    · rw [hq g hg, hhead]
      exact ⟨fun hin => absurd hin (hout g), fun ⟨he, _⟩ => absurd (Option.some.inj he).symm hg⟩

end

/-! ### Pages -/

/-- Record `i` has a page pending. -/
def State.paged (s : State) (i : Nat) : Bool := (s.reefers.get? i).any fun r => r.page.isSome

/-- R148 with the serving heads `f`. -/
def State.pagesFor (s : State) (f : Nat → Option HeadIx) : Prop :=
  (∀ h : HeadIx, (s.pageQueue h).length ≤ Config.pageEntries) ∧ Listed s.pageQueue f s.paged

theorem forall_records_iff (hwf : s.reefers.wf n) (p : Nat → Reefer → Prop) :
    (∀ e ∈ s.reefers, p e.1 e.2) ↔ ∀ i r, s.reefers.get? i = some r → p i r :=
  ⟨fun hall i r hr => hall (i, r) (Table.mem_of_get? hr), fun hall e he => hall e.1 e.2 (Table.get?_of_mem hwf he)⟩

theorem any_record_iff (s : State) (p : Reefer → Bool) (i : Nat) (c : Prop) :
    ((s.reefers.get? i).any p = true → c) ↔ ∀ r, s.reefers.get? i = some r → p r = true → c := by
  cases s.reefers.get? i <;> simp

/-- The law of the pages is the one with the serving heads as they are. -/
theorem pageLaw_iff (hwf : s.reefers.wf n) : s.pageLaw ↔ s.pagesFor s.reeferServing := by
  unfold State.pageLaw State.pagesFor State.paged
  rw [listed_iff, forall_records_iff hwf fun i r => r.page.isSome → ((s.reeferServing i).any fun h => (s.pageQueue h).contains i) = true]
  simp only [any_record_iff]

/-! ### Polls -/

/-- Record `i` waits for a poll. -/
def State.waits (s : State) (i : Nat) : Bool := (s.reefers.get? i).any fun r => r.poll == .waiting

/-- The poll was sent by head `h` and is outstanding. -/
def Poll.sentBy (h : HeadIx) : Poll → Bool
  | .outstanding g _ => g == h
  | _ => false

/-- The polls outstanding of a head. -/
def State.sent (s : State) (h : HeadIx) : Nat := s.reefers.countP fun e => e.2.poll.sentBy h

/-- R60 and R146 with the serving heads `f`, the counts being those of the heads in `x`. -/
structure State.pollsFor (s : State) (f : Nat → Option HeadIx) (x : HeadIx → Prop) : Prop where
  listed : Listed s.pollWait f s.waits
  awake : ∀ i r, s.reefers.get? i = some r → r.doze ≠ .awake → r.poll = .none
  counts : ∀ h : HeadIx, x h → (s.account h).polls = s.sent h

/-- The law of the polls is the one with the serving heads as they are. -/
theorem pollLaw_iff (hwf : s.reefers.wf n) : s.pollLaw ↔ s.pollsFor s.reeferServing fun _ => True := by
  have hparts : s.pollsFor s.reeferServing (fun _ => True) ↔ Listed s.pollWait s.reeferServing s.waits ∧
      (∀ i r, s.reefers.get? i = some r → r.doze ≠ .awake → r.poll = .none) ∧ ∀ h : HeadIx, (s.account h).polls = s.sent h :=
    ⟨fun ⟨a, b, c⟩ => ⟨a, b, fun h => c h trivial⟩, fun ⟨a, b, c⟩ => ⟨a, b, fun h _ => c h⟩⟩
  unfold State.pollLaw
  rw [hparts, listed_iff, forall_records_iff hwf fun i r => r.poll = .waiting → ((s.reeferServing i).any fun h => (s.pollWait h).contains i) = true,
    forall_records_iff hwf fun i r => r.doze ≠ .awake → r.poll = .none]
  unfold State.waits
  simp only [any_record_iff, beq_iff_eq, and_assoc]
  rfl

/-! ### One record changed -/

section
variable (ht : t.reefers = s.reefers.modify i g)
include ht

theorem any_of_modify (p : Reefer → Bool) (j : Nat) (hj : j ≠ i) : (t.reefers.get? j).any p = (s.reefers.get? j).any p := by
  rw [ht, Table.get?_modify_of_ne _ _ hj]

theorem any_of_modify_self (p : Reefer → Bool) (hr : s.reefers.get? i = some r) : (t.reefers.get? i).any p = p (g r) := by
  rw [ht, Table.get?_modify_self, hr]
  rfl

theorem paged_of_modify (hpage : ∀ r, s.reefers.get? i = some r → (g r).page.isSome = r.page.isSome) (j : Nat) :
    t.paged j = s.paged j := by
  by_cases hj : j = i
  · subst hj
    cases hr : s.reefers.get? j with
    | none => rw [State.paged, State.paged, ht, Table.get?_modify_self, hr]; rfl
    | some r => rw [State.paged, any_of_modify_self ht _ hr, hpage r hr, State.paged, hr]; rfl
  · exact any_of_modify ht _ j hj

theorem waits_of_modify (hpoll : ∀ r, s.reefers.get? i = some r → (g r).poll = r.poll) (j : Nat) : t.waits j = s.waits j := by
  by_cases hj : j = i
  · subst hj
    cases hr : s.reefers.get? j with
    | none => rw [State.waits, State.waits, ht, Table.get?_modify_self, hr]; rfl
    | some r => rw [State.waits, any_of_modify_self ht _ hr, hpoll r hr, State.waits, hr]; rfl
  · exact any_of_modify ht _ j hj

/-- The polls a head has outstanding, when one record's poll changes. -/
theorem sent_of_modify (hwf : s.reefers.wf n) (hr : s.reefers.get? i = some r) (h : HeadIx) :
    t.sent h + (r.poll.sentBy h).toNat = s.sent h + ((g r).poll.sentBy h).toNat := by
  unfold State.sent
  rw [ht]
  clear ht
  obtain ⟨hkeys, -⟩ := hwf
  generalize s.reefers = m at *
  induction m with
  | nil => cases hr
  | cons e m ih =>
    obtain ⟨j, x⟩ := e
    obtain ⟨hhead, hkeys⟩ := List.pairwise_cons.mp hkeys
    rw [Table.get?] at hr
    by_cases hj : i = j
    · rw [if_pos hj] at hr
      cases hr
      have hsame : Table.modify m i g = m := by
        refine (List.map_congr_left fun d hd => if_neg fun heq => ?_).trans (List.map_id m)
        have := hhead d hd
        simp only at this
        omega
      rw [Table.modify, List.map_cons, if_pos hj.symm, List.countP_cons, List.countP_cons]
      rw [Table.modify] at hsame
      rw [hsame]
      cases (r.poll.sentBy h) <;> cases ((g r).poll.sentBy h) <;> simp
    · rw [if_neg hj] at hr
      have hrest := ih hr hkeys
      rw [Table.modify, List.map_cons, if_neg (Ne.symm hj), List.countP_cons, List.countP_cons]
      rw [Table.modify] at hrest
      omega

end

/-- One record's poll changes. -/
theorem State.pollsFor.change (hs : s.pollsFor f x) (ht : t.reefers = s.reefers.modify i g) (hr : s.reefers.get? i = some r)
    (hlisted : Listed t.pollWait f' t.waits) (hdoze : (g r).doze ≠ .awake → (g r).poll = .none)
    (hcounts : ∀ h, x h → (t.account h).polls = t.sent h) : t.pollsFor f' x := by
  refine ⟨hlisted, fun j y hy hawake => ?_, hcounts⟩
  rw [ht] at hy
  by_cases hj : j = i
  · subst hj
    rw [Table.get?_modify_self, hr] at hy
    cases hy
    exact hdoze hawake
  · rw [Table.get?_modify_of_ne _ _ hj] at hy
    exact hs.awake j y hy hawake

/-! ### Polls sent, awaited and ended -/

/-- Every record has its context. -/
def State.reefersOwned (s : State) : Prop := ∀ i, (s.reefers.get? i).isSome → (s.reeferContext i).isSome

theorem waits_eq_true : s.waits i = true ↔ ∃ r, s.reefers.get? i = some r ∧ r.poll = .waiting := by
  unfold State.waits
  cases s.reefers.get? i <;> simp

/-- A poll goes out through the head of the reefer, whose wait, if it had one, is over (R146, R147). -/
theorem pollsFor_sendPoll {c : Context} (hs : s.pollsFor f x) (hwf : s.reefers.wf n) (hr : s.reefers.get? i = some r)
    (hctx : s.reeferContext i = some c) (hawake : r.doze = .awake) (hnotsent : ∀ k, r.poll.sentBy k = false)
    (hwait : ∀ k j, j ≠ i → (j ∈ t.pollWait k ↔ j ∈ s.pollWait k)) (hout : ∀ k, i ∉ t.pollWait k)
    (hnodup : ∀ k, (t.pollWait k).Nodup)
    (ht : t = { s with pollWaits := t.pollWaits }) : (t.sendPoll h i).pollsFor f x := by
  have hctx' : t.reeferContext i = some c := by rw [ht]; exact hctx
  have hrecords : (t.sendPoll h i).reefers = s.reefers.modify i fun r => { r with poll := .outstanding h s.settings.pollLimit } := by
    rw [sendPoll_eq hctx', ht]
    rfl
  have hwaits : ∀ k, (t.sendPoll h i).pollWait k = t.pollWait k := fun k => by rw [sendPoll_eq hctx']; rfl
  refine hs.change hrecords hr (hs.listed.change (i := i) (fun _ _ => rfl) (fun j hj => any_of_modify hrecords _ j hj) ?_ ?_ ?_ ?_)
    (fun hne => absurd hawake hne) fun k hx => ?_
  · exact fun k j hj => by rw [hwaits]; exact hwait k j hj
  · exact fun k => by rw [hwaits]; exact hnodup k
  · intro k
    rw [hwaits, State.waits, any_of_modify_self hrecords _ hr]
    simp [hout]
  · rw [State.waits, any_of_modify_self hrecords _ hr]
    exact nofun
  · have hsent := sent_of_modify hrecords hwf hr k
    have hacc : ((t.sendPoll h i).account k).polls = (s.account k).polls + (decide (h = k)).toNat := by
      have hbase : ∀ k, t.account k = s.account k := fun k => by rw [ht]; rfl
      rw [sendPoll_eq hctx']
      by_cases hk : h = k
      · subst hk
        show ((t.setAccount h _).account h).polls = _
        rw [State.account_setAccount_self, hbase]
        simp
      · show ((t.setAccount h _).account k).polls = _
        rw [State.account_setAccount_of_ne _ _ (Ne.symm hk), hbase]
        simp [hk]
    have hnew : (Poll.outstanding h s.settings.pollLimit).sentBy k = decide (h = k) := rfl
    have hcount := hs.counts k hx
    rw [hnotsent, hnew] at hsent
    simp only [Bool.toNat_false] at hsent
    omega

theorem pollsFor_waitPassFrom (h : HeadIx) (q : List Nat) (s : State) (hq : s.pollWait h = q) (hs : s.pollsFor f x)
    (hwf : s.reefers.wf n) (howned : s.reefersOwned) : (waitPassFrom h q s).pollsFor f x := by
  induction q generalizing s with
  | nil => exact hs
  | cons i rest ih =>
    unfold waitPassFrom
    split
    · next hc =>
      have hmem : i ∈ s.pollWait h := hq ▸ List.mem_cons_self
      obtain ⟨hhead, hwaits⟩ := (hs.listed.mem h i).mp hmem
      obtain ⟨r, hr, hpoll⟩ := waits_eq_true.mp hwaits
      obtain ⟨c, hctx⟩ := Option.isSome_iff_exists.mp (howned i (by rw [hr]; rfl))
      have hnodup := hs.listed.nodup h
      rw [hq] at hnodup
      obtain ⟨hi, hrest⟩ := List.nodup_cons.mp hnodup
      have hawake : r.doze = .awake := by
        by_contra hne
        rw [hs.awake i r hr hne] at hpoll
        cases hpoll
      have hsent : ((s.setPollWait h rest).sendPoll h i).pollsFor f x := by
        refine pollsFor_sendPoll hs hwf hr hctx hawake (fun k => by rw [hpoll]; rfl) ?_ ?_ ?_ rfl
        · intro k j hj
          by_cases hk : k = h
          · subst hk
            rw [State.pollWait_setPollWait_self, hq]
            simp [hj]
          · rw [State.pollWait_setPollWait_of_ne _ _ hk]
        · intro k hk
          by_cases hkh : k = h
          · subst hkh
            rw [State.pollWait_setPollWait_self] at hk
            exact hi hk
          · rw [State.pollWait_setPollWait_of_ne _ _ hkh] at hk
            exact hkh (Option.some.inj (((hs.listed.mem k i).mp hk).1.symm.trans hhead))
        · intro k
          by_cases hk : k = h
          · subst hk
            rw [State.pollWait_setPollWait_self]
            exact hrest
          · rw [State.pollWait_setPollWait_of_ne _ _ hk]
            exact hs.listed.nodup k
      have hthrough := polledThrough_sendPoll hq hc
      have hctx' : (s.setPollWait h rest).reeferContext i = some c := hctx
      refine ih _ ?_ hsent ?_ fun j hj => ?_
      · rw [sendPoll_eq hctx']
        exact State.pollWait_setPollWait_self _ h rest
      · rw [sendPoll_eq hctx']
        exact Table.modify_wf i (fun r => { r with poll := .outstanding h s.settings.pollLimit }) hwf
      · rw [hthrough.reeferContext]
        refine howned j ?_
        obtain ⟨-, hrecords, -⟩ := hthrough
        have := congrArg Option.isSome (hrecords j)
        simp only [Option.isSome_map] at this
        rwa [← this]
    · exact hs

/-- A wait-list pass keeps the law of the polls (R147). -/
theorem pollsFor_waitPass (hs : s.pollsFor f x) (hwf : s.reefers.wf n) (howned : s.reefersOwned) (h : HeadIx) :
    (s.waitPass h).pollsFor f x :=
  pollsFor_waitPassFrom h _ s rfl hs hwf howned

/-- A poll asked for an AWAKE reefer goes out or waits (R146). -/
theorem pollsFor_makePoll (hs : s.pollsFor s.reeferServing x) (hwf : s.reefers.wf n) (howned : s.reefersOwned)
    (hawake : ∀ r, s.reefers.get? i = some r → r.doze = .awake) : (s.makePoll i).pollsFor s.reeferServing x := by
  unfold State.makePoll
  cases hr : s.reefers.get? i with
  | none => exact hs
  | some r =>
    cases hserving : s.reeferServing i with
    | none => exact hs
    | some h =>
      dsimp only
      split
      · next hpoll =>
        have hnot : s.waits i = false := by rw [State.waits, hr]; simp [hpoll]
        have hout : ∀ k, i ∉ s.pollWait k := fun k hk => by
          have := ((hs.listed.mem k i).mp hk).2
          rw [hnot] at this
          cases this
        split
        · obtain ⟨c, hctx⟩ := Option.isSome_iff_exists.mp (howned i (by rw [hr]; rfl))
          exact pollsFor_sendPoll hs hwf hr hctx (hawake r hr) (fun k => by rw [hpoll]; rfl) (fun _ _ _ => Iff.rfl) hout
            hs.listed.nodup rfl
        · have hrecords : ((s.setPollWait h (s.pollWait h ++ [i])).modReefer i fun r => { r with poll := .waiting }).reefers =
              s.reefers.modify i fun r => { r with poll := .waiting } := rfl
          refine hs.change hrecords hr ?_ (fun hne => absurd (hawake r hr) hne) fun k hx => ?_
          · refine hs.listed.join (fun _ _ => rfl) (fun j hj => any_of_modify hrecords _ j hj) hnot hserving ?_ ?_ ?_
            · rw [State.waits, any_of_modify_self hrecords _ hr]
              rfl
            · exact State.pollWait_setPollWait_self _ _ _
            · exact fun k hk => State.pollWait_setPollWait_of_ne _ _ hk
          · have hsent := sent_of_modify hrecords hwf hr k
            have hold : r.poll.sentBy k = false := by rw [hpoll]; rfl
            have hnew : Poll.waiting.sentBy k = false := rfl
            rw [hold, hnew] at hsent
            have hcount := hs.counts k hx
            show (s.account k).polls = _
            omega
      · exact hs

/-- An outstanding poll ends, and its credit is back (R60). -/
theorem pollsFor_creditBack {k : HeadIx} {m : Nat} (hs : s.pollsFor f x) (hwf : s.reefers.wf n)
    (hr : s.reefers.get? i = some r) (hpoll : r.poll = .outstanding k m) :
    ((s.modReefer i fun r => { r with poll := .none }).modAccount k fun a => { a with polls := a.polls - 1 }).pollsFor f x := by
  have hrecords : ((s.modReefer i fun r => { r with poll := .none }).modAccount k fun a => { a with polls := a.polls - 1 }).reefers =
      s.reefers.modify i fun r => { r with poll := .none } := rfl
  have hsame : s.waits i = false := by rw [State.waits, hr]; simp [hpoll]
  have hnone : ((s.modReefer i fun r => { r with poll := .none }).modAccount k fun a => { a with polls := a.polls - 1 }).waits i = false := by
    rw [State.waits, any_of_modify_self hrecords _ hr]
    rfl
  refine hs.change hrecords hr (hs.listed.congr (fun _ => rfl) (fun _ => rfl) fun j => ?_) (fun _ => rfl) fun h hx => ?_
  · by_cases hj : j = i
    · rw [hj, hsame, hnone]
    · exact any_of_modify hrecords _ j hj
  · have hsent := sent_of_modify hrecords hwf hr h
    have hnew : Poll.none.sentBy h = false := rfl
    rw [hpoll, hnew] at hsent
    have hcount := hs.counts h hx
    by_cases hk : h = k
    · subst hk
      have hold : (Poll.outstanding h m).sentBy h = true := beq_self_eq_true h
      rw [hold] at hsent
      show (((s.modReefer i _).setAccount h _).account h).polls = _
      rw [State.account_setAccount_self]
      simp only [Bool.toNat_true, Bool.toNat_false] at hsent
      show (s.account h).polls - 1 = _
      omega
    · have hold : (Poll.outstanding k m).sentBy h = false := beq_false_of_ne (Ne.symm hk)
      rw [hold] at hsent
      show (((s.modReefer i _).setAccount k _).account h).polls = _
      rw [State.account_setAccount_of_ne _ _ hk]
      show (s.account h).polls = _
      omega

/-- A reefer leaves the wait lists with its wait (R147). -/
theorem pollsFor_endWait (hs : s.pollsFor f x) (hwf : s.reefers.wf n) (hr : s.reefers.get? i = some r)
    (hpoll : r.poll = .waiting) : ((s.leaveWaitLists i).modReefer i fun r => { r with poll := .none }).pollsFor f x := by
  have hrecords : ((s.leaveWaitLists i).modReefer i fun r => { r with poll := .none }).reefers =
      s.reefers.modify i fun r => { r with poll := .none } := rfl
  refine hs.change hrecords hr ?_ (fun _ => rfl) fun h hx => ?_
  · refine hs.listed.leave (i := i) (fun _ _ => rfl) (fun j hj => any_of_modify hrecords _ j hj) ?_ fun h => get_mapEach _ _ h
    rw [State.waits, any_of_modify_self hrecords _ hr]
    rfl
  · have hsent := sent_of_modify hrecords hwf hr h
    have hold : r.poll.sentBy h = false := by rw [hpoll]; rfl
    have hnew : Poll.none.sentBy h = false := rfl
    rw [hold, hnew] at hsent
    have hcount := hs.counts h hx
    show (s.account h).polls = _
    omega

theorem reefersOwned_of_modify (howned : s.reefersOwned) (ht : t.reefers = s.reefers.modify i g)
    (hc : t.contexts = s.contexts) (hg : ∀ r, (g r).owner = r.owner) : t.reefersOwned := by
  intro j hj
  have howner : (t.reefers.get? j).map (·.owner) = (s.reefers.get? j).map (·.owner) := by
    rw [ht, Table.get?_modify]
    split
    · rw [Option.map_map]
      exact congrArg (fun g => (s.reefers.get? j).map g) (funext hg)
    · rfl
  have hbind (v : State) : v.reeferContext j = ((v.reefers.get? j).map (·.owner)).bind v.contexts.get? := by
    rw [State.reeferContext, Option.bind_map]
    rfl
  have hsome := congrArg Option.isSome howner
  simp only [Option.isSome_map] at hsome
  rw [hbind, howner, hc, ← hbind]
  exact howned j (hsome ▸ hj)

/-- A credit back, and the pass it runs (R60, R147). -/
theorem pollsFor_returnCredit {k : HeadIx} {m : Nat} (hs : s.pollsFor f x) (hwf : s.reefers.wf n) (howned : s.reefersOwned)
    (hr : s.reefers.get? i = some r) (hpoll : r.poll = .outstanding k m) :
    ((s.modReefer i fun r => { r with poll := .none }).returnCredit k).pollsFor f x := by
  refine pollsFor_waitPass (n := n) (pollsFor_creditBack hs hwf hr hpoll) ?_ ?_ k
  · exact Table.modify_wf i (fun r => { r with poll := .none }) hwf
  · exact reefersOwned_of_modify howned (g := fun r => { r with poll := .none }) rfl rfl fun _ => rfl

/-- The poll of a record ends (R147). -/
theorem pollsFor_endPoll (hs : s.pollsFor f x) (hwf : s.reefers.wf n) (howned : s.reefersOwned) (i : Nat) :
    (s.endPoll i).pollsFor f x := by
  unfold State.endPoll
  cases hr : s.reefers.get? i with
  | none => exact hs
  | some r =>
    dsimp only
    cases hpoll : r.poll with
    | none => exact hs
    | outstanding k m => exact pollsFor_returnCredit hs hwf howned hr hpoll
    | waiting => exact pollsFor_endWait hs hwf hr hpoll

/-! ### Pages that come and go -/

theorem paged_of_none (hr : s.reefers.get? i = none) : s.paged i = false := by
  rw [State.paged, hr]
  rfl

/-- Of a record without a page the head does not matter. -/
theorem State.pagesFor.rehead (hs : s.pagesFor f) (hf : ∀ i, s.paged i = true → f' i = f i) : s.pagesFor f' :=
  ⟨hs.1, hs.2.rehead hf⟩

/-- Of a record that does not wait the head does not matter. -/
theorem State.pollsFor.rehead (hs : s.pollsFor f x) (hf : ∀ i, s.waits i = true → f' i = f i) : s.pollsFor f' x :=
  ⟨hs.listed.rehead hf, hs.awake, hs.counts⟩

/-- A page leaves its queue (R148). -/
theorem pagesFor_leave (hs : s.pagesFor f) (hf : ∀ j, j ≠ i → f' j = f j)
    (ht : t.reefers = s.reefers.modify i fun r => { r with page := none })
    (hq : ∀ h, t.pageQueue h = (s.pageQueue h).filter (· != i)) : t.pagesFor f' := by
  obtain ⟨hlength, hlisted⟩ := hs
  refine ⟨fun h => ?_, hlisted.leave (i := i) hf (fun j hj => any_of_modify ht _ j hj) ?_ hq⟩
  · rw [hq]
    exact (List.length_filter_le _ _).trans (hlength h)
  · cases hr : s.reefers.get? i with
    | none => exact paged_of_none (by rw [ht, Table.get?_modify_self, hr]; rfl)
    | some r => exact any_of_modify_self ht _ hr

theorem pageQueue_leavePageQueues (s : State) (i : Nat) (h : HeadIx) :
    (s.leavePageQueues i).pageQueue h = (s.pageQueue h).filter (· != i) := get_mapEach _ _ h

/-- The pending page of a record ends, if it has one; which head it then has does not matter. -/
theorem pagesFor_endPage (hs : s.pagesFor f) (hf : ∀ j, j ≠ i → f' j = f j) (res : Result) : (s.endPage i res).pagesFor f' := by
  rcases s.endPage_cases i res with ⟨hno, heq⟩ | ⟨r, p, hr, -, heq⟩
  · rw [heq]
    refine hs.rehead fun j hj => hf j ?_
    intro hji
    rw [hji] at hj
    refine absurd hj ?_
    cases hr : s.reefers.get? i with
    | none => simp [paged_of_none hr]
    | some r =>
      cases hp : r.page with
      | none => simp [State.paged, hr, hp]
      | some p => exact absurd hp (hno r p hr)
  · rw [heq]
    have hleft : ((s.leavePageQueues i).modReefer i fun r => { r with page := none }).pagesFor f' :=
      pagesFor_leave hs hf rfl (pageQueue_leavePageQueues s i)
    cases p.owner with
    | none => exact hleft
    | some q =>
      show (((s.leavePageQueues i).modReefer i fun r => { r with page := none }).endOldest _ res).pagesFor f'
      rw [State.endOldest_frame]
      exact hleft

/-- A page joins the queue of its head, which has room (R148). -/
theorem pagesFor_join (hs : s.pagesFor f) (hr : s.reefers.get? i = some r) (hf : ∀ j, j ≠ i → f' j = f j) (hhead : f' i = some h)
    (hnone : s.paged i = false) (hroom : (s.pageQueue h).length < Config.pageEntries)
    (ht : t.reefers = s.reefers.modify i g) (hpage : (g r).page.isSome)
    (hself : t.pageQueue h = s.pageQueue h ++ [i]) (hq : ∀ k, k ≠ h → t.pageQueue k = s.pageQueue k) : t.pagesFor f' := by
  obtain ⟨hlength, hlisted⟩ := hs
  refine ⟨fun k => ?_, hlisted.join hf (fun j hj => any_of_modify ht _ j hj) hnone hhead ?_ hself hq⟩
  · by_cases hk : k = h
    · rw [hk, hself, List.length_append]
      exact hroom
    · rw [hq k hk]
      exact hlength k
  · rw [State.paged, any_of_modify_self ht _ hr, hpage]

end Sys2Proof.Machine
end

section
/-! What the operations of heads, contexts, crane links and reefers leave of pages and polls (R60, R146, R148). -/

namespace Sys2Proof.Machine

variable {s t u : State} {f f' : Nat → Option HeadIx} {i l n : Nat} {h : HeadIx} {r : Reefer} {g : Reefer → Reefer}

/-! ### Tables and owners -/

/-- The tables are in canonical form, and owners and extensions belong together (R1 to R3). -/
def Own (s : State) : Prop := s.tablesLaw ∧ s.ownershipLaw

/-- Who holds which slot and who owns which record. -/
def State.owners (s : State) : List (Nat × Tag × Class × Option Nat) × List (Nat × Nat) × List (Nat × Nat) :=
  (s.contexts.map fun e => (e.1, e.2.ids), s.links.map fun e => (e.1, e.2.owner), s.reefers.map fun e => (e.1, e.2.owner))

theorem own_of_owners (ht : t.owners = s.owners) (hs : Own s) : Own t := by
  have hc : t.fixed.contexts = s.fixed.contexts := congrArg (·.1) ht
  have hl : t.fixed.links = s.fixed.links := congrArg (·.2.1) ht
  have hr : t.fixed.reefers = s.fixed.reefers := congrArg (·.2.2) ht
  obtain ⟨htables, howners⟩ := hs
  refine ⟨(tablesLaw_iff t).mpr ?_, (ownershipLaw_iff t).mpr ?_⟩
  · rw [hc, hl, hr]
    exact (tablesLaw_iff s).mp htables
  · have := (ownershipLaw_iff s).mp howners
    unfold Fixed.owned at this ⊢
    rw [hc, hl, hr]
    exact this

theorem Own.reefers_wf (hs : Own s) : s.reefers.wf Config.reeferRecords := hs.1.2.2.1

theorem Own.links_wf (hs : Own s) : s.links.wf Config.craneLinks := hs.1.2.1

theorem Own.reefersOwned (hs : Own s) : s.reefersOwned := by
  obtain ⟨htables, -, -, -, -, hreefers⟩ := hs
  intro i hi
  obtain ⟨r, hr⟩ := Option.isSome_iff_exists.mp hi
  have hany := hreefers _ (Table.mem_of_get? hr)
  rw [State.reeferContext, hr]
  cases hc : s.contexts.get? r.owner with
  | none => rw [hc] at hany; cases hany
  | some c => exact congrArg Option.isSome hc

/-- The serving head of the context in a slot. -/
def State.serves (s : State) (k : Nat) : Option HeadIx := (s.contexts.get? k).bind (·.serving)

theorem reeferServing_eq_bind (s : State) (i : Nat) : s.reeferServing i = ((s.reefers.get? i).map (·.owner)).bind s.serves := by
  unfold State.reeferServing State.reeferContext State.serves
  cases s.reefers.get? i <;> rfl

theorem owner_of_owners (ht : t.owners = s.owners) (i : Nat) :
    (t.reefers.get? i).map (·.owner) = (s.reefers.get? i).map (·.owner) := by
  have hr : t.reefers.map (fun e => (e.1, e.2.owner)) = s.reefers.map fun e => (e.1, e.2.owner) := congrArg (·.2.2) ht
  rw [← get?_map t.reefers, ← get?_map s.reefers, hr]

/-! ### What an operation leaves -/

/-- Owners, pages and polls stay in step, whatever heads serve. -/
structure WorkKept (s t : State) : Prop where
  own : Own s → Own t
  pages : Own s → ∀ f, s.pagesFor f → t.pagesFor f
  polls : Own s → ∀ f x, s.pollsFor f x → t.pollsFor f x

/-- Owners, pages and polls stay in step, and every reefer keeps its head. -/
structure ReefersKept (s t : State) : Prop extends WorkKept s t where
  serving : Own s → ∀ i, t.reeferServing i = s.reeferServing i

theorem WorkKept.refl (s : State) : WorkKept s s := ⟨id, fun _ _ => id, fun _ _ _ => id⟩

theorem WorkKept.trans (a : WorkKept s t) (b : WorkKept t u) : WorkKept s u :=
  ⟨b.own ∘ a.own, fun hs f => b.pages (a.own hs) f ∘ a.pages hs f, fun hs f x => b.polls (a.own hs) f x ∘ a.polls hs f x⟩

theorem ReefersKept.refl (s : State) : ReefersKept s s := ⟨.refl s, fun _ _ => rfl⟩

theorem ReefersKept.trans (a : ReefersKept s t) (b : ReefersKept t u) : ReefersKept s u :=
  ⟨a.toWorkKept.trans b.toWorkKept, fun hs i => (b.serving (a.own hs) i).trans (a.serving hs i)⟩

theorem ReefersKept.ite {c : Prop} [Decidable c] (a : c → ReefersKept s t) (b : ¬ c → ReefersKept s u) :
    ReefersKept s (if c then t else u) := by
  split
  · exact a ‹_›
  · exact b ‹_›

/-- What leaves the reefer records, their queues and the polls alone. -/
theorem WorkKept.of_same (hown : Own s → Own t) (hr : t.reefers = s.reefers) (hq : t.pageQueues = s.pageQueues)
    (hw : t.pollWaits = s.pollWaits) (hp : ∀ h, (t.account h).polls = (s.account h).polls) : WorkKept s t := by
  have hqueue : t.pageQueue = s.pageQueue := by funext h; rw [State.pageQueue, hq]; rfl
  have hwait : t.pollWait = s.pollWait := by funext h; rw [State.pollWait, hw]; rfl
  have hpaged : t.paged = s.paged := by funext i; rw [State.paged, hr]; rfl
  have hwaits : t.waits = s.waits := by funext i; rw [State.waits, hr]; rfl
  refine ⟨hown, fun _ f hs => ?_, fun _ f x hs => ⟨?_, ?_, fun h hx => ?_⟩⟩
  · unfold State.pagesFor
    rw [hqueue, hpaged]
    exact hs
  · rw [hwait, hwaits]
    exact hs.listed
  · rw [hr]
    exact hs.awake
  · rw [hp, State.sent, hr]
    exact hs.counts h hx

theorem ReefersKept.of_same (hown : Own s → Own t) (hserves : Own s → ∀ i, t.reeferServing i = s.reeferServing i)
    (hr : t.reefers = s.reefers) (hq : t.pageQueues = s.pageQueues)
    (hw : t.pollWaits = s.pollWaits) (hp : ∀ h, (t.account h).polls = (s.account h).polls) : ReefersKept s t :=
  ⟨.of_same hown hr hq hw hp, hserves⟩

/-- What leaves the contexts, the reefer records, the link owners, the queues and the polls alone. -/
theorem ReefersKept.quiet (ho : t.owners = s.owners) (hc : t.contexts = s.contexts) (hr : t.reefers = s.reefers)
    (hq : t.pageQueues = s.pageQueues) (hw : t.pollWaits = s.pollWaits)
    (hp : ∀ h, (t.account h).polls = (s.account h).polls) : ReefersKept s t := by
  refine .of_same (own_of_owners ho) (fun _ i => ?_) hr hq hw hp
  unfold State.reeferServing State.reeferContext
  rw [hr, hc]

theorem ReefersKept.of_records (x : SameRecords s t) : ReefersKept s t := by
  obtain ⟨hcontexts, -, hairtime, hlinks, hreefers, hqueues, hwaits⟩ := x
  refine .quiet ?_ hcontexts hreefers hqueues hwaits fun h => ?_
  · unfold State.owners
    rw [hcontexts, hlinks, hreefers]
  · unfold State.account
    rw [hairtime]

theorem ReefersKept.order (o : Order) : ReefersKept s (s.order o) := .of_records ⟨rfl, rfl, rfl, rfl, rfl, rfl, rfl⟩
theorem ReefersKept.reply (q : Reply) : ReefersKept s (s.reply q) := .of_records ⟨rfl, rfl, rfl, rfl, rfl, rfl, rfl⟩
theorem ReefersKept.modHead (h : HeadIx) (f : Head → Head) : ReefersKept s (s.modHead h f) :=
  .quiet rfl rfl rfl rfl rfl fun _ => rfl

theorem ReefersKept.post (sub : Subject) (d : NoticeContent) : ReefersKept s (s.post sub d) := by
  rw [s.post_frame sub d]
  exact .of_records ⟨rfl, rfl, rfl, rfl, rfl, rfl, rfl⟩

theorem ReefersKept.endOldest (p : InFlight → Bool) (res : Result) : ReefersKept s (s.endOldest p res) := by
  rw [s.endOldest_frame p res]
  exact .of_records ⟨rfl, rfl, rfl, rfl, rfl, rfl, rfl⟩

theorem links_owners_of_modify (m : Table CraneLink) (l : Nat) (f : CraneLink → CraneLink) (hf : ∀ k, (f k).owner = k.owner) :
    (m.modify l f).map (fun e => (e.1, e.2.owner)) = m.map fun e => (e.1, e.2.owner) :=
  Table.map_modify_of_forall (g := CraneLink.owner) hf

theorem ReefersKept.modLink (l : Nat) (f : CraneLink → CraneLink)
    (hf : ∀ k, (f k).owner = k.owner := by exact fun _ => rfl) :
    ReefersKept s (s.modLink l f) := by
  refine .quiet ?_ rfl rfl rfl rfl fun _ => rfl
  unfold State.owners
  rw [show (s.modLink l f).links = s.links.modify l f from rfl, links_owners_of_modify _ _ _ hf]
  rfl

/-- What changes of a context neither its identity nor its head. -/
theorem ReefersKept.modContext (k : Nat) (g : Context → Context) (hids : ∀ c, (g c).ids = c.ids := by exact fun _ => rfl)
    (hserving : ∀ c, (g c).serving = c.serving := by exact fun _ => rfl) : ReefersKept s (s.modContext k g) := by
  refine .of_same (own_of_owners ?_) (fun _ i => ?_) rfl rfl rfl fun _ => rfl
  · unfold State.owners
    rw [show (s.modContext k g).contexts = s.contexts.modify k g from rfl, Table.map_modify_of_forall (g := Context.ids) hids]
    rfl
  · rw [reeferServing_eq_bind, reeferServing_eq_bind]
    refine congrArg (Option.bind _) (funext fun j => ?_)
    show ((s.contexts.modify k g).get? j).bind (·.serving) = (s.contexts.get? j).bind (·.serving)
    rw [Table.get?_modify]
    split
    · rw [Option.bind_map]
      exact congrArg (Option.bind _) (funext hserving)
    · rfl

/-- What changes the context of a crane link, and not its identity (R3). -/
theorem ReefersKept.modCraneContext {k : CraneLink} (hk : s.links.get? l = some k) (g : Context → Context)
    (hids : ∀ c, (g c).ids = c.ids := by exact fun _ => rfl) : ReefersKept s (s.modContext k.owner g) := by
  refine .of_same (own_of_owners ?_) (fun hs i => ?_) rfl rfl rfl fun _ => rfl
  · unfold State.owners
    rw [show (s.modContext k.owner g).contexts = s.contexts.modify k.owner g from rfl,
      Table.map_modify_of_forall (g := Context.ids) hids]
    rfl
  · unfold State.reeferServing State.reeferContext
    show (((s.reefers.get? i).bind fun r => (s.contexts.modify k.owner g).get? r.owner)).bind (·.serving) = _
    cases hr : s.reefers.get? i with
    | none => rfl
    | some r =>
      have hne : r.owner ≠ k.owner := by
        obtain ⟨-, -, -, -, hlinks, hreefers⟩ := hs
        intro heq
        have hlink := hlinks _ (Table.mem_of_get? hk)
        have hreefer := hreefers _ (Table.mem_of_get? hr)
        rw [show ((i, r) : Nat × Reefer).2.owner = k.owner from heq] at hreefer
        cases hc : s.contexts.get? k.owner with
        | none => rw [hc] at hlink; cases hlink
        | some c =>
          rw [hc] at hlink hreefer
          simp only [Option.any_some, Bool.and_eq_true, beq_iff_eq] at hlink hreefer
          rw [hlink.1] at hreefer
          cases hreefer.1
      show ((s.contexts.modify k.owner g).get? r.owner).bind _ = (s.contexts.get? r.owner).bind _
      rw [Table.get?_modify_of_ne _ _ hne]

/-! ### Polls and airtime -/

theorem owners_of_fixed (h : t.fixed = s.fixed) : t.owners = s.owners := by
  show (t.fixed.contexts, t.fixed.links, t.fixed.reefers) = (s.fixed.contexts, s.fixed.links, s.fixed.reefers)
  rw [h]

theorem serving_of_owners (ho : t.owners = s.owners) (hc : t.contexts = s.contexts) (i : Nat) :
    t.reeferServing i = s.reeferServing i := by
  rw [reeferServing_eq_bind, reeferServing_eq_bind, owner_of_owners ho]
  unfold State.serves
  rw [hc]

/-- What leaves the contexts and the pages, and keeps the polls in step. -/
theorem ReefersKept.of_polls (hfixed : t.fixed = s.fixed) (hc : t.contexts = s.contexts) (hq : t.pageQueues = s.pageQueues)
    (hpaged : ∀ i, t.paged i = s.paged i) (hpolls : Own s → ∀ f x, s.pollsFor f x → t.pollsFor f x) : ReefersKept s t where
  own := own_of_owners (owners_of_fixed hfixed)
  serving _ := serving_of_owners (owners_of_fixed hfixed) hc
  pages _ f := by
    unfold State.pagesFor State.pageQueue
    rw [hq, show t.paged = s.paged from funext hpaged]
    exact id
  polls := hpolls

theorem PolledThrough.paged (p : PolledThrough h s t) (i : Nat) : t.paged i = s.paged i := by
  obtain ⟨-, hrecords, -⟩ := p
  have hpage := congrArg (Option.map fun r : Reefer => r.page.isSome) (hrecords i)
  simp only [Option.map_map] at hpage
  unfold State.paged
  cases ht : t.reefers.get? i <;> cases hs : s.reefers.get? i <;> rw [ht, hs] at hpage <;> simp_all

theorem ReefersKept.waitPass (h : HeadIx) : ReefersKept s (s.waitPass h) := by
  have hpass := polledThrough_waitPass s h
  obtain ⟨-, hcontexts, -⟩ := hpass.fields
  refine .of_polls (Keeps.waitPass (x := none) h).fixed hcontexts ?_ hpass.paged fun hs f x hpolls =>
    pollsFor_waitPass hpolls hs.reefers_wf hs.reefersOwned h
  obtain ⟨-, -, -, hframe⟩ := hpass
  rw [hframe]
  rfl

/-- A change of an account that is not one of its polls. -/
theorem ReefersKept.modAccount (h : HeadIx) (f : Account → Account) (hf : ∀ a, (f a).polls = a.polls := by exact fun _ => rfl) :
    ReefersKept s (s.modAccount h f) := by
  refine .quiet rfl rfl rfl rfl rfl fun g => ?_
  by_cases hg : g = h
  · subst hg
    show ((s.setAccount g (f (s.account g))).account g).polls = _
    rw [State.account_setAccount_self, hf]
  · show ((s.setAccount h _).account g).polls = _
    rw [State.account_setAccount_of_ne _ _ hg]

theorem ReefersKept.fit (h : HeadIx) : ReefersKept s (s.fit h) := by
  have hset : ReefersKept s (s.modAccount h fun a => { a with wg := grantedWindow (s.head h) (s.account h) }) :=
    .modAccount h _
  exact .ite (fun _ => hset.trans (.waitPass h)) fun _ => hset

theorem ReefersKept.join (h : HeadIx) (k : ResKind) (l u : Nat) : ReefersKept s (s.join h k l u) :=
  (ReefersKept.modAccount h _).trans (.fit h)

theorem ReefersKept.joinStanding (h : HeadIx) (l u : Nat) : ReefersKept s (s.joinStanding h l u) := by
  unfold State.joinStanding
  split
  · exact .refl s
  · exact .join h .standing l u

theorem ReefersKept.releaseOn (h : HeadIx) (k : ResKind) (l : Nat) : ReefersKept s (s.releaseOn h k l) :=
  .ite (fun _ => (ReefersKept.modAccount h _).trans (.fit h)) fun _ => .refl s

theorem ReefersKept.releaseStanding (l : Nat) : ReefersKept s (s.releaseStanding l) := by
  unfold State.releaseStanding
  split
  · exact .releaseOn _ _ l
  · exact .refl s

theorem ReefersKept.convert (h : HeadIx) (l : Nat) : ReefersKept s (s.convert h l) :=
  (ReefersKept.modAccount h _).trans (.fit h)

theorem ReefersKept.setWindow (h : HeadIx) (w : Nat) : ReefersKept s (setWindow h w s) :=
  (ReefersKept.modAccount h _).trans (.fit h)

theorem ReefersKept.dropPrepared (h : HeadIx) (l : Nat) : ReefersKept s (s.dropPrepared h l) := .modAccount h _

/-! ### Handovers and crane links -/

theorem ReefersKept.endHandover (l : Nat) (cause : HandoverCause) : ReefersKept s (s.endHandover l cause) := by
  unfold State.endHandover
  split
  · exact .refl s
  · split
    · exact .refl s
    · refine ReefersKept.trans ?_ (.post _ _)
      have hphase : ReefersKept s (s.modLink l fun k => { k with phase := .none }) := .modLink l _
      exact .ite (fun _ => hphase) fun _ => hphase.trans (.modContext _ _)

theorem ReefersKept.cancelHandover (l : Nat) (cause : HandoverCause) : ReefersKept s (s.cancelHandover l cause) := by
  unfold State.cancelHandover
  split
  · exact (ReefersKept.releaseOn _ _ l).trans (.endHandover l cause)
  · exact .refl s

theorem ReefersKept.cancelEach (h : HeadIx) (cause : HandoverCause) (ls : List Nat) : ReefersKept s (cancelEach h cause ls s) := by
  induction ls generalizing s with
  | nil => exact .refl s
  | cons l ls ih => exact ((ReefersKept.dropPrepared h l).trans (.endHandover l cause)).trans ih

theorem ReefersKept.cancelUntilFits (h : HeadIx) (ls : List Nat) : ReefersKept s (cancelUntilFits h ls s) := by
  induction ls generalizing s with
  | nil => exact .refl s
  | cons l ls ih => exact .ite (fun _ => .refl s) fun _ => ((ReefersKept.dropPrepared h l).trans (.endHandover l .capacity)).trans ih

theorem ReefersKept.newCapacity (h : HeadIx) : ReefersKept s (s.newCapacity h) := (ReefersKept.cancelUntilFits h _).trans (.fit h)

theorem ReefersKept.enterSafeStop (l : Nat) (cause : SafeCause) : ReefersKept s (s.enterSafeStop l cause) := by
  unfold State.enterSafeStop
  split
  · exact .refl s
  · exact (ReefersKept.modLink l _).trans (.post _ _)

/-- The head of a crane moves to the target of its handover (R120, R124). -/
theorem ReefersKept.completeHandover (l : Nat) : ReefersKept s (s.completeHandover l) := by
  unfold State.completeHandover
  split
  · next k c hk hc =>
    split
    · exact .refl s
    · next t _ =>
      have hserve : ReefersKept s ((s.modContext k.owner fun c => c.serveOn t).convert t l) :=
        (ReefersKept.modCraneContext hk _).trans (.convert t l)
      refine (ReefersKept.trans (ReefersKept.trans (hserve.trans ?_) (.modLink l _)) (.order _)).trans (.post _ _)
      split
      · exact .releaseOn _ _ l
      · exact .refl _
  · exact .refl s

theorem ReefersKept.rescue (l : Nat) (h t : HeadIx) : ReefersKept s (s.rescue l h t) := by
  unfold State.rescue
  split
  · next k c hk hc =>
    have hserve : ReefersKept s ((s.modContext k.owner fun c => c.serveOn t).convert t l) :=
      (ReefersKept.modCraneContext hk _).trans (.convert t l)
    exact ((hserve.trans (.modLink l _)).trans (.order _)).trans (.post _ _)
  · exact .refl s

theorem ReefersKept.losePath (l : Nat) (held : Bool) : ReefersKept s (s.losePath l held) := by
  unfold State.losePath
  split
  · exact .refl s
  · split
    · exact .enterSafeStop l .pathLost
    · exact .enterSafeStop l .pathLost
    · exact .ite (fun _ => .enterSafeStop l .pathLost) fun _ => .refl s
    · exact .refl s

theorem ReefersKept.loseHead (l : Nat) (h : HeadIx) (held : Bool) : ReefersKept s (s.loseHead l h held) := by
  unfold State.loseHead
  split
  · exact .rescue l h _
  · exact .losePath l held

theorem ReefersKept.advanceBlock (l : Nat) : ReefersKept s (s.advanceBlock l) := by
  unfold State.advanceBlock
  split
  · exact .refl s
  · split
    · exact .refl s
    · exact .ite (fun _ => .modLink l _) fun _ => (ReefersKept.modLink l _).trans (.endOldest _ _)

theorem ReefersKept.sendDownlink (l : Nat) : ReefersKept s (s.sendDownlink l) := by
  unfold State.sendDownlink
  split
  · split
    · exact .refl s
    · refine ReefersKept.trans ?_ (.advanceBlock l)
      split
      · exact (ReefersKept.order _).trans (.order _)
      · exact .order _
  · exact .refl s

theorem ReefersKept.closeCycle (l : Nat) : ReefersKept s (s.closeCycle l) := .modLink l _

theorem ReefersKept.uplinkCheck (l : Nat) : ReefersKept s (s.uplinkCheck l) := by
  unfold State.uplinkCheck
  split
  · exact .refl s
  · have hmisses : ∀ m : Nat, ReefersKept s (s.modLink l fun k => { k with misses := m }) := fun _ => .modLink l _
    exact .ite (fun _ => (hmisses _).trans (.enterSafeStop l .uplinkLimit)) fun _ => hmisses _

theorem ReefersKept.assemblyCheck (l : Nat) : ReefersKept s (s.assemblyCheck l) :=
  .modLink l _ fun k => by split <;> rfl

theorem ReefersKept.setpointStage (l : Nat) : ReefersKept s (s.setpointStage l) := by
  have hset (k : CraneLink) : ReefersKept s (match k.next with
      | some p =>
        s.modLink l fun k =>
          { k with current := some { sp := p, fresh := true }, next := none, repeats := 0, state := .running }
      | none =>
        let s1 := s.modLink l fun k =>
          { k with
            current := k.current.map fun c => { c with fresh := false }
            repeats := k.repeats + 1
            state := .holding }
        if k.holdLimit ≤ k.repeats + 1 then s1.enterSafeStop l .holdLimit else s1) := by
    split
    · exact .modLink l _
    · exact .ite (fun _ => (ReefersKept.modLink l _).trans (.enterSafeStop l .holdLimit)) fun _ => .modLink l _
  unfold State.setpointStage
  split
  · exact .refl s
  · split
    · exact hset _
    · exact hset _
    · exact .refl s
    · exact .refl s

theorem ReefersKept.handoverStep (l : Nat) : ReefersKept s (s.handoverStep l) := by
  unfold State.handoverStep
  split
  · exact .refl s
  · split
    · exact .refl s
    · exact .modLink l _
    · exact .ite (fun _ => .modLink l _) fun _ => (ReefersKept.modLink l _).trans (.cancelHandover l .noAnswer)

theorem ReefersKept.resume (l : Nat) (p : Setpoint) : ReefersKept s (s.resume l p) := by
  unfold State.resume
  split
  · exact .refl s
  · exact (ReefersKept.modLink l _).trans (.post _ _)

theorem ReefersKept.completeRelease (l : Nat) : ReefersKept s (s.completeRelease l) := by
  unfold State.completeRelease
  split
  · exact .refl s
  · have hleave : ReefersKept s ((((s.cancelHandover l .released).sendDownlink l).closeCycle l).releaseStanding l) :=
      (((ReefersKept.cancelHandover l .released).trans (.sendDownlink l)).trans (.closeCycle l)).trans (.releaseStanding l)
    exact ((hleave.trans (.modLink l _)).trans (.post _ _)).trans (.endOldest _ _)

theorem ReefersKept.cycleExpiry (l : Nat) : ReefersKept s (s.cycleExpiry l) := by
  have hstart : ReefersKept s (s.modLink l fun k => { k with cycle := some k.period }) := .modLink l _
  have hrun (s : State) : ReefersKept s (s.runningExpiry l) :=
    (((((ReefersKept.uplinkCheck l).trans (.assemblyCheck l)).trans (.setpointStage l)).trans (.handoverStep l)).trans
      (.sendDownlink l)).trans (.closeCycle l)
  have hstop (s : State) (k : CraneLink) : ReefersKept s (s.stoppedExpiry l k) := by
    refine .ite (fun _ => (ReefersKept.assemblyCheck l).trans (.completeRelease l)) fun _ => ?_
    refine (((ReefersKept.assemblyCheck l).trans ?_).trans (.handoverStep l)).trans (.sendDownlink l) |>.trans (.closeCycle l)
    split
    · exact .resume l _
    · exact .refl _
  unfold State.cycleExpiry
  split
  · exact .refl s
  · refine .ite (fun _ => ?_) fun _ => .refl s
    dsimp only
    split
    · exact hstart.trans (hrun _)
    · exact hstart.trans (hrun _)
    · exact hstart.trans (hstop _ _)
    · exact .refl s

theorem ReefersKept.takeCraneStart (h : HeadIx) (y : CraneSettings) (p : Setpoint) : ReefersKept s (takeCraneStart l h y p s) :=
  ((ReefersKept.joinStanding h l _).trans (.modLink l _)).trans (.sendDownlink l)

theorem ReefersKept.takeCraneStop (k : CraneLink) : ReefersKept s (takeCraneStop l k s) := by
  refine ReefersKept.trans ?_ (.cancelHandover l .ordered)
  split
  · exact .enterSafeStop l .ordered
  · exact .enterSafeStop l .ordered
  · exact .modLink l _
  · exact .refl s

theorem ReefersKept.takeCraneResume (o : Option HeadIx) (k : CraneLink) (p : Setpoint) : ReefersKept s (takeCraneResume l o k p s) := by
  refine ReefersKept.trans ?_ (.modLink l _)
  split
  · exact ((ReefersKept.joinStanding _ l _).trans (.modLink l _)).trans (.post _ _)
  · exact .refl s

theorem ReefersKept.takeBlock (k : Nat) (b : Bytes48) : ReefersKept s (s.takeBlock k l b) :=
  ((ReefersKept.modLink l _).trans (.modContext k _)).trans (.post _ _)

theorem ReefersKept.takeFragment (k : Nat) (start : Bool) (fr : Fragment) (y : CraneLink) :
    ReefersKept s (s.takeFragment k l start fr y) := by
  unfold State.takeFragment
  have hadd (a : Option (List Fragment)) (lost : Bool) : ReefersKept s (s.modLink l fun k =>
      { k with assembly := a, sideErrors := if lost then satInc 255 k.sideErrors else k.sideErrors }) :=
    .modLink l _
  dsimp only
  split
  · refine .ite (fun _ => hadd _ _) fun _ => ?_
    split
    · exact (hadd _ _).trans (.takeBlock k _)
    · exact hadd _ _
  · exact hadd _ _

theorem ReefersKept.onUplink (k : Nat) (c : Context) (x : UplinkFields) : ReefersKept s (onUplink k c x s) := by
  have htake (l : Nat) (y : CraneLink) (h : HeadIx) : ReefersKept s (takeUplink k l y h x s) := by
    have hback : ReefersKept s (s.modLink l fun k => { k with feedback := some { bytes := x.feedback, seq := x.seq, age := 0 } }) :=
      .modLink l _
    have hheard : ReefersKept s (if y.heard then s.modLink l fun k =>
          { k with feedback := some { bytes := x.feedback, seq := x.seq, age := 0 } }
        else (((s.modLink l fun k => { k with feedback := some { bytes := x.feedback, seq := x.seq, age := 0 } }).takeFragment k l
          x.start x.frag y).modLink l fun k => { k with heard := true })) :=
      .ite (fun _ => hback) fun _ => (hback.trans (.takeFragment k _ _ y)).trans (.modLink l _)
    exact .ite (fun _ => hheard.trans (.completeHandover l)) fun _ => hheard
  unfold Machine.onUplink
  split
  · exact .refl s
  · split
    · exact .ite (fun _ => htake _ _ _) fun _ => .refl s
    · exact .refl s

end Sys2Proof.Machine
end

section
/-! What the operations of reefer records leave of pages and polls (R60, R146, R148), and the laws themselves through the
steps that move a page or a wait to another head. -/

namespace Sys2Proof.Machine

variable {s t u : State} {f f' : Nat → Option HeadIx} {i l n : Nat} {h : HeadIx} {r : Reefer} {g : Reefer → Reefer}
  {x : HeadIx → Prop}

/-! ### One record changed -/

theorem reefers_owners_of_modify (m : Table Reefer) (i : Nat) (g : Reefer → Reefer) (hg : ∀ k, (g k).owner = k.owner) :
    (m.modify i g).map (fun e => (e.1, e.2.owner)) = m.map fun e => (e.1, e.2.owner) :=
  Table.map_modify_of_forall (g := Reefer.owner) hg

theorem owners_of_modify (hc : t.contexts = s.contexts) (hl : t.links = s.links) (hr : t.reefers = s.reefers.modify i g)
    (hg : ∀ r, (g r).owner = r.owner) : t.owners = s.owners := by
  unfold State.owners
  rw [hc, hl, hr, reefers_owners_of_modify _ _ _ hg]

/-- A change of a record beside its poll. -/
theorem pollsFor_of_modify (hs : s.pollsFor f x) (hwf : s.reefers.wf n) (ht : t.reefers = s.reefers.modify i g)
    (hpoll : ∀ r, (g r).poll = r.poll) (hdoze : ∀ r, s.reefers.get? i = some r → (g r).doze = .awake ∨ r.doze ≠ .awake ∨ r.poll = .none)
    (hw : ∀ h, t.pollWait h = s.pollWait h) (hp : ∀ h, (t.account h).polls = (s.account h).polls) : t.pollsFor f x := by
  have hlisted : Listed t.pollWait f t.waits :=
    hs.listed.congr hw (fun _ => rfl) (waits_of_modify ht fun r _ => hpoll r)
  cases hr : s.reefers.get? i with
  | none =>
    have hsame : t.reefers = s.reefers := by rw [ht, Table.modify_of_get?_none _ _ _ hr]
    refine ⟨hlisted, by rw [hsame]; exact hs.awake, fun h hx => ?_⟩
    rw [hp, State.sent, hsame]
    exact hs.counts h hx
  | some r =>
    refine hs.change ht hr hlisted (fun hne => ?_) fun h hx => ?_
    · rw [hpoll]
      rcases hdoze r hr with hawake | hold | hnone
      · exact absurd hawake hne
      · exact hs.awake i r hr hold
      · exact hnone
    · have hsent := sent_of_modify ht hwf hr h
      rw [hpoll] at hsent
      rw [hp, hs.counts h hx]
      omega

/-- A change of a record beside its owner, its poll and whether it has a page; of its doze state, to AWAKE or from another. -/
theorem ReefersKept.modReefer (i : Nat) (g : Reefer → Reefer)
    (hdoze : ∀ r, s.reefers.get? i = some r → (g r).doze = .awake ∨ r.doze ≠ .awake ∨ r.poll = .none)
    (howner : ∀ r, (g r).owner = r.owner := by exact fun _ => rfl)
    (hpage : ∀ r, (g r).page.isSome = r.page.isSome := by exact fun _ => rfl)
    (hpoll : ∀ r, (g r).poll = r.poll := by exact fun _ => rfl) : ReefersKept s (s.modReefer i g) where
  own := own_of_owners (owners_of_modify rfl rfl rfl howner)
  serving _ := serving_of_owners (owners_of_modify rfl rfl rfl howner) rfl
  pages _ f hs := by
    refine ⟨hs.1, hs.2.congr (fun _ => rfl) (fun _ => rfl) ?_⟩
    exact paged_of_modify rfl fun r _ => hpage r
  polls hs f x hpolls := pollsFor_of_modify hpolls hs.reefers_wf rfl hpoll hdoze (fun _ => rfl) fun _ => rfl

/-- A change of a record that leaves its owner, doze state, poll and whether it has a page. -/
theorem ReefersKept.sameUse (i : Nat) (g : Reefer → Reefer) (hg : Reefer.sameUse g) : ReefersKept s (s.modReefer i g) := by
  refine .modReefer i g (fun r _ => ?_) (fun r => ?_) (fun r => ?_) fun r => ?_
  · obtain ⟨-, hdoze, -⟩ := hg r
    rw [hdoze]
    exact (em (r.doze = .awake)).imp id .inl
  · exact (hg r).1
  · obtain ⟨-, -, -, hpage⟩ := hg r
    exact Bool.eq_iff_iff.mpr hpage
  · obtain ⟨-, -, hpoll, -⟩ := hg r
    exact hpoll

theorem ReefersKept.modPage (i : Nat) (p : Page → Page) : ReefersKept s (s.modPage i p) :=
  .sameUse i _ fun r => ⟨rfl, rfl, rfl, by simp⟩

theorem ReefersKept.setContact (i : Nat) (c : Contact) : ReefersKept s (s.setContact i c) := by
  unfold State.setContact
  split
  · exact .refl s
  · exact .ite (fun _ => .refl s) fun _ => (ReefersKept.sameUse i _ (by exact fun _ => ⟨rfl, rfl, rfl, Iff.rfl⟩)).trans (.post _ _)

/-! ### Pages -/

theorem ReefersKept.endPage (i : Nat) (res : Result) : ReefersKept s (s.endPage i res) := by
  have hleave : Own s → ∀ f x, s.pollsFor f x → ((s.leavePageQueues i).modReefer i fun r => { r with page := none }).pollsFor f x :=
    fun hs f x hpolls => pollsFor_of_modify (g := fun r => { r with page := none }) hpolls hs.reefers_wf rfl (fun _ => rfl)
      (fun r _ => (em (r.doze = .awake)).imp id .inl) (fun _ => rfl) fun _ => rfl
  have howners : (s.endPage i res).owners = s.owners := owners_of_fixed (Keeps.endPage (x := none) i res).fixed
  have hcontexts : (s.endPage i res).contexts = s.contexts := by rw [s.endPage_frame i res]
  refine ⟨⟨own_of_owners howners, fun _ f hs => pagesFor_endPage hs (fun _ _ => rfl) res, fun hs f x hpolls => ?_⟩,
    fun _ => serving_of_owners howners hcontexts⟩
  rcases s.endPage_cases i res with ⟨-, heq⟩ | ⟨r, p, -, -, heq⟩
  · rw [heq]
    exact hpolls
  · rw [heq]
    cases p.owner with
    | none => exact hleave hs f x hpolls
    | some q =>
      show (((s.leavePageQueues i).modReefer i fun r => { r with page := none }).endOldest _ res).pollsFor f x
      rw [State.endOldest_frame]
      obtain ⟨hlisted, hawake, hcounts⟩ := hleave hs f x hpolls
      exact ⟨hlisted, hawake, hcounts⟩

theorem ReefersKept.failPage (i : Nat) : ReefersKept s (s.failPage i) := (ReefersKept.endPage i .failed).trans (.setContact i .unreachable)

theorem ReefersKept.wake (i : Nat) : ReefersKept s (s.wake i) :=
  (ReefersKept.modReefer i (fun r => { r with doze := .awake }) fun _ _ => .inl rfl).trans (.endPage i .done)

theorem ReefersKept.releaseAckPage (i : Nat) : ReefersKept s (s.releaseAckPage i) := by
  unfold State.releaseAckPage
  split
  · exact .refl s
  · split
    · exact .refl s
    · exact .ite (fun _ => .ite (fun _ => .endPage i .notCovered) fun _ => .modPage i _) fun _ => .refl s

theorem ReefersKept.sendPage (h : HeadIx) (i : Nat) : ReefersKept s (s.sendPage h i) := by
  unfold State.sendPage
  split
  · exact .refl s
  · exact (ReefersKept.order _).trans (.modPage i _)

theorem ReefersKept.releaseFrom (h : HeadIx) (sec : Sector) (q : List Nat) : ReefersKept s (releaseFrom h sec q s) := by
  induction q generalizing s with
  | nil => exact .refl s
  | cons i q ih => exact (ReefersKept.ite (fun _ => .sendPage h i) fun _ => .refl s).trans ih

theorem ReefersKept.wrapFrom (h : HeadIx) (q : List Nat) : ReefersKept s (wrapFrom h q s) := by
  induction q generalizing s with
  | nil => exact .refl s
  | cons i q ih => exact (ReefersKept.ite (fun _ => .endPage i .notCovered) fun _ => .refl s).trans ih

theorem ReefersKept.endPages (res : Result) (q : List Nat) : ReefersKept s (endPages res q s) := by
  induction q generalizing s with
  | nil => exact .refl s
  | cons i q ih => exact (ReefersKept.endPage i res).trans ih

theorem ReefersKept.enterSlot (h : HeadIx) (k : Nat) : ReefersKept s (s.enterSlot h k) := by
  have hbeam : ReefersKept s ((s.modHead h fun x => { x with sweep := some { slot := k, remaining := 2 * (s.head h).active.dwell } }).order
      (.beam h ((s.head h).active.slot k))) := (ReefersKept.modHead h _).trans (.order _)
  unfold State.enterSlot
  dsimp only
  split
  · exact hbeam.trans (.releaseFrom h _ _)
  · exact hbeam

theorem ReefersKept.applyStaged (h : HeadIx) : ReefersKept s (s.applyStaged h) := by
  unfold State.applyStaged
  split
  · exact (ReefersKept.modHead h _).trans (.endOldest _ _)
  · exact .refl s

theorem ReefersKept.dwellExpiry (h : HeadIx) : ReefersKept s (s.dwellExpiry h) := by
  unfold State.dwellExpiry
  split
  · refine .ite (fun _ => .ite (fun _ => .enterSlot h _) fun _ => ?_) fun _ => .refl s
    exact ((ReefersKept.applyStaged h).trans (.wrapFrom h _)).trans (.enterSlot h 0)
  · exact .refl s

/-! ### Changes of a head's state, but for the fault -/

theorem ReefersKept.changeHead (h : HeadIx) (f : Head → Head) : ReefersKept s (s.changeHead h f) := by
  have hpost : ReefersKept s ((s.modHead h f).postHeadState h) := (ReefersKept.modHead h f).trans (.post _ _)
  exact (hpost.trans (.ite (fun _ => .cancelEach h .targetLost _) fun _ => .refl _)).trans (.fit h)

theorem ReefersKept.headUp (h : HeadIx) : ReefersKept s (headUp h s) :=
  .ite (fun _ => (((ReefersKept.modHead h _).trans (.enterSlot h 0)).trans (.post _ _)).trans (.fit h)) fun _ => .refl s

theorem ReefersKept.syncLock (h : HeadIx) : ReefersKept s (syncLock h s) := by
  unfold Machine.syncLock
  split
  · exact .ite (fun _ => .refl s) fun _ => .ite (fun _ => .changeHead h _) fun _ => .modHead h _
  · exact .changeHead h _
  · exact .refl s
  · exact .refl s
  · exact .refl s

theorem ReefersKept.syncLost (h : HeadIx) : ReefersKept s (syncLost h s) := by
  unfold Machine.syncLost
  split
  · exact .modHead h _
  · exact .changeHead h _
  · exact .refl s
  · exact .refl s
  · exact .refl s

theorem ReefersKept.startTimerExpiry (h : HeadIx) : ReefersKept s (s.startTimerExpiry h) :=
  .ite (fun _ => .ite (fun _ => .changeHead h _) fun _ => .modHead h _) fun _ => .refl s

/-! ### Polls -/

theorem paged_endPoll (i j : Nat) : (s.endPoll i).paged j = s.paged j := by
  unfold State.endPoll
  have hset : (s.modReefer i fun r => { r with poll := .none }).paged j = s.paged j :=
    paged_of_modify (g := fun r => { r with poll := .none }) rfl (fun _ _ => rfl) j
  split
  · rfl
  · split
    · rfl
    · next h _ _ =>
      exact ((polledThrough_waitPass ((s.modReefer i fun r => { r with poll := .none }).modAccount h fun a =>
        { a with polls := a.polls - 1 }) h).paged j).trans hset
    · exact hset

theorem ReefersKept.endPoll (i : Nat) : ReefersKept s (s.endPoll i) := by
  refine .of_polls (Keeps.endPoll (x := none) i).fixed ?_ ?_ (paged_endPoll i) fun hs f x hpolls =>
    pollsFor_endPoll hpolls hs.reefers_wf hs.reefersOwned i
  · rw [s.endPoll_frame i]
  · rw [s.endPoll_frame i]

theorem ReefersKept.pollExpiry (i : Nat) : ReefersKept s (s.pollExpiry i) := by
  unfold State.pollExpiry
  cases hr : s.reefers.get? i with
  | none => exact .refl s
  | some r =>
    dsimp only
    cases hp : r.poll with
    | none => exact .refl s
    | waiting => exact .refl s
    | outstanding h n =>
      have hend : s.endPoll i = (s.modReefer i fun r => { r with poll := .none }).returnCredit h := by
        unfold State.endPoll
        rw [hr]
        dsimp only
        rw [hp]
      refine .ite (fun _ => ?_) fun _ => .refl s
      rw [← hend]
      exact .endPoll i

/-! ### The laws, with the heads that serve -/

/-- Owners, and the laws of pages and polls, are kept. -/
structure LawsKept (s t : State) : Prop where
  own : Own s → Own t
  pages : Own s → s.pageLaw → t.pageLaw
  polls : Own s → s.pollLaw → t.pollLaw

theorem LawsKept.refl (s : State) : LawsKept s s := ⟨id, fun _ => id, fun _ => id⟩

theorem LawsKept.trans (a : LawsKept s t) (b : LawsKept t u) : LawsKept s u :=
  ⟨b.own ∘ a.own, fun hs => b.pages (a.own hs) ∘ a.pages hs, fun hs => b.polls (a.own hs) ∘ a.polls hs⟩

/-- The laws between the steps of a command: pages and polls are those of the heads `f`, and `f` is met again at its end. -/
theorem LawsKept.of_work (hown : Own s → Own t) (hpages : Own s → s.pagesFor s.reeferServing → t.pagesFor t.reeferServing)
    (hpolls : Own s → s.pollsFor s.reeferServing (fun _ => True) → t.pollsFor t.reeferServing fun _ => True) : LawsKept s t :=
  ⟨hown, fun hs h => (pageLaw_iff (hown hs).reefers_wf).mpr (hpages hs ((pageLaw_iff hs.reefers_wf).mp h)),
    fun hs h => (pollLaw_iff (hown hs).reefers_wf).mpr (hpolls hs ((pollLaw_iff hs.reefers_wf).mp h))⟩

theorem ReefersKept.laws (k : ReefersKept s t) : LawsKept s t := by
  have hserving (hs : Own s) : t.reeferServing = s.reeferServing := funext (k.serving hs)
  refine .of_work k.own (fun hs h => ?_) fun hs h => ?_
  · rw [hserving hs]
    exact k.pages hs _ h
  · rw [hserving hs]
    exact k.polls hs _ _ h

theorem LawsKept.ite {c : Prop} [Decidable c] (a : c → LawsKept s t) (b : ¬ c → LawsKept s u) : LawsKept s (if c then t else u) := by
  split
  · exact a ‹_›
  · exact b ‹_›

theorem paged_makePoll (i j : Nat) : (s.makePoll i).paged j = s.paged j := by
  have hset (t : State) (p : Poll) : (t.modReefer i fun r => { r with poll := p }).paged j = t.paged j :=
    paged_of_modify (g := fun r => { r with poll := p }) rfl (fun _ _ => rfl) j
  unfold State.makePoll
  split
  · split
    · split
      · unfold State.sendPoll
        split
        · exact hset _ _
        · rfl
      · exact hset _ _
    · rfl
  · rfl

/-- A poll asked for an AWAKE reefer (R146). -/
theorem LawsKept.makePoll (hawake : ∀ r, s.reefers.get? i = some r → r.doze = .awake) : LawsKept s (s.makePoll i) := by
  have howners : (s.makePoll i).owners = s.owners := owners_of_fixed (Keeps.makePoll (x := none) i).fixed
  have hframe := s.makePoll_frame i
  have hserving : (s.makePoll i).reeferServing = s.reeferServing :=
    funext (serving_of_owners howners (by rw [hframe]))
  refine .of_work (own_of_owners howners) (fun _ hs => ?_) fun hs hpolls => ?_
  · rw [hserving]
    unfold State.pagesFor State.pageQueue
    rw [show (s.makePoll i).pageQueues = s.pageQueues by rw [hframe], show (s.makePoll i).paged = s.paged from funext (paged_makePoll i)]
    exact hs
  · rw [hserving]
    exact pollsFor_makePoll hpolls hs.reefers_wf hs.reefersOwned hawake

theorem LawsKept.pollIfOverdue (hawake : ∀ r, s.reefers.get? i = some r → r.doze = .awake) : LawsKept s (s.pollIfOverdue i) := by
  unfold State.pollIfOverdue
  split
  · exact .ite (fun _ => .makePoll hawake) fun _ => .refl s
  · exact .refl s

/-! ### Pages queued -/

/-- A page queued on the head that serves the reefer, with room (R148). -/
theorem LawsKept.queuePage {o : Option ReqTag} (hr : s.reefers.get? i = some r) (hpage : r.page = none)
    (hserving : s.reeferServing i = some h) (hroom : (s.pageQueue h).length < Config.pageEntries) :
    LawsKept s (s.queuePage h i o) := by
  let g : Reefer → Reefer := fun r => { r with page := some { owner := o, attempts := 0, phase := r.doze.pagePhase } }
  have hrecords : (s.queuePage h i o).reefers = s.reefers.modify i g := rfl
  have howners : (s.queuePage h i o).owners = s.owners := owners_of_modify rfl rfl hrecords fun _ => rfl
  have hsame : (s.queuePage h i o).reeferServing = s.reeferServing := funext (serving_of_owners howners rfl)
  refine .of_work (own_of_owners howners) (fun _ hs => ?_) fun hs hpolls => ?_
  · rw [hsame]
    refine pagesFor_join hs hr (fun _ _ => rfl) hserving ?_ hroom hrecords rfl (State.pageQueue_setPageQueue_self s h _) fun k hk =>
      State.pageQueue_setPageQueue_of_ne s _ hk
    simp [State.paged, hr, hpage]
  · rw [hsame]
    exact pollsFor_of_modify hpolls hs.reefers_wf hrecords (fun _ => rfl) (fun r _ => (em (r.doze = .awake)).imp id .inl)
      (fun _ => rfl) fun _ => rfl

theorem LawsKept.internalPage (hserving : s.reeferServing i = some h)
    (hpage : ∀ r, s.reefers.get? i = some r → r.page = none) : LawsKept s (s.internalPage h i) := by
  unfold State.internalPage
  split
  · exact .refl s
  · next r hr => exact .ite (fun _ => .refl s) fun _ => .ite (fun hroom => .queuePage hr (hpage r hr) hserving hroom) fun _ => .refl s

/-! ### Reefer events and expiries -/

theorem doze_of_modReefer (hg : ∀ r, (g r).doze = .awake) : ∀ r, (s.modReefer i g).reefers.get? i = some r → r.doze = .awake := by
  intro r hr
  rw [get?_modReefer] at hr
  obtain ⟨r', -, rfl⟩ := Option.map_eq_some_iff.mp hr
  exact hg r'

theorem doze_endPage (res : Result) (hs : Own s) (hawake : ∀ r, s.reefers.get? i = some r → r.doze = .awake) :
    ∀ r, (s.endPage i res).reefers.get? i = some r → r.doze = .awake := by
  intro r hr
  rw [reefers_endPage hs.reefers_wf, Table.get?_modify_self] at hr
  obtain ⟨r', hr', rfl⟩ := Option.map_eq_some_iff.mp hr
  exact hawake r' hr'

/-- What a step keeps may be shown with owners and records in step. -/
theorem LawsKept.given (h : Own s → LawsKept s t) : LawsKept s t :=
  ⟨fun hs => (h hs).own hs, fun hs => (h hs).pages hs, fun hs => (h hs).polls hs⟩

theorem LawsKept.takePageAnswer (i : Nat) (r : Reefer) : LawsKept s (takePageAnswer i r s) := by
  have hcontact : ReefersKept s (s.setContact i .reachable) := .setContact i .reachable
  refine .given fun hs => .ite (fun _ => (hcontact.trans (.wake i)).laws.trans (.pollIfOverdue ?_)) fun _ => hcontact.laws
  refine doze_endPage .done ?_ (doze_of_modReefer fun _ => rfl)
  exact (hcontact.trans (.modReefer i (fun r => { r with doze := .awake }) fun _ _ => .inl rfl)).own hs

theorem LawsKept.takeDozeAck (code : Byte) (hr : s.reefers.get? i = some r) : LawsKept s (takeDozeAck code i r s) := by
  have hcontact : ReefersKept s (s.setContact i .reachable) := .setContact i .reachable
  refine ReefersKept.laws ?_
  unfold Machine.takeDozeAck
  dsimp only
  split
  · refine .ite (fun hordered => (hcontact.trans (.modReefer i _ fun r' hr' => .inr (.inl ?_))).trans (.releaseAckPage i)) fun _ => hcontact
    have hdoze : r'.doze = r.doze := by
      rw [setContact_eq hr] at hr'
      split at hr'
      · rw [Option.some.inj (hr.symm.trans hr')]
      · rw [State.post_reefers, get?_modReefer, hr] at hr'
        rw [← Option.some.inj hr']
    rw [hdoze, hordered]
    decide
  · exact hcontact

theorem LawsKept.ackExpiry (i : Nat) : LawsKept s (s.ackExpiry i) := by
  have hawake : ReefersKept s (s.modReefer i fun r => { r with doze := .awake, ackTimer := none }) :=
    .modReefer i _ fun _ _ => .inl rfl
  have hdoze := doze_of_modReefer (s := s) (i := i) (g := fun r => { r with doze := .awake, ackTimer := none }) fun _ => rfl
  unfold State.ackExpiry
  split
  · exact .refl s
  · next r _ =>
    refine .given fun hs => .ite (fun _ => ?_) fun _ => .refl s
    cases r.page with
    | none => exact hawake.laws.trans (.pollIfOverdue hdoze)
    | some p =>
      dsimp only
      split
      · exact (hawake.trans (.endPage i _)).laws.trans (.pollIfOverdue (doze_endPage _ (hawake.own hs) hdoze))
      · exact hawake.laws.trans (.pollIfOverdue hdoze)

theorem ReefersKept.pageExpiry (i : Nat) : ReefersKept s (s.pageExpiry i) := by
  unfold State.pageExpiry
  split
  · exact .refl s
  · split
    · exact .refl s
    · exact .ite (fun _ => .ite (fun _ => .modPage i _) fun _ => .failPage i) fun _ => .refl s

theorem LawsKept.overdueAction (i : Nat) : LawsKept s (s.overdueAction i) := by
  unfold State.overdueAction
  split
  · next r h hr hserving =>
    have hsame : ∀ r', s.reefers.get? i = some r' → r' = r := fun r' hr' => Option.some.inj (hr'.symm.trans hr)
    have hpage : LawsKept s (if r.page.isNone then s.internalPage h i else s) :=
      .ite (fun hnone => .internalPage hserving fun r' hr' => by
        rw [hsame r' hr']
        exact Option.isNone_iff_eq_none.mp hnone) fun _ => .refl s
    split
    · next hdoze => exact .makePoll fun r' hr' => (hsame r' hr').symm ▸ hdoze
    · exact hpage
    · exact hpage
    · exact hpage
  · exact .refl s

theorem LawsKept.overdueExpiry (i : Nat) : LawsKept s (s.overdueExpiry i) := by
  unfold State.overdueExpiry
  split
  · exact .refl s
  · refine .ite (fun _ => LawsKept.trans (ReefersKept.laws ?_) (.overdueAction i)) fun _ => .refl s
    exact .sameUse i _ fun _ => ⟨rfl, rfl, rfl, Iff.rfl⟩

/-- The polls of records all changed at once, beside their heads, doze states and polls but for the time. -/
theorem ReefersKept.mapAll (hc : t.contexts = s.contexts) (hl : t.links.map (fun e => (e.1, e.2.owner)) = s.links.map fun e => (e.1, e.2.owner))
    (ht : t.reefers = s.reefers.mapAll g) (hq : t.pageQueues = s.pageQueues) (hw : t.pollWaits = s.pollWaits)
    (hp : ∀ h, (t.account h).polls = (s.account h).polls) (howner : ∀ r, (g r).owner = r.owner)
    (hpage : ∀ r, (g r).page.isSome = r.page.isSome) (hdoze : ∀ r, (g r).doze = r.doze)
    (hnone : ∀ r, r.poll = .none → (g r).poll = .none) (hwaits : ∀ r, ((g r).poll == .waiting) = (r.poll == .waiting))
    (hsent : ∀ r h, (g r).poll.sentBy h = r.poll.sentBy h) : ReefersKept s t := by
  have hget (j : Nat) : t.reefers.get? j = (s.reefers.get? j).map g := by rw [ht]; exact get?_map s.reefers g j
  have howners : t.owners = s.owners := by
    unfold State.owners
    rw [hc, hl, ht, Table.mapAll, List.map_map]
    exact congrArg _ (congrArg _ (List.map_congr_left fun e _ => by simp [howner]))
  have hany (p : Reefer → Bool) (hp : ∀ r, p (g r) = p r) (j : Nat) : (t.reefers.get? j).any p = (s.reefers.get? j).any p := by
    rw [hget]
    cases s.reefers.get? j with
    | none => rfl
    | some r => exact hp r
  refine ⟨⟨own_of_owners howners, fun _ f hs => ?_, fun _ f x hs => ⟨?_, fun j r hr hawake => ?_, fun h hx => ?_⟩⟩,
    fun _ => serving_of_owners howners hc⟩
  · unfold State.pagesFor State.pageQueue
    rw [hq]
    exact ⟨hs.1, hs.2.congr (fun _ => rfl) (fun _ => rfl) (hany _ hpage)⟩
  · refine hs.listed.congr (fun h => ?_) (fun _ => rfl) (hany _ hwaits)
    rw [State.pollWait, hw]
    rfl
  · rw [hget] at hr
    obtain ⟨r', hr', rfl⟩ := Option.map_eq_some_iff.mp hr
    exact hnone r' (hs.awake j r' hr' (hdoze r' ▸ hawake))
  · rw [hp, hs.counts h hx, State.sent, State.sent, ht, Table.mapAll, List.countP_map]
    exact List.countP_congr fun e _ => by simp [hsent]

theorem ReefersKept.secondPass : ReefersKept s s.secondPass := by
  have hsecond (r : Reefer) : r.second.owner = r.owner ∧ r.second.page = r.page ∧ r.second.doze = r.doze ∧ r.second.poll = r.poll := by
    unfold Reefer.second
    split <;> exact ⟨rfl, rfl, rfl, rfl⟩
  refine .ite (fun _ => ?_) fun _ => .refl s
  refine .mapAll (g := Reefer.second) rfl rfl rfl rfl rfl (fun _ => rfl) (fun r => (hsecond r).1) (fun r => ?_) (fun r => ?_)
    (fun r hr => ?_) (fun r => ?_) fun r h => ?_
  all_goals obtain ⟨-, hpage, hdoze, hpoll⟩ := hsecond r
  · rw [hpage]
  · exact hdoze
  · rw [hpoll, hr]
  · rw [hpoll]
  · rw [hpoll]

theorem ReefersKept.count : ReefersKept s s.count := by
  refine .mapAll (g := Reefer.strobe) rfl ?_ rfl rfl rfl (fun _ => rfl) (fun _ => rfl) (fun r => Option.isSome_map) (fun _ => rfl)
    (fun r hr => ?_) (fun r => ?_) fun r h => ?_
  · exact (List.map_map ..).trans rfl
  · exact (congrArg Poll.strobe hr).trans rfl
  · show (r.poll.strobe == .waiting) = _
    cases r.poll <;> rfl
  · show r.poll.strobe.sentBy h = _
    cases r.poll <;> rfl

/-! ### The report of a reefer -/

theorem ReefersKept.classify (i : Nat) : ReefersKept s (s.classify i) := by
  have hset : ReefersKept s (s.modReefer i (classified s.settings)) := .sameUse i _ fun _ => ⟨rfl, rfl, rfl, Iff.rfl⟩
  unfold State.classify
  split
  · exact .refl s
  · exact .ite (fun _ => hset) fun _ => hset.trans (.post _ _)

theorem ReefersKept.wakeByReport (i : Nat) : ReefersKept s (s.wakeByReport i) := by
  unfold State.wakeByReport
  split
  · exact .ite (fun _ => .wake i) fun _ => .refl s
  · exact .refl s

theorem dozeDecision_cases (s : State) (i : Nat) (woken : Bool) : s.dozeDecision i woken = s ∨
    ∃ o n, s.dozeDecision i woken = (s.order o).modReefer i fun r => { r with doze := .ordered, ackTimer := some n } := by
  unfold State.dozeDecision
  split
  · split
    · split
      · exact .inr ⟨_, _, rfl⟩
      · exact .inl rfl
    · exact .inl rfl
  · exact .inl rfl

/-- An order to doze leaves owners, heads and pages (R141). -/
theorem dozeDecision_view (s : State) (i : Nat) (woken : Bool) : (s.dozeDecision i woken).owners = s.owners ∧
    (s.dozeDecision i woken).reeferServing = s.reeferServing ∧ (s.dozeDecision i woken).pageQueues = s.pageQueues ∧
    (s.dozeDecision i woken).paged = s.paged := by
  rcases dozeDecision_cases s i woken with heq | ⟨o, n, heq⟩
  · rw [heq]
    exact ⟨rfl, rfl, rfl, rfl⟩
  · rw [heq]
    let g : Reefer → Reefer := fun r => { r with doze := .ordered, ackTimer := some n }
    have howners : ((s.order o).modReefer i g).owners = s.owners := owners_of_modify rfl rfl rfl fun _ => rfl
    exact ⟨howners, funext (serving_of_owners howners rfl), rfl, funext (paged_of_modify (g := g) rfl fun _ _ => rfl)⟩

/-- A reefer ordered to doze has no poll (R141). -/
theorem pollsFor_dozeDecision (woken : Bool) (hs : s.pollsFor f x) (hwf : s.reefers.wf n)
    (hnone : ∀ r, s.reefers.get? i = some r → r.poll = .none) : (s.dozeDecision i woken).pollsFor f x := by
  rcases dozeDecision_cases s i woken with heq | ⟨o, n, heq⟩
  · rw [heq]
    exact hs
  · rw [heq]
    exact pollsFor_of_modify (g := fun r => { r with doze := .ordered, ackTimer := some n }) hs hwf rfl (fun _ => rfl)
      (fun r hr => .inr (.inr (hnone r hr))) (fun _ => rfl) fun _ => rfl

/-- A poll ended is no poll (R147), of a record that stands in no wait list or waits. -/
theorem poll_of_endPoll_unlisted (hwait : ∀ h, i ∈ s.pollWait h → ∀ r, s.reefers.get? i = some r → r.poll = .waiting)
    (hr : (s.endPoll i).reefers.get? i = some r) : r.poll = .none := by
  cases hy : s.reefers.get? i with
  | none =>
    have hsame : s.endPoll i = s := by
      unfold State.endPoll
      rw [hy]
    rw [hsame, hy] at hr
    cases hr
  | some y =>
    obtain ⟨hget, -⟩ := withoutPoll_spec s i hy fun h hi => hwait h hi y hy
    rw [endPoll_eq hy, hget] at hr
    cases hr
    rfl

theorem poll_of_endPoll (hs : s.pollsFor f x) (hr : (s.endPoll i).reefers.get? i = some r) : r.poll = .none := by
  refine poll_of_endPoll_unlisted (fun h hi y hy => ?_) hr
  obtain ⟨z, hz, hpoll⟩ := waits_eq_true.mp ((hs.listed.mem h i).mp hi).2
  cases hy.symm.trans hz
  exact hpoll

theorem poll_of_classify (hr : (s.classify i).reefers.get? i = some r) (hnone : ∀ r, s.reefers.get? i = some r → r.poll = .none) :
    r.poll = .none := by
  have hset : ∀ r, (s.modReefer i (classified s.settings)).reefers.get? i = some r → r.poll = .none := by
    intro r hr
    rw [get?_modReefer] at hr
    obtain ⟨r', hr', rfl⟩ := Option.map_eq_some_iff.mp hr
    exact hnone r' hr'
  unfold State.classify at hr
  split at hr
  · exact hnone r hr
  · dsimp only at hr
    split at hr
    · exact hset r hr
    · rw [State.post_reefers] at hr
      exact hset r hr

theorem LawsKept.takeReeferReport (i : Nat) (y : Reefer) (fields : ReportFields) : LawsKept s (takeReeferReport i y fields s) := by
  have hstatus : ReefersKept s (((s.modReefer i (replaceStatus fields)).setContact i .reachable).wakeByReport i) :=
    ((ReefersKept.sameUse i _ (by exact fun _ => ⟨rfl, rfl, rfl, Iff.rfl⟩)).trans (.setContact i .reachable)).trans (.wakeByReport i)
  have hpolled : ReefersKept s (((((s.modReefer i (replaceStatus fields)).setContact i .reachable).wakeByReport i).endPoll i).classify i) :=
    (hstatus.trans (.endPoll i)).trans (.classify i)
  obtain ⟨howners, hserving, hqueues, hpaged⟩ := dozeDecision_view
    (((((s.modReefer i (replaceStatus fields)).setContact i .reachable).wakeByReport i).endPoll i).classify i) i (wakeEndsPage y)
  refine .of_work (fun hs => own_of_owners howners (hpolled.own hs)) (fun hs hpages => ?_) fun hs hpolls => ?_
  · have hpages' := hpolled.laws.pages hs ((pageLaw_iff hs.reefers_wf).mpr hpages)
    rw [pageLaw_iff (hpolled.own hs).reefers_wf] at hpages'
    unfold Machine.takeReeferReport State.pagesFor State.pageQueue
    rw [hserving, hqueues, hpaged]
    exact hpages'
  · have hpolls' := hpolled.laws.polls hs ((pollLaw_iff hs.reefers_wf).mpr hpolls)
    rw [pollLaw_iff (hpolled.own hs).reefers_wf] at hpolls'
    unfold Machine.takeReeferReport
    rw [hserving]
    refine pollsFor_dozeDecision _ hpolls' (hpolled.own hs).reefers_wf fun r hr => ?_
    exact poll_of_classify hr fun r' hr' => poll_of_endPoll (hstatus.polls hs _ _ hpolls) hr'

end Sys2Proof.Machine
end

section
/-! The laws of pages and polls (R60, R146, R148) through reports, faults, restarts, ATTACH and RETIRE, and through all
commands. -/

namespace Sys2Proof.Machine

variable {s t u : State} {f f' : Nat → Option HeadIx} {i j k l n : Nat} {c : Context} {h new : HeadIx} {r : Reefer}
  {g : Reefer → Reefer} {x : HeadIx → Prop}

/-! ### Reefers and their contexts -/

/-- A record's context is a REEFER context that names the record (R3). -/
theorem Own.context_of_reefer (hs : Own s) (hr : s.reefers.get? i = some r) :
    ∃ c, s.contexts.get? r.owner = some c ∧ c.cls = .reefer ∧ c.ext = some i := by
  obtain ⟨-, -, -, -, -, hreefers⟩ := hs
  have hany := hreefers _ (Table.mem_of_get? hr)
  cases hc : s.contexts.get? r.owner with
  | none => rw [hc] at hany; cases hany
  | some c =>
    rw [hc] at hany
    simp only [Option.any_some, Bool.and_eq_true, beq_iff_eq] at hany
    exact ⟨c, rfl, hany.1, hany.2⟩

/-- A REEFER context has its record (R3). -/
theorem Own.reefer_of_context (hs : Own s) (hc : s.contexts.get? k = some c) (hcls : c.cls = .reefer) :
    ∃ i r, c.ext = some i ∧ s.reefers.get? i = some r ∧ r.owner = k := by
  obtain ⟨-, -, hreefers, -⟩ := hs
  have hany := hreefers _ (Table.mem_of_get? hc) hcls
  cases he : c.ext with
  | none => simp only [he] at hany; cases hany
  | some i =>
    simp only [he, Option.bind_some] at hany
    cases hr : s.reefers.get? i with
    | none => rw [hr] at hany; cases hany
    | some r =>
      rw [hr] at hany
      exact ⟨i, r, rfl, hr, beq_iff_eq.mp hany⟩

/-- The heads of the reefers after a change of one context's head. -/
theorem reeferServing_modContext (hr : t.reefers = s.reefers) (ht : ∀ j, j ≠ k → t.serves j = s.serves j) (i : Nat)
    (hi : ∀ r, s.reefers.get? i = some r → r.owner ≠ k) : t.reeferServing i = s.reeferServing i := by
  rw [reeferServing_eq_bind, reeferServing_eq_bind, hr]
  cases hri : s.reefers.get? i with
  | none => rfl
  | some r => exact ht r.owner (hi r hri)

theorem serves_modContext_of_ne (s : State) (g : Context → Context) (hj : j ≠ k) : (s.modContext k g).serves j = s.serves j := by
  show ((s.contexts.modify k g).get? j).bind _ = _
  rw [Table.get?_modify_of_ne _ _ hj]
  rfl

theorem contexts_modContext_self (s : State) (k : Nat) (g : Context → Context) :
    (s.modContext k g).contexts.get? k = (s.contexts.get? k).map g := Table.get?_modify_self _ _ _

/-! ### A page and a wait that move (R88, R89) -/

/-- A pending page moves to the queue of the new head, which has room, or ends (R88). -/
theorem pagesFor_movePage (hown : Own s) (hs : s.pagesFor f) (hf : ∀ j, j ≠ i → f' j = f j) (hnew : f' i = some new) :
    (s.movePage i new).pagesFor f' := by
  have hunpaged (hi : s.paged i = false) : s.pagesFor f' := hs.rehead fun j hj => hf j fun hji => by
    rw [hji, hi] at hj
    cases hj
  cases hr : s.reefers.get? i with
  | none =>
    have hsame : s.movePage i new = s := by
      unfold State.movePage
      rw [hr]
    rw [hsame]
    exact hunpaged (paged_of_none hr)
  | some r =>
    cases hp : r.page with
    | none =>
      rw [movePage_of_none hr hp]
      exact hunpaged (by simp [State.paged, hr, hp])
    | some p =>
      obtain ⟨c, hc, -⟩ := hown.context_of_reefer hr
      rw [movePage_of_page hr hp hc]
      split
      · exact (ReefersKept.setContact i .unreachable).pages ((ReefersKept.endPage i _).own hown) _ (pagesFor_endPage hs hf .failed)
      · split
        · exact pagesFor_endPage hs hf .notCovered
        · split
          · next hroom =>
            let v := s.leavePageQueues i
            have hrecords : ((v.modPage i fun q => { q with attempts := p.resent.attempts, phase := p.resent.phase }).setPageQueue new
                ((s.pageQueue new).filter (· != i) ++ [i])).reefers = s.reefers.modify i fun r =>
                  { r with page := r.page.map fun q => { q with attempts := p.resent.attempts, phase := p.resent.phase } } := rfl
            have hgone : ((s.leavePageQueues i).modReefer i fun r => { r with page := none }).pagesFor f :=
              pagesFor_leave hs (fun _ _ => rfl) rfl (pageQueue_leavePageQueues s i)
            refine pagesFor_join (s := (s.leavePageQueues i).modReefer i fun r => { r with page := none })
              (r := { r with page := none }) (g := fun _ => { r with page := some { p with attempts := p.resent.attempts, phase := p.resent.phase } })
              hgone ?_ hf hnew ?_ ?_ ?_ rfl ?_ fun k hk => ?_
            · rw [get?_modReefer, show (s.leavePageQueues i).reefers = s.reefers from rfl, hr]
              rfl
            · rw [State.paged, get?_modReefer, show (s.leavePageQueues i).reefers = s.reefers from rfl, hr]
              rfl
            · show ((s.leavePageQueues i).pageQueue new).length < _
              rw [pageQueue_leavePageQueues]
              exact Nat.lt_of_le_of_lt (List.length_filter_le _ _) hroom
            · rw [hrecords]
              show _ = (s.reefers.modify i fun r => { r with page := none }).modify i _
              rw [Table.modify_modify, Table.modify_eq_const hown.reefers_wf hr, hp]
              rfl
            · rw [State.pageQueue_setPageQueue_self]
              exact congrArg (· ++ [i]) (pageQueue_leavePageQueues s i new).symm
            · rw [State.pageQueue_setPageQueue_of_ne _ _ hk]
              rfl
          · exact pagesFor_endPage hs hf .noPath

/-- What a page that moves leaves: owners, contexts and polls. -/
theorem movePage_view (hown : Own s) (i : Nat) (new : HeadIx) : (s.movePage i new).owners = s.owners ∧
    (s.movePage i new).contexts = s.contexts ∧ ∀ f x, s.pollsFor f x → (s.movePage i new).pollsFor f x := by
  have hfixed := owners_of_fixed (Keeps.movePage (x := none) (s := s) i new).fixed
  cases hr : s.reefers.get? i with
  | none =>
    have hsame : s.movePage i new = s := by
      unfold State.movePage
      rw [hr]
    rw [hsame]
    exact ⟨rfl, rfl, fun _ _ => id⟩
  | some r =>
    cases hp : r.page with
    | none =>
      rw [movePage_of_none hr hp]
      exact ⟨rfl, rfl, fun _ _ => id⟩
    | some p =>
      obtain ⟨c, hc, -⟩ := hown.context_of_reefer hr
      obtain ⟨hframe, -⟩ := movePage_spec hr hp hc new
      refine ⟨hfixed, by rw [hframe], fun f x hs => ?_⟩
      rw [movePage_of_page hr hp hc]
      split
      · exact (ReefersKept.failPage i).polls hown _ _ hs
      · split
        · exact (ReefersKept.endPage i _).polls hown _ _ hs
        · split
          · exact pollsFor_of_modify (g := fun r =>
                { r with page := r.page.map fun q => { q with attempts := p.resent.attempts, phase := p.resent.phase } })
              hs hown.reefers_wf rfl (fun _ => rfl) (fun r _ => (em (r.doze = .awake)).imp id .inl) (fun _ => rfl) fun _ => rfl
          · exact (ReefersKept.endPage i _).polls hown _ _ hs

/-- A wait moves to the list of the new head, which is then passed over (R89). -/
theorem pollsFor_moveWait (hown : Own s) (hs : s.pollsFor f x) (hf : ∀ j, j ≠ i → f' j = f j) (hnew : f' i = some new) :
    (s.moveWait i new).pollsFor f' x := by
  have hstays (hi : s.waits i = false) : s.pollsFor f' x := hs.rehead fun j hj => hf j fun hji => by
    rw [hji, hi] at hj
    cases hj
  cases hr : s.reefers.get? i with
  | none =>
    have hsame : s.moveWait i new = s := by
      unfold State.moveWait
      rw [hr]
    rw [hsame]
    exact hstays (by rw [State.waits, hr]; rfl)
  | some r =>
    rw [moveWait_eq hr]
    split
    · next hpoll =>
      refine pollsFor_waitPass (n := Config.reeferRecords)
        (s := (s.leaveWaitLists i).setPollWait new ((s.pollWait new).filter (· != i) ++ [i]))
        ⟨?_, hs.awake, hs.counts⟩ hown.reefers_wf hown.reefersOwned new
      have hleft : Listed (fun h => (s.pollWait h).filter (· != i)) f fun j => j != i && s.waits j :=
        hs.listed.leave (i := i) (fun _ _ => rfl) (fun j hj => by simp [hj]) (by simp) fun _ => rfl
      refine hleft.join (i := i) (h := new) hf (fun j hj => ?_) (by simp) hnew ?_ ?_ fun k hk => ?_
      · simp only [bne_iff_ne.mpr hj, Bool.true_and]
        rfl
      · exact waits_eq_true.mpr ⟨r, hr, hpoll⟩
      · exact State.pollWait_setPollWait_self _ _ _
      · rw [State.pollWait_setPollWait_of_ne _ _ hk]
        exact get_mapEach _ _ k
    · next hpoll => exact hstays (by simp [State.waits, hr, hpoll])

/-- What a wait that moves leaves: owners, contexts and pages. -/
theorem moveWait_view (s : State) (i : Nat) (new : HeadIx) : (s.moveWait i new).owners = s.owners ∧
    (s.moveWait i new).contexts = s.contexts ∧ ∀ f, s.pagesFor f → (s.moveWait i new).pagesFor f := by
  have hfixed := owners_of_fixed (Keeps.moveWait (x := none) (s := s) i new).fixed
  cases hr : s.reefers.get? i with
  | none =>
    have hsame : s.moveWait i new = s := by
      unfold State.moveWait
      rw [hr]
    rw [hsame]
    exact ⟨rfl, rfl, fun _ => id⟩
  | some r =>
    obtain ⟨⟨hcontexts, -, -, hqueues⟩, -⟩ := moveWait_spec hr new
    refine ⟨hfixed, hcontexts, fun f hs => ?_⟩
    have hpaged : (s.moveWait i new).paged = s.paged := by
      rw [moveWait_eq hr]
      split
      · exact funext fun j => (polledThrough_waitPass _ new).paged j
      · rfl
    unfold State.pagesFor State.pageQueue
    rw [hqueues, hpaged]
    exact hs

/-! ### Reports -/

/-- The page and the wait of a reefer follow it to its new head, `f'` (R88, R89). -/
theorem moveReeferWork_keeps (hown : Own s) (hcls : c.cls = .reefer) (hext : c.ext = some i) (hf : ∀ j, j ≠ i → f' j = f j)
    (hnew : f' i = some new) : (s.moveReeferWork c new).owners = s.owners ∧ (s.moveReeferWork c new).contexts = s.contexts ∧
      (s.pagesFor f → (s.moveReeferWork c new).pagesFor f') ∧ ∀ x, s.pollsFor f x → (s.moveReeferWork c new).pollsFor f' x := by
  obtain ⟨howners, hcontexts, hpolls⟩ := movePage_view hown i new
  obtain ⟨howners', hcontexts', hpages'⟩ := moveWait_view (s.movePage i new) i new
  rw [moveReeferWork_of_reefer hcls hext]
  refine ⟨howners'.trans howners, hcontexts'.trans hcontexts, fun hs => ?_, fun x hs => ?_⟩
  · exact hpages' _ (pagesFor_movePage hown hs hf hnew)
  · exact pollsFor_moveWait (own_of_owners howners hown) (hpolls f x hs) hf hnew

theorem owners_modContext (s : State) (k : Nat) (g : Context → Context) (hg : ∀ c, (g c).ids = c.ids) :
    (s.modContext k g).owners = s.owners := by
  unfold State.owners
  rw [show (s.modContext k g).contexts = s.contexts.modify k g from rfl, Table.map_modify_of_forall (g := Context.ids) hg]
  rfl

/-- An immediate handover (R87 to R89). -/
theorem LawsKept.immediateHandover {d : Context} (old : HeadIx) (hd : s.contexts.get? k = some d) (hids : c.ids = d.ids) :
    LawsKept s (s.immediateHandover k c old new) := by
  let s1 := (s.modContext k fun c => c.serveOn new).order (.serveOrder c.tag (some old) new)
  have howners : s1.owners = s.owners := owners_modContext s k (fun c => c.serveOn new) fun _ => rfl
  have hstarted : WorkKept s s1 := .of_same (own_of_owners howners) rfl rfl rfl fun _ => rfl
  have hcls : c.cls = d.cls := congrArg (fun p => p.2.1) hids
  have hext : c.ext = d.ext := congrArg (fun p => p.2.2) hids
  have hne : ∀ j, j ≠ k → s1.serves j = s.serves j := fun j hj => serves_modContext_of_ne s (fun c => c.serveOn new) hj
  have hpost (v : State) : ReefersKept v (v.post (.context k) (.handoverDone (some old) new .trigger)) := .post _ _
  refine .given fun hs => ?_
  have hmain : LawsKept s (s1.moveReeferWork c new) := by
    by_cases hreefer : c.cls = .reefer
    · obtain ⟨i, r, hi, hr, hk⟩ := hs.reefer_of_context hd (hcls.symm.trans hreefer)
      have hf : ∀ j, j ≠ i → s1.reeferServing j = s.reeferServing j := by
        intro j hj
        refine reeferServing_modContext (s := s) (t := s1) rfl hne j fun r' hr' hk' => hj ?_
        obtain ⟨d', hd', -, hext'⟩ := hs.context_of_reefer hr'
        rw [hk', hd] at hd'
        cases hd'
        exact Option.some.inj (hext'.symm.trans hi)
      have hnew : s1.reeferServing i = some new := by
        rw [reeferServing_eq_bind, show s1.reefers.get? i = some r from hr]
        show ((s.contexts.modify k fun c => c.serveOn new).get? r.owner).bind _ = _
        rw [hk, Table.get?_modify_self, hd]
        rfl
      obtain ⟨howners', hcontexts, hpages, hpolls⟩ := moveReeferWork_keeps (s := s1) (hstarted.own hs) hreefer (hext.trans hi) hf hnew
      have hserving : (s1.moveReeferWork c new).reeferServing = s1.reeferServing :=
        funext (serving_of_owners howners' hcontexts)
      refine .of_work (own_of_owners (howners'.trans howners)) (fun _ h => ?_) fun _ h => ?_
      · rw [hserving]
        exact hpages (hstarted.pages hs _ h)
      · rw [hserving]
        exact hpolls _ (hstarted.polls hs _ _ h)
    · rw [moveReeferWork_of_other hreefer]
      refine ReefersKept.laws ⟨hstarted, fun hs i => reeferServing_modContext (s := s) (t := s1) rfl hne i fun r hr hk => ?_⟩
      obtain ⟨d', hd', hcls', -⟩ := hs.context_of_reefer hr
      rw [hk, hd] at hd'
      cases hd'
      exact hreefer (hcls.trans hcls')
  exact hmain.trans (hpost _).laws

/-- A context without a head takes one: its reefer, if it has one, has neither page nor wait (R83). -/
theorem LawsKept.reEnter {tag : Tag} (hnone : s.serves k = none) : LawsKept s (s.reEnter k tag h) := by
  let s1 := (s.modContext k fun c => c.serveOn h).order (.serveOrder tag none h)
  have howners : s1.owners = s.owners := owners_modContext s k (fun c => c.serveOn h) fun _ => rfl
  have hstarted : WorkKept s s1 := .of_same (own_of_owners howners) rfl rfl rfl fun _ => rfl
  have hsame (i : Nat) (hi : (s.reeferServing i).isSome) : s1.reeferServing i = s.reeferServing i := by
    refine reeferServing_modContext (s := s) (t := s1) rfl (fun j hj => serves_modContext_of_ne s (fun c => c.serveOn h) hj) i fun r hr hk => ?_
    rw [reeferServing_eq_bind, hr] at hi
    simp only [Option.map_some, Option.bind_some, hk, hnone] at hi
    cases hi
  refine LawsKept.trans (t := s1) (.of_work hstarted.own (fun hs hpages => ?_) fun hs hpolls => ?_) (ReefersKept.laws (.post _ _))
  · refine (hstarted.pages hs _ hpages).rehead fun i hi => hsame i ?_
    exact hpages.2.served i hi
  · refine (hstarted.polls hs _ _ hpolls).rehead fun i hi => hsame i ?_
    exact hpolls.listed.served i hi

theorem ReefersKept.cranePath (units : Nat) : ReefersKept s (s.cranePath k l units h) := by
  unfold State.cranePath
  split
  · exact (ReefersKept.join h .prepared l units).trans (.modLink l _)
  · exact .post _ _
  · exact .post _ _

theorem LawsKept.stageFive {d : Context} {list : List Candidate} (hd : s.contexts.get? k = some d) (hids : c.ids = d.ids) :
    LawsKept s (stageFive s k c h list) := by
  unfold Machine.stageFive
  refine .ite (fun _ => .refl s) fun _ => ?_
  dsimp only
  split
  · split
    · exact ReefersKept.laws (.cranePath _)
    · exact .refl s
  · split
    · exact .immediateHandover h hd hids
    · exact .refl s

theorem LawsKept.takeReport {es : List MeasEntry} (hc : s.contexts.get? k = some c) : LawsKept s (takeReport k c es s) := by
  unfold Machine.takeReport
  dsimp only
  cases hserving : c.serving with
  | none =>
    dsimp only
    generalize stageScore s c _ = scored
    have hfiled : ReefersKept s (s.modContext k fun c => { c with cands := scored, lastReport := some s.frame }) := .modContext k _
    cases scored with
    | nil => exact hfiled.laws
    | cons e rest =>
      refine hfiled.laws.trans (.reEnter ?_)
      rw [State.serves, contexts_modContext_self, hc]
      exact hserving
  | some h =>
    dsimp only
    generalize stageTrigger _ h _ = counted
    generalize followSector c _ = sector
    have hfiled : ReefersKept s (s.modContext k fun c => { c with cands := counted, sector := sector, lastReport := some s.frame }) :=
      .modContext k _
    refine hfiled.laws.trans (.stageFive (d := { c with cands := counted, sector := sector, lastReport := some s.frame }) ?_ rfl)
    rw [contexts_modContext_self, hc]
    rfl

/-! ### The fault of a head -/

/-- The polls of a head out of service stand still, and no head changes its state. -/
structure PollsStill (h : HeadIx) (s t : State) : Prop where
  heads : t.heads = s.heads
  polls : (s.head h).state.inService = false → (t.account h).polls = (s.account h).polls

theorem PollsStill.refl (h : HeadIx) (s : State) : PollsStill h s s := ⟨rfl, fun _ => rfl⟩

theorem PollsStill.trans (a : PollsStill h s t) (b : PollsStill h t u) : PollsStill h s u := by
  refine ⟨b.heads.trans a.heads, fun hout => (b.polls ?_).trans (a.polls hout)⟩
  rw [head_of_heads a.heads]
  exact hout

theorem PollsStill.of_same (hheads : t.heads = s.heads) (hair : t.airtime = s.airtime) : PollsStill h s t :=
  ⟨hheads, fun _ => by rw [account_of_airtime hair]⟩

theorem PollsStill.post (sub : Subject) (d : NoticeContent) : PollsStill h s (s.post sub d) :=
  .of_same (s.post_heads sub d) (s.post_airtime sub d)

theorem PollsStill.modLink (l : Nat) (f : CraneLink → CraneLink) : PollsStill h s (s.modLink l f) := .of_same rfl rfl

theorem PollsStill.modContext (k : Nat) (f : Context → Context) : PollsStill h s (s.modContext k f) := .of_same rfl rfl

theorem PollsStill.order (o : Order) : PollsStill h s (s.order o) := .of_same rfl rfl

theorem PollsStill.waitPass (m : HeadIx) : PollsStill h s (s.waitPass m) := by
  obtain ⟨hheads, -, -, hothers, -⟩ := (polledThrough_waitPass s m).fields
  refine ⟨hheads, fun hout => ?_⟩
  by_cases hm : h = m
  · subst hm
    have hnone : s.creditGiven h = false := by rw [State.creditGiven, hout]; rfl
    have hsame : s.waitPass h = s := by
      unfold State.waitPass
      cases s.pollWait h with
      | nil => rfl
      | cons i rest => rw [waitPassFrom, hnone]; rfl
    rw [hsame]
  · rw [hothers h hm]

theorem PollsStill.modAccount (m : HeadIx) (a : Account → Account) (ha : ∀ b, (a b).polls = b.polls := by exact fun _ => rfl) :
    PollsStill h s (s.modAccount m a) := by
  refine ⟨rfl, fun _ => ?_⟩
  by_cases hm : h = m
  · subst hm
    show ((s.setAccount h (a (s.account h))).account h).polls = _
    rw [State.account_setAccount_self, ha]
  · show ((s.setAccount m (a (s.account m))).account h).polls = _
    rw [State.account_setAccount_of_ne _ _ hm]

theorem PollsStill.fit (m : HeadIx) : PollsStill h s (s.fit m) := by
  have hset : PollsStill h s (s.modAccount m fun a => { a with wg := grantedWindow (s.head m) (s.account m) }) := .modAccount m _
  unfold State.fit
  dsimp only
  split
  · exact hset.trans (.waitPass m)
  · exact hset

theorem PollsStill.enterSafeStop (cause : SafeCause) : PollsStill h s (s.enterSafeStop l cause) := by
  unfold State.enterSafeStop
  split
  · exact .refl h s
  · exact (PollsStill.modLink l _).trans (.post _ _)

theorem PollsStill.loseHead (m : HeadIx) (held : Bool) : PollsStill h s (s.loseHead l m held) := by
  unfold State.loseHead
  split
  · unfold State.rescue
    split
    · have hserve (k : Nat) (t : HeadIx) : PollsStill h s ((s.modContext k fun c => c.serveOn t).convert t l) :=
        (PollsStill.modContext k _).trans ((PollsStill.modAccount t _).trans (.fit t))
      exact (((hserve _ _).trans (.modLink l _)).trans (.order _)).trans (.post _ _)
    · exact .refl h s
  · unfold State.losePath
    split
    · exact .refl h s
    · split
      · exact .enterSafeStop .pathLost
      · exact .enterSafeStop .pathLost
      · split
        · exact .enterSafeStop .pathLost
        · exact .refl h s
      · exact .refl h s

theorem PollsStill.faultContext (held : List Nat) (k : Nat) : PollsStill h s (faultContext h held k s) := by
  unfold Machine.faultContext
  split
  · exact .refl h s
  · next c _ =>
    have hlost : PollsStill h s (s.modContext k fun c =>
        { c with
          cands := c.cands.filter fun e => e.head != h
          serving := if c.serving = some h then none else c.serving }) := .of_same rfl rfl
    dsimp only
    split
    · split
      · exact (hlost.trans (.post _ _)).trans (.loseHead h _)
      · exact hlost.trans (.post _ _)
    · exact hlost

theorem PollsStill.faultContexts (held ks : List Nat) : PollsStill h s (faultContexts h held ks s) := by
  induction ks generalizing s with
  | nil => exact .refl h s
  | cons k ks ih => exact (PollsStill.faultContext held k).trans ih

/-- A context that loses its head `h`, and its entry for it (R4, R11). -/
def Context.lostHead (h : HeadIx) (c : Context) : Context :=
  { c with cands := c.cands.filter fun e => e.head != h, serving := if c.serving = some h then none else c.serving }

theorem WorkKept.modContext (k : Nat) (g : Context → Context) (hg : ∀ c, (g c).ids = c.ids) : WorkKept s (s.modContext k g) :=
  .of_same (own_of_owners (owners_modContext s k g hg)) rfl rfl rfl fun _ => rfl

/-- What the fault of a head does to one context, after the head is gone from it (R4, R36). -/
theorem faultContext_after (held : List Nat) (hc : s.contexts.get? k = some c) :
    ReefersKept (s.modContext k (Context.lostHead h)) (faultContext h held k s) := by
  unfold Machine.faultContext
  rw [hc]
  dsimp only
  split
  · have hlost : ReefersKept (s.modContext k (Context.lostHead h)) ((s.modContext k (Context.lostHead h)).post (.context k) .serveLost) :=
      .post _ _
    split
    · exact hlost.trans (.loseHead _ h _)
    · exact hlost
  · exact .refl _

/-- What the fault of a head does to one context leaves pages and polls. -/
theorem WorkKept.faultContext (h : HeadIx) (held : List Nat) (k : Nat) : WorkKept s (faultContext h held k s) := by
  cases hc : s.contexts.get? k with
  | none =>
    have hsame : Machine.faultContext h held k s = s := by
      unfold Machine.faultContext
      rw [hc]
    rw [hsame]
    exact .refl s
  | some c => exact (WorkKept.modContext k (Context.lostHead h) fun _ => rfl).trans (faultContext_after held hc).toWorkKept

/-- A reefer of the context loses the head, and no other (R4). -/
theorem reeferServing_faultContext (hs : Own s) (held : List Nat) (hr : s.reefers.get? i = some r) :
    (faultContext h held k s).reeferServing i = if r.owner = k ∧ s.reeferServing i = some h then none else s.reeferServing i := by
  cases hc : s.contexts.get? k with
  | none =>
    have hsame : Machine.faultContext h held k s = s := by
      unfold Machine.faultContext
      rw [hc]
    obtain ⟨c, hc', -⟩ := hs.context_of_reefer hr
    rw [hsame, if_neg fun hand => by rw [hand.1, hc] at hc'; cases hc']
  | some c =>
    have hown : Own (s.modContext k (Context.lostHead h)) := own_of_owners (owners_modContext s k (Context.lostHead h) fun _ => rfl) hs
    rw [(faultContext_after held hc).serving hown]
    by_cases hk : r.owner = k
    · have hold : s.reeferServing i = c.serving := by
        rw [reeferServing_eq_bind, hr]
        show (s.contexts.get? r.owner).bind _ = _
        rw [hk, hc]
        rfl
      have hnew : (s.modContext k (Context.lostHead h)).reeferServing i = if c.serving = some h then none else c.serving := by
        rw [reeferServing_eq_bind, show (s.modContext k (Context.lostHead h)).reefers.get? i = some r from hr]
        show ((s.modContext k (Context.lostHead h)).contexts.get? r.owner).bind _ = _
        rw [hk, contexts_modContext_self, hc]
        rfl
      rw [hnew, hold]
      by_cases hserves : c.serving = some h
      · rw [if_pos hserves, if_pos ⟨hk, hserves⟩]
      · rw [if_neg hserves, if_neg fun hand => hserves hand.2]
    · rw [if_neg fun hand => hk hand.1]
      refine reeferServing_modContext (s := s) (t := s.modContext k (Context.lostHead h)) rfl
        (fun j hj => serves_modContext_of_ne s (Context.lostHead h) hj) i fun r' hr' => ?_
      rw [Option.some.inj (hr'.symm.trans hr)]
      exact hk

theorem WorkKept.faultContexts (h : HeadIx) (held ks : List Nat) : WorkKept s (faultContexts h held ks s) := by
  induction ks generalizing s with
  | nil => exact .refl s
  | cons k ks ih => exact (WorkKept.faultContext h held k).trans ih

theorem owners_faultContexts (h : HeadIx) (held ks : List Nat) (s : State) : (faultContexts h held ks s).owners = s.owners :=
  owners_of_fixed (Keeps.faultContexts (x := none) h held ks).fixed

/-- The head is gone from the reefers of the contexts given. -/
theorem reeferServing_faultContexts (hs : Own s) (held ks : List Nat) (hr : s.reefers.get? i = some r) :
    (faultContexts h held ks s).reeferServing i = if r.owner ∈ ks ∧ s.reeferServing i = some h then none else s.reeferServing i := by
  induction ks generalizing s r with
  | nil => simp [Machine.faultContexts]
  | cons k ks ih =>
    have hone := reeferServing_faultContext (k := k) (h := h) hs held hr
    have howners : (Machine.faultContext h held k s).owners = s.owners :=
      owners_of_fixed (Keeps.faultContext (x := none) h held k).fixed
    have howner := owner_of_owners howners i
    rw [hr] at howner
    obtain ⟨r', hr', howner'⟩ := Option.map_eq_some_iff.mp howner
    rw [Machine.faultContexts, ih ((WorkKept.faultContext h held k).own hs) hr', howner', hone]
    by_cases hk : r.owner = k <;> by_cases hserving : s.reeferServing i = some h <;> by_cases hin : r.owner ∈ ks <;> simp_all

/-- A head's fault leaves none of its reefers with it, once it has been taken to every context (R4). -/
theorem reeferServing_afterFault (hs : Own s) (held : List Nat) (i : Nat) :
    (faultContexts h held s.contexts.keys s).reeferServing i = if s.reeferServing i = some h then none else s.reeferServing i := by
  cases hr : s.reefers.get? i with
  | none =>
    have howner := owner_of_owners (owners_faultContexts h held s.contexts.keys s) i
    rw [hr] at howner
    rw [reeferServing_eq_bind, reeferServing_eq_bind, howner, hr]
    rfl
  | some r =>
    obtain ⟨c, hc, -⟩ := hs.context_of_reefer hr
    have hkey : r.owner ∈ s.contexts.keys := (Table.mem_keys _ _).mpr (by rw [hc]; rfl)
    rw [reeferServing_faultContexts hs held _ hr]
    simp [hkey]

theorem get?_map_keyed {α β : Type} (m : Table α) (F : Nat × α → β) (j : Nat) :
    Table.get? (m.map fun e => (e.1, F e)) j = (m.get? j).map fun v => F (j, v) := by
  induction m with
  | nil => rfl
  | cons e m ih =>
    obtain ⟨k, v⟩ := e
    simp only [List.map_cons, Table.get?, ih]
    split
    · next hk => rw [hk]; rfl
    · rfl

/-- A record behind the fault of a head whose wait list was `waiting` (R37). -/
def Reefer.afterFault (h : HeadIx) (waiting : List Nat) (e : Nat × Reefer) : Reefer :=
  { e.2 with poll := pollAfterFault h waiting e }

/-- The pages of a faulted head end (R37). -/
theorem pagesFor_faultReefers (hs : s.pagesFor f) (hown : Own s) (hf : ∀ i, f i ≠ some h → f' i = f i) :
    (s.faultReefers h).pagesFor f' := by
  have hqueue : (endPages .noPath (s.pageQueue h) s).pageQueue h = [] := by
    rw [endPages_eq .noPath _ s (hs.2.nodup h) fun i hi => ?_]
    · show (mapEach _ s.pageQueues).get h = []
      rw [get_mapEach]
      exact List.filter_eq_nil_iff.mpr fun i hi => by
        have : i ∈ s.pageQueue h := hi
        simp [this]
    · have hpaged := ((hs.2.mem h i).mp hi).2
      unfold State.paged at hpaged
      cases hr : s.reefers.get? i with
      | none => rw [hr] at hpaged; cases hpaged
      | some r =>
        rw [hr] at hpaged
        obtain ⟨p, hp⟩ := Option.isSome_iff_exists.mp hpaged
        exact ⟨r, p, rfl, hp⟩
  have hended := (ReefersKept.endPages .noPath (s.pageQueue h)).pages hown f hs
  rw [faultReefers_eq]
  generalize endPages .noPath (s.pageQueue h) s = w at hqueue hended
  have hrehead : w.pagesFor f' := hended.rehead fun i hi => hf i fun hfi => by
    have := (hended.2.mem h i).mpr ⟨hfi, hi⟩
    rw [hqueue] at this
    cases this
  have hq (g : HeadIx) : (w.setPageQueue h []).pageQueue g = w.pageQueue g := by
    by_cases hg : g = h
    · rw [hg, State.pageQueue_setPageQueue_self, hqueue]
    · exact State.pageQueue_setPageQueue_of_ne _ _ hg
  refine ⟨fun g => ?_, hrehead.2.congr hq (fun _ => rfl) fun i => ?_⟩
  · exact (congrArg List.length (hq g)).trans_le (hrehead.1 g)
  · have hget := get?_map_keyed w.reefers (Reefer.afterFault h (w.pollWait h)) i
    show (Table.get? (w.reefers.map fun e => (e.1, Reefer.afterFault h (w.pollWait h) e)) i).any _ = _
    rw [hget, State.paged]
    cases w.reefers.get? i <;> rfl

theorem pollAfterFault_sentBy_self (h : HeadIx) (waiting : List Nat) (e : Nat × Reefer) :
    (pollAfterFault h waiting e).sentBy h = false := by
  unfold pollAfterFault
  split
  · rfl
  · split
    · next k n hp =>
      split
      · rfl
      · next hk => rw [hp]; exact beq_false_of_ne hk
    · next hp =>
      cases hpoll : e.2.poll with
      | none => rfl
      | waiting => rfl
      | outstanding k n => exact absurd hpoll (hp k n)

theorem pollAfterFault_waiting (h : HeadIx) (waiting : List Nat) (e : Nat × Reefer) :
    (pollAfterFault h waiting e == .waiting) = (!waiting.contains e.1 && e.2.poll == .waiting) := by
  unfold pollAfterFault
  by_cases hin : waiting.contains e.1 = true
  · rw [if_pos hin, hin]
    rfl
  · rw [if_neg hin, Bool.eq_false_iff.mpr hin]
    cases hp : e.2.poll with
    | none => rfl
    | waiting => rfl
    | outstanding k n => dsimp only; split <;> rfl

theorem pollAfterFault_sentBy_of_ne {g : HeadIx} {waiting : List Nat} {e : Nat × Reefer} (hg : g ≠ h)
    (hwaiting : e.1 ∈ waiting → e.2.poll = .waiting) : (pollAfterFault h waiting e).sentBy g = e.2.poll.sentBy g := by
  unfold pollAfterFault
  by_cases hin : waiting.contains e.1 = true
  · rw [if_pos hin, hwaiting (List.contains_iff_mem.mp hin)]
    rfl
  · rw [if_neg hin]
    cases hp : e.2.poll with
    | none => rfl
    | waiting => rfl
    | outstanding k n =>
      dsimp only
      split
      · next hk => rw [hk]; exact (beq_false_of_ne (Ne.symm hg)).symm
      · rfl

/-- The waits and polls of a faulted head end (R37). -/
theorem pollsFor_faultReefers (hs : s.pollsFor f fun g => g ≠ h) (hown : Own s) (hzero : (s.account h).polls = 0)
    (hf : ∀ i, f i ≠ some h → f' i = f i) (hgone : ∀ i, f' i ≠ some h) : (s.faultReefers h).pollsFor f' fun _ => True := by
  have hended := (ReefersKept.endPages .noPath (s.pageQueue h)).polls hown f _ hs
  have hwf : (endPages .noPath (s.pageQueue h) s).reefers.wf Config.reeferRecords :=
    ((ReefersKept.endPages .noPath (s.pageQueue h)).own hown).reefers_wf
  have hzero' : ((endPages .noPath (s.pageQueue h) s).account h).polls = 0 := by
    rw [account_of_airtime (s := s) (by rw [endPages_frame .noPath _ s])]
    exact hzero
  rw [faultReefers_eq]
  generalize endPages .noPath (s.pageQueue h) s = w at hended hwf hzero'
  obtain ⟨t, ht⟩ : ∃ t : State, t = { (w.setPageQueue h []).setPollWait h [] with reefers := w.reefers.map fun e => (e.1, Reefer.afterFault h (w.pollWait h) e) } :=
    ⟨_, rfl⟩
  change State.pollsFor { (w.setPageQueue h []).setPollWait h [] with reefers := w.reefers.map fun e => (e.1, Reefer.afterFault h (w.pollWait h) e) } f' _
  rw [← ht]
  have hget (j : Nat) : t.reefers.get? j = (w.reefers.get? j).map fun v => Reefer.afterFault h (w.pollWait h) (j, v) := by
    rw [ht]
    exact get?_map_keyed w.reefers (Reefer.afterFault h (w.pollWait h)) j
  have hwaits (j : Nat) : t.waits j = (!(w.pollWait h).contains j && w.waits j) := by
    unfold State.waits
    rw [hget]
    cases w.reefers.get? j with
    | none => simp
    | some v => exact pollAfterFault_waiting h _ (j, v)
  have hqself : t.pollWait h = [] := by rw [ht]; exact State.pollWait_setPollWait_self (w.setPageQueue h []) h []
  have hq (g : HeadIx) (hg : g ≠ h) : t.pollWait g = w.pollWait g := by
    rw [ht]
    exact State.pollWait_setPollWait_of_ne (w.setPageQueue h []) [] hg
  refine ⟨⟨fun g => ?_, fun g j => ?_, fun j hj => ?_⟩, fun j r hr hawake => ?_, fun g _ => ?_⟩
  · by_cases hg : g = h
    · rw [hg, hqself]
      exact List.nodup_nil
    · rw [hq g hg]
      exact hended.listed.nodup g
  · by_cases hg : g = h
    · rw [hg, hqself]
      exact ⟨nofun, fun hand => absurd hand.1 (hgone j)⟩
    · rw [hq g hg, hended.listed.mem g j, hwaits]
      by_cases hfj : f j = some h
      · refine ⟨fun hand => absurd (Option.some.inj (hand.1.symm.trans hfj)) hg, fun ⟨_, hand⟩ => ?_⟩
        simp only [Bool.and_eq_true, Bool.not_eq_true'] at hand
        have hin := List.contains_iff_mem.mpr ((hended.listed.mem h j).mpr ⟨hfj, hand.2⟩)
        rw [hand.1] at hin
        cases hin
      · have hout : (w.pollWait h).contains j = false :=
          Bool.eq_false_iff.mpr fun hin => hfj ((hended.listed.mem h j).mp (List.contains_iff_mem.mp hin)).1
        rw [hf j hfj, hout]
        simp
  · rw [hwaits, Bool.and_eq_true, Bool.not_eq_true'] at hj
    have hfj : f j ≠ some h := fun hfj => by
      have hin := List.contains_iff_mem.mpr ((hended.listed.mem h j).mpr ⟨hfj, hj.2⟩)
      rw [hj.1] at hin
      cases hin
    rw [hf j hfj]
    exact hended.listed.served j hj.2
  · rw [hget] at hr
    obtain ⟨v, hv, rfl⟩ := Option.map_eq_some_iff.mp hr
    have hnone := hended.awake j v hv hawake
    show pollAfterFault h (w.pollWait h) (j, v) = .none
    unfold pollAfterFault
    split
    · rfl
    · rw [show ((j, v) : Nat × Reefer).2.poll = .none from hnone]
  · have hsent : t.sent g = w.reefers.countP fun e => (pollAfterFault h (w.pollWait h) e).sentBy g := by
      rw [State.sent, ht]
      exact List.countP_map ..
    have hacc : t.account g = w.account g := by rw [ht]; rfl
    rw [hacc, hsent]
    by_cases hg : g = h
    · rw [hg, hzero', List.countP_eq_zero.mpr fun e _ => by rw [pollAfterFault_sentBy_self]; nofun]
    · rw [hended.counts g hg]
      refine List.countP_congr fun e he => ?_
      rw [pollAfterFault_sentBy_of_ne hg fun hin => ?_]
      obtain ⟨r, hr, hpoll⟩ := waits_eq_true.mp ((hended.listed.mem h e.1).mp hin).2
      rw [Option.some.inj ((Table.get?_of_mem hwf he).symm.trans hr)]
      exact hpoll

theorem owners_faultReefers (h : HeadIx) (s : State) : (s.faultReefers h).owners = s.owners :=
  owners_of_fixed (Keeps.faultReefers (x := none) h).fixed

/-- The account of a faulted head, before its fit (R65). -/
def Account.emptied (a : Account) : Account := { a with list := [], polls := 0 }

/-- The fault of a head out of service taken to its account, the contexts and the reefers (R36, R37, R65). -/
def State.faultTaken (s : State) (h : HeadIx) (held : List Nat) : State :=
  (faultContexts h held s.contexts.keys ((s.modAccount h Account.emptied).fit h)).faultReefers h

theorem LawsKept.faultTaken (held : List Nat) (hout : (s.head h).state.inService = false) : LawsKept s (s.faultTaken h held) := by
  have hcontexts : ((s.modAccount h Account.emptied).fit h).contexts = s.contexts := by
    rw [State.fit_frame (s.modAccount h Account.emptied) h]
    rfl
  have hfit : ReefersKept (s.modAccount h Account.emptied) ((s.modAccount h Account.emptied).fit h) := .fit h
  have hstill : PollsStill h (s.modAccount h Account.emptied) ((s.modAccount h Account.emptied).fit h) := .fit h
  have hown : Own s → Own ((s.modAccount h Account.emptied).fit h) := fun hs => hfit.own (own_of_owners rfl hs)
  have hserving : Own s → ((s.modAccount h Account.emptied).fit h).reeferServing = s.reeferServing := fun hs =>
    funext fun i => hfit.serving (own_of_owners rfl hs) i
  have hzero : (((s.modAccount h Account.emptied).fit h).account h).polls = 0 := by
    rw [hstill.polls hout]
    show ((s.setAccount h (s.account h).emptied).account h).polls = 0
    rw [State.account_setAccount_self]
    rfl
  have hout' : (((s.modAccount h Account.emptied).fit h).head h).state.inService = false := by
    rw [head_of_heads hstill.heads]
    exact hout
  have hpages : Own s → s.pagesFor s.reeferServing → ((s.modAccount h Account.emptied).fit h).pagesFor s.reeferServing :=
    fun hs hp => hfit.pages (own_of_owners rfl hs) _ hp
  have hpolls : Own s → s.pollsFor s.reeferServing (fun _ => True) →
      ((s.modAccount h Account.emptied).fit h).pollsFor s.reeferServing fun g => g ≠ h := by
    intro hs hp
    refine hfit.polls (own_of_owners rfl hs) _ _ ⟨hp.listed, hp.awake, fun g hg => ?_⟩
    show ((s.setAccount h _).account g).polls = _
    rw [State.account_setAccount_of_ne _ _ hg]
    exact hp.counts g trivial
  unfold State.faultTaken
  rw [← hcontexts]
  generalize (s.modAccount h Account.emptied).fit h = b at *
  have hwork : WorkKept b (faultContexts h held b.contexts.keys b) := .faultContexts h held _
  have howners : ((faultContexts h held b.contexts.keys b).faultReefers h).owners = b.owners :=
    (owners_faultReefers h _).trans (owners_faultContexts h held _ b)
  have hserving' : Own s → ∀ i, ((faultContexts h held b.contexts.keys b).faultReefers h).reeferServing i =
      if s.reeferServing i = some h then none else s.reeferServing i := by
    intro hs i
    rw [serving_of_owners (owners_faultReefers h _) ?_, reeferServing_afterFault (hown hs), hserving hs]
    rw [faultReefers_eq]
    dsimp only
    rw [State.setPollWait_contexts, State.setPageQueue_contexts, endPages_frame]
  refine .of_work (fun hs => own_of_owners howners (hown hs)) (fun hs hp => ?_) fun hs hp => ?_
  · refine pagesFor_faultReefers (hwork.pages (hown hs) _ (hpages hs hp)) (hwork.own (hown hs)) fun i hi => ?_
    rw [hserving' hs, if_neg hi]
  · refine pollsFor_faultReefers (hwork.polls (hown hs) _ _ (hpolls hs hp)) (hwork.own (hown hs)) ?_ (fun i hi => ?_) fun i => ?_
    · exact ((PollsStill.faultContexts held _).polls hout').trans hzero
    · rw [hserving' hs, if_neg hi]
    · rw [hserving' hs]
      split
      · nofun
      · next hne => exact hne

/-- The record of a faulted head (R31). -/
def Head.faulted (cause : FaultCause) (x : Head) : Head :=
  { x with
    state := .faulted, cause := cause, startTimer := none, lockTimer := none, holdoverTimer := none, sweep := none,
    active := x.staged.getD x.active, staged := none }

/-- A head just entered FAULTED: its record, HEAD_STATE, and its prepared reservations when it was ACTIVE (R31, R34, R35). -/
def State.faultEntered (s : State) (h : HeadIx) (cause : FaultCause) : State :=
  let s1 := (s.modHead h (Head.faulted cause)).postHeadState h
  if (s.head h).state = .active then s1.cancelPrepared h else s1

/-- The fault of a head in its parts (R31, R35 to R38). -/
theorem enterFault_eq (s : State) (h : HeadIx) (cause : FaultCause) :
    s.enterFault h cause =
      let t := ((s.faultEntered h cause).order (.beam h none)).faultTaken h (s.account h).standingOwners
      if (s.head h).staged.isSome then t.endOldest (InFlight.isFor .sweepSet (.head h)) .done else t := by
  have hcontexts : ((((s.faultEntered h cause).order (.beam h none)).modAccount h Account.emptied).fit h).contexts =
      ((s.faultEntered h cause).order (.beam h none)).contexts := by
    rw [State.fit_frame (((s.faultEntered h cause).order (.beam h none)).modAccount h Account.emptied) h]
    rfl
  unfold State.faultTaken
  rw [← hcontexts]
  rfl

theorem heads_faultEntered (s : State) (h : HeadIx) (cause : FaultCause) :
    (s.faultEntered h cause).heads = (s.modHead h (Head.faulted cause)).heads := by
  have hpost : ((s.modHead h (Head.faulted cause)).postHeadState h).heads = (s.modHead h (Head.faulted cause)).heads :=
    State.post_heads _ _ _
  unfold State.faultEntered
  dsimp only
  split
  · exact Vector.ext fun i hi => ((head_cancelEach h .targetLost _ _ ⟨i, hi⟩).trans (head_of_heads hpost ⟨i, hi⟩))
  · exact hpost

theorem ReefersKept.faultEntered (h : HeadIx) (cause : FaultCause) : ReefersKept s (s.faultEntered h cause) := by
  have hpost : ReefersKept s ((s.modHead h (Head.faulted cause)).postHeadState h) := (ReefersKept.modHead h _).trans (.post _ _)
  exact .ite (fun _ => hpost.trans (.cancelEach h .targetLost _)) fun _ => hpost

/-- The fault of a head (R31, R35 to R38). -/
theorem LawsKept.enterFault (h : HeadIx) (cause : FaultCause) : LawsKept s (s.enterFault h cause) := by
  have hout : (((s.faultEntered h cause).order (.beam h none)).head h).state.inService = false := by
    have hheads : ((s.faultEntered h cause).order (.beam h none)).heads = (s.modHead h (Head.faulted cause)).heads :=
      heads_faultEntered s h cause
    rw [head_of_heads hheads, show (s.modHead h (Head.faulted cause)).head h = (s.head h).faulted cause from State.head_setHead_self _ _ _]
    rfl
  have htaken : LawsKept s (((s.faultEntered h cause).order (.beam h none)).faultTaken h (s.account h).standingOwners) :=
    ((ReefersKept.faultEntered h cause).trans (.order _)).laws.trans (.faultTaken _ hout)
  rw [enterFault_eq]
  exact .ite (fun _ => htaken.trans (ReefersKept.laws (.endOldest _ _))) fun _ => htaken

theorem LawsKept.lineFault (short : Bool) (h : HeadIx) : LawsKept s (lineFault short h s) :=
  .ite (fun _ => .enterFault h _) fun _ => .refl s

theorem LawsKept.lockWaitExpiry (h : HeadIx) : LawsKept s (s.lockWaitExpiry h) := .ite (fun _ => .enterFault h _) fun _ => .refl s

theorem LawsKept.holdoverExpiry (h : HeadIx) : LawsKept s (s.holdoverExpiry h) := .ite (fun _ => .enterFault h _) fun _ => .refl s

/-! ### The restart -/

/-- No page and no wait is left, and every poll outstanding (R156). -/
theorem LawsKept.restartReefers : LawsKept s s.restartReefers := by
  have howners : s.restartReefers.owners = s.owners := owners_of_fixed (Keeps.restartReefers (x := none)).fixed
  have hserving : s.restartReefers.reeferServing = s.reeferServing := funext (serving_of_owners howners rfl)
  let G : Reefer → Reefer := fun r => { r with page := none, poll := match r.poll with | .waiting => .none | q => q }
  have hget (j : Nat) : s.restartReefers.reefers.get? j = (s.reefers.get? j).map G := get?_map s.reefers G j
  have hqueue (h : HeadIx) : s.restartReefers.pageQueue h = [] := Vector.getElem_replicate _
  have hwait (h : HeadIx) : s.restartReefers.pollWait h = [] := Vector.getElem_replicate _
  have hpaged (j : Nat) : s.restartReefers.paged j = false := by
    rw [State.paged, hget]
    cases s.reefers.get? j <;> rfl
  have hwaits (j : Nat) : s.restartReefers.waits j = false := by
    rw [State.waits, hget]
    cases s.reefers.get? j with
    | none => rfl
    | some r =>
      show ((match r.poll with | .waiting => Poll.none | q => q) == Poll.waiting) = false
      cases r.poll <;> rfl
  have hempty {q : HeadIx → List Nat} {p : Nat → Bool} (hq : ∀ h, q h = []) (hp : ∀ j, p j = false) (f : Nat → Option HeadIx) : Listed q f p :=
    ⟨fun h => by rw [hq]; exact List.nodup_nil, fun h j => by rw [hq, hp]; simp, fun j hj => by rw [hp] at hj; cases hj⟩
  refine .of_work (own_of_owners howners) (fun _ _ => ⟨fun h => by rw [hqueue]; exact Nat.zero_le _, hempty hqueue hpaged _⟩) fun _ hs => ?_
  refine ⟨hempty hwait hwaits _, fun j r hr hawake => ?_, fun h hx => ?_⟩
  · rw [hget] at hr
    obtain ⟨r', hr', rfl⟩ := Option.map_eq_some_iff.mp hr
    show (match r'.poll with | .waiting => Poll.none | q => q) = .none
    rw [hs.awake j r' hr' hawake]
  · have hsent : s.restartReefers.sent h = s.sent h := by
      show List.countP _ (s.reefers.map _) = _
      rw [List.countP_map]
      refine List.countP_congr fun e _ => ?_
      show (match e.2.poll with | .waiting => Poll.none | q => q).sentBy h = true ↔ _
      cases e.2.poll <;> rfl
    rw [hsent]
    exact hs.counts h hx

theorem ReefersKept.restartHead (h : HeadIx) : ReefersKept s (s.restartHead h) := by
  have hstaged : ReefersKept s (s.modHead h fun x => { x with staged := none }) := .modHead h _
  exact .ite (fun _ => hstaged) fun _ => (hstaged.trans (.modAccount h _)).trans (.fit h)

theorem ReefersKept.restartHeads (hs : List HeadIx) : ReefersKept s (restartHeads hs s) := by
  induction hs generalizing s with
  | nil => exact .refl s
  | cons h hs ih => exact (ReefersKept.restartHead h).trans ih

theorem ReefersKept.restartLink (l : Nat) : ReefersKept s (s.restartLink l) := by
  unfold State.restartLink
  split
  · exact .refl s
  · have hafter : ReefersKept s (s.modLink l CraneLink.afterRestart) := .modLink l _
    refine ReefersKept.trans ?_ (.endHandover l .restart)
    split
    · exact hafter.trans (.enterSafeStop l .restart)
    · exact hafter.trans (.enterSafeStop l .restart)
    · exact hafter
    · exact hafter

theorem ReefersKept.restartLinks (ls : List Nat) : ReefersKept s (restartLinks ls s) := by
  induction ls generalizing s with
  | nil => exact .refl s
  | cons l ls ih => exact (ReefersKept.restartLink l).trans ih

theorem LawsKept.takeRestart : LawsKept s (takeRestart s) := by
  have hport : ReefersKept s { s with inflight := [], notices := [], restartCause := .warm } :=
    .of_records ⟨rfl, rfl, rfl, rfl, rfl, rfl, rfl⟩
  exact (hport.laws.trans .restartReefers).trans (ReefersKept.laws ((ReefersKept.restartHeads allHeads).trans (.restartLinks _)))

/-! ### ATTACH and RETIRE -/

/-- What leaves the pages, the waits and the polls, and the heads of the reefers that have one (R3). -/
theorem LawsKept.of_same (hown : Own s → Own t) (hq : t.pageQueues = s.pageQueues) (hw : t.pollWaits = s.pollWaits)
    (hpaged : Own s → ∀ j, t.paged j = s.paged j) (hwaits : Own s → s.pollLaw → ∀ j, t.waits j = s.waits j)
    (hserving : Own s → ∀ j r, s.reefers.get? j = some r → (t.reefers.get? j).isSome → t.reeferServing j = s.reeferServing j)
    (hpolls : ∀ h, (t.account h).polls = (s.account h).polls) (hsent : Own s → s.pollLaw → ∀ h, t.sent h = s.sent h)
    (hawake : Own s → s.pollLaw → ∀ j r, t.reefers.get? j = some r → r.doze ≠ .awake → r.poll = .none) : LawsKept s t := by
  have hsome {v : State} {p : Reefer → Bool} {j : Nat} (h : (v.reefers.get? j).any p = true) : ∃ r, v.reefers.get? j = some r := by
    cases hr : v.reefers.get? j with
    | none => rw [hr] at h; cases h
    | some r => exact ⟨r, rfl⟩
  refine .of_work hown (fun hs h => ?_) fun hs h => ?_
  · have hsame : t.pagesFor s.reeferServing := by
      unfold State.pagesFor State.pageQueue
      rw [hq, show t.paged = s.paged from funext (hpaged hs)]
      exact h
    refine hsame.rehead fun j hj => ?_
    obtain ⟨r, hr⟩ := hsome (hpaged hs j ▸ hj : s.paged j = true)
    obtain ⟨r', hr'⟩ := hsome hj
    exact hserving hs j r hr (by rw [hr']; rfl)
  · have hlaw := (pollLaw_iff hs.reefers_wf).mpr h
    have hlisted : Listed t.pollWait s.reeferServing t.waits := by
      unfold State.pollWait
      rw [hw, show t.waits = s.waits from funext (hwaits hs hlaw)]
      exact h.listed
    refine ⟨hlisted.rehead fun j hj => ?_, hawake hs hlaw, fun g _ => ?_⟩
    · obtain ⟨r, hr⟩ := hsome (hwaits hs hlaw j ▸ hj : s.waits j = true)
      obtain ⟨r', hr'⟩ := hsome hj
      exact hserving hs j r hr (by rw [hr']; rfl)
    · rw [hpolls, hsent hs hlaw, h.counts g trivial]

theorem countP_set_free {α : Type} (p : Nat × α → Bool) (m : Table α) (v : α) (hk : m.get? k = none) :
    (m.set k v).countP p = m.countP p + (p (k, v)).toNat := by
  induction m with
  | nil => simp only [Table.set, List.countP_cons, List.countP_nil]; cases p (k, v) <;> rfl
  | cons e m ih =>
    obtain ⟨j, w⟩ := e
    rw [Table.get?] at hk
    by_cases hj : k = j
    · rw [if_pos hj] at hk
      cases hk
    · rw [if_neg hj] at hk
      rw [Table.set]
      split
      · rw [List.countP_cons]
        cases p (k, v) <;> rfl
      · rw [List.countP_cons, List.countP_cons, ih hk]
        omega

/-- A context that takes a free slot is no reefer's. -/
theorem reeferServing_setContext {m : Table Reefer} (hs : Own s) (hk : s.contexts.get? k = none)
    (hr : s.reefers.get? j = some r) (hm : m.get? j = s.reefers.get? j) :
    ({ s with contexts := s.contexts.set k c, reefers := m } : State).reeferServing j = s.reeferServing j := by
  obtain ⟨d, hd, -⟩ := hs.context_of_reefer hr
  have hne : r.owner ≠ k := fun heq => by rw [heq, hk] at hd; cases hd
  rw [reeferServing_eq_bind, reeferServing_eq_bind]
  show ((m.get? j).map (·.owner)).bind _ = _
  rw [hm, hr]
  show ((s.contexts.set k c).get? r.owner).bind _ = (s.contexts.get? r.owner).bind _
  rw [Table.get?_set_of_ne _ _ hne]

theorem LawsKept.takeAttach {os : Options} {p : AttachPlan} (hp : attachChecks os s = .ok p) : LawsKept s (takeAttach p s) := by
  obtain ⟨hhandle, -, -, hext, -, -⟩ := attachChecks_ok hp
  have hown (hs : Own s) : Own (Machine.takeAttach p s) := ⟨tablesLaw_takeAttach hp hs.1, ownershipLaw_takeAttach hp hs.1 hs.2⟩
  have hfree (hs : Own s) : s.contexts.get? p.handle = none := by
    rw [hhandle]
    exact Table.get?_lowestFree hs.1.1
  rcases takeAttach_cases hext with ⟨-, -, -, e⟩ | ⟨-, -, -, e⟩ | ⟨-, -, -, e⟩ <;> rw [e] at hown ⊢
  · exact .of_same hown rfl rfl (fun _ _ => rfl) (fun _ _ _ => rfl) (fun hs j r hr _ => reeferServing_setContext hs (hfree hs) hr rfl)
      (fun _ => rfl) (fun _ _ _ => rfl) fun hs hlaw => ((pollLaw_iff hs.reefers_wf).mp hlaw).awake
  · have hnone (hs : Own s) : s.reefers.get? s.reefers.lowestFree = none := Table.get?_lowestFree hs.reefers_wf
    have hany (hs : Own s) (q : Reefer → Bool) (hq : q (Reefer.fresh p.handle) = false) (j : Nat) :
        ((s.reefers.set s.reefers.lowestFree (Reefer.fresh p.handle)).get? j).any q = (s.reefers.get? j).any q := by
      by_cases hj : j = s.reefers.lowestFree
      · rw [hj, Table.get?_set_self, hnone hs]
        exact hq
      · rw [Table.get?_set_of_ne _ _ hj]
    refine .of_same hown rfl rfl (fun hs => hany hs _ rfl) (fun hs _ => hany hs _ rfl) (fun hs j r hr _ => ?_) (fun _ => rfl)
      (fun hs _ h => ?_) fun hs hlaw j r hr hawake => ?_
    · refine reeferServing_setContext hs (hfree hs) hr (Table.get?_set_of_ne _ _ fun hj => ?_)
      rw [hj, hnone hs] at hr
      cases hr
    · exact (countP_set_free _ _ _ (hnone hs)).trans (Nat.add_zero _)
    · by_cases hj : j = s.reefers.lowestFree
      · rw [hj] at hr
        rw [Table.get?_set_self] at hr
        cases hr
        rfl
      · rw [Table.get?_set_of_ne _ _ hj] at hr
        exact ((pollLaw_iff hs.reefers_wf).mp hlaw).awake j r hr hawake
  · exact .of_same hown rfl rfl (fun _ _ => rfl) (fun _ _ _ => rfl) (fun hs j r hr _ => reeferServing_setContext hs (hfree hs) hr rfl)
      (fun _ => rfl) (fun _ _ _ => rfl) fun hs hlaw => ((pollLaw_iff hs.reefers_wf).mp hlaw).awake

/-- A reefer that waits for no poll stands in no wait list. -/
theorem leaveWaitLists_of_not_waiting (hs : s.pollsFor f x) (hi : s.waits i = false) : s.leaveWaitLists i = s := by
  have hqueues : mapEach (fun q => q.filter (· != i)) s.pollWaits = s.pollWaits := by
    refine Vector.ext fun k hk => ?_
    refine (get_mapEach _ s.pollWaits ⟨k, hk⟩).trans (List.filter_eq_self.mpr fun j hj => ?_)
    have hout : i ∉ s.pollWait ⟨k, hk⟩ := fun hin => by
      have := ((hs.listed.mem _ i).mp hin).2
      rw [hi] at this
      cases this
    simpa using fun e : j = i => hout (e ▸ hj)
  unfold State.leaveWaitLists
  rw [hqueues]

/-- The poll of a record that has left the wait lists ends as it would have ended before (R21). -/
theorem endPoll_leaveWaitLists (hs : s.pollsFor f x) (i : Nat) : (s.leaveWaitLists i).endPoll i = s.endPoll i := by
  cases hw : s.waits i with
  | false => rw [leaveWaitLists_of_not_waiting hs hw]
  | true =>
    obtain ⟨r, hr, hpoll⟩ := waits_eq_true.mp hw
    have htwice : (s.leaveWaitLists i).leaveWaitLists i = s.leaveWaitLists i := by
      unfold State.leaveWaitLists
      dsimp only
      rw [mapEach_mapEach]
      have : ((fun q : List Nat => q.filter (· != i)) ∘ fun q : List Nat => q.filter (· != i)) =
          fun q : List Nat => q.filter (· != i) := by
        funext q
        simp [List.filter_filter]
      rw [this]
    rw [endPoll_eq hr, endPoll_eq (s := s.leaveWaitLists i) hr, hpoll]
    show ((s.leaveWaitLists i).leaveWaitLists i).modReefer i _ = _
    rw [htwice]
    rfl

/-- A reefer's page, wait and poll end (R21). -/
theorem LawsKept.endReeferWork (i : Nat) : LawsKept s (s.endReeferWork i) := by
  have hpage : ReefersKept s (s.endPage i .retired) := .endPage i .retired
  have hleave (v : State) (hs : Own v) : Own (v.leaveWaitLists i) := own_of_owners rfl hs
  have hend (v : State) : ReefersKept v (v.endPoll i) := .endPoll i
  have hserving : Own s → (s.endReeferWork i).reeferServing = s.reeferServing := fun hs => funext fun j =>
    ((hend _).serving (hleave _ (hpage.own hs)) j).trans (hpage.serving hs j)
  refine .of_work (fun hs => (hend _).own (hleave _ (hpage.own hs))) (fun hs h => ?_) fun hs h => ?_
  · rw [hserving hs]
    exact (hend _).pages (hleave _ (hpage.own hs)) _ (hpage.pages hs _ h)
  · rw [hserving hs]
    have hp := hpage.polls hs _ _ h
    unfold State.endReeferWork
    rw [endPoll_leaveWaitLists hp]
    exact (hend _).polls (hpage.own hs) _ _ hp

/-- Then it has neither page nor poll. -/
theorem endReeferWork_idle (s : State) (i : Nat) : (s.endReeferWork i).paged i = false ∧
    ∀ r, (s.endReeferWork i).reefers.get? i = some r → r.poll = .none := by
  refine ⟨?_, fun r hr => ?_⟩
  · refine (paged_endPoll i i).trans ?_
    show (s.endPage i .retired).paged i = false
    cases hr : s.reefers.get? i with
    | none =>
      have hsame : s.endPage i .retired = s := by
        unfold State.endPage
        rw [hr]
      rw [hsame]
      exact paged_of_none hr
    | some r =>
      rw [State.paged, get?_endPage hr]
      rfl
  · refine poll_of_endPoll_unlisted (s := (s.endPage i .retired).leaveWaitLists i) (fun h hi => ?_) hr
    have hmem : i ∈ ((s.endPage i .retired).pollWait h).filter (· != i) :=
      (get_mapEach (fun q => q.filter (· != i)) (s.endPage i .retired).pollWaits h) ▸ hi
    simp at hmem

/-- A context that goes is no reefer's but that of its own record (R3). -/
theorem owner_ne_of_other (hs : Own s) (hc : s.contexts.get? k = some c) (hr : s.reefers.get? j = some r)
    (hj : c.cls = .reefer → c.ext ≠ some j) : r.owner ≠ k := by
  obtain ⟨d, hd, hcls, hext⟩ := hs.context_of_reefer hr
  intro heq
  rw [heq, hc] at hd
  cases hd
  exact hj hcls hext

theorem reeferServing_eraseContext {m : Table Reefer} (hr : s.reefers.get? j = some r) (hm : m.get? j = s.reefers.get? j)
    (hne : r.owner ≠ k) (ls : Table CraneLink) :
    ({ s with contexts := s.contexts.erase k, reefers := m, links := ls } : State).reeferServing j = s.reeferServing j := by
  rw [reeferServing_eq_bind, reeferServing_eq_bind]
  show ((m.get? j).map (·.owner)).bind _ = _
  rw [hm, hr]
  show ((s.contexts.erase k).get? r.owner).bind _ = (s.contexts.get? r.owner).bind _
  rw [Table.get?_erase, if_neg hne]

/-- A context and its record go, the record without page and poll (R22). -/
theorem LawsKept.freeContext (hc : s.contexts.get? k = some c) (hpaged : ∀ i, c.cls = .reefer → c.ext = some i → s.paged i = false)
    (hpoll : ∀ i, c.cls = .reefer → c.ext = some i → ∀ r, s.reefers.get? i = some r → r.poll = .none) :
    LawsKept s (s.freeContext k c) := by
  have hown (hs : Own s) : Own (s.freeContext k c) := ⟨tablesLaw_freeContext k c hs.1, ownershipLaw_freeContext hc hs.2⟩
  have hawake (hs : Own s) (hlaw : s.pollLaw) := ((pollLaw_iff hs.reefers_wf).mp hlaw).awake
  rcases freeContext_cases s k c with ⟨l, hcls, hext, e⟩ | ⟨i, hcls, hext, e⟩ | ⟨-, hnr, e⟩ <;> rw [e] at hown ⊢
  · refine .of_same hown rfl rfl (fun _ _ => rfl) (fun _ _ _ => rfl) (fun hs j r hr _ => ?_) (fun _ => rfl) (fun _ _ _ => rfl) hawake
    exact reeferServing_eraseContext hr rfl (owner_ne_of_other hs hc hr fun h => by rw [hcls] at h; cases h) _
  · have hget (j : Nat) (hj : j ≠ i) : (s.reefers.erase i).get? j = s.reefers.get? j := by rw [Table.get?_erase, if_neg hj]
    have hgone : (s.reefers.erase i).get? i = none := by rw [Table.get?_erase, if_pos rfl]
    refine .of_same hown rfl rfl (fun _ j => ?_) (fun hs hlaw j => ?_) (fun hs j r hr hin => ?_) (fun _ => rfl)
      (fun hs hlaw h => ?_) fun hs hlaw j r hr hd => ?_
    · by_cases hj : j = i
      · rw [hj, hpaged i hcls hext]
        exact congrArg (Option.any _) hgone
      · exact congrArg (Option.any _) (hget j hj)
    · by_cases hj : j = i
      · have hnot : s.waits i = false := Bool.eq_false_iff.mpr fun hw => by
          obtain ⟨r, hr, hwait⟩ := waits_eq_true.mp hw
          rw [hpoll i hcls hext r hr] at hwait
          cases hwait
        rw [hj, hnot]
        exact congrArg (Option.any _) hgone
      · exact congrArg (Option.any _) (hget j hj)
    · have hj : j ≠ i := fun hj => by
        rw [hj] at hin
        exact absurd hin (by show ¬ ((s.reefers.erase i).get? i).isSome = true; rw [hgone]; nofun)
      refine reeferServing_eraseContext hr (hget j hj) (owner_ne_of_other hs hc hr fun _ h => hj ?_) _
      exact Option.some.inj (h.symm.trans hext)
    · show List.countP _ (s.reefers.filter _) = _
      rw [List.countP_filter]
      refine List.countP_congr fun d hd => ?_
      by_cases hdi : d.1 = i
      · have hr : s.reefers.get? i = some d.2 := hdi ▸ Table.get?_of_mem hs.reefers_wf hd
        rw [hpoll i hcls hext d.2 hr]
        simp [Poll.sentBy]
      · simp [hdi]
    · by_cases hj : j = i
      · rw [hj] at hr
        exact absurd (hgone.symm.trans hr) nofun
      · exact hawake hs hlaw j r ((hget j hj).symm.trans hr) hd
  · refine .of_same hown rfl rfl (fun _ _ => rfl) (fun _ _ _ => rfl) (fun hs j r hr _ => ?_) (fun _ => rfl) (fun _ _ _ => rfl) hawake
    exact reeferServing_eraseContext hr rfl (owner_ne_of_other hs hc hr (hnr j)) _

theorem LawsKept.endExtensionWork (k : Nat) (c : Context) : LawsKept s (s.endExtensionWork k c) := by
  unfold State.endExtensionWork
  split
  · exact ReefersKept.laws (.of_records ⟨rfl, rfl, rfl, rfl, rfl, rfl, rfl⟩)
  · exact .endReeferWork _
  · exact .refl s

theorem reefers_retiring (s : State) (k : Nat) (c : Context) : (s.retiring k c).reefers = (s.endExtensionWork k c).reefers := by
  unfold State.retiring
  split <;> rfl

theorem endExtensionWork_of_reefer (hcls : c.cls = .reefer) (hext : c.ext = some i) :
    s.endExtensionWork k c = s.endReeferWork i := by
  unfold State.endExtensionWork
  rw [hcls, hext]

theorem LawsKept.retiring (k : Nat) (c : Context) : LawsKept s (s.retiring k c) := by
  refine (LawsKept.endExtensionWork k c).trans ?_
  unfold State.retiring
  split <;> exact ReefersKept.laws (.of_records ⟨rfl, rfl, rfl, rfl, rfl, rfl, rfl⟩)

theorem LawsKept.takeRetire (hc : s.contexts.get? k = some c) : LawsKept s (takeRetire k c s) := by
  refine (LawsKept.retiring k c).trans (.freeContext ?_ (fun i hcls hext => ?_) fun i hcls hext r hr => ?_)
  · rw [contexts_retiring]
    exact hc
  · have hidle := (endReeferWork_idle s i).1
    rwa [State.paged, reefers_retiring, endExtensionWork_of_reefer hcls hext]
  · rw [reefers_retiring, endExtensionWork_of_reefer hcls hext] at hr
    exact (endReeferWork_idle s i).2 r hr

/-! ### The requests that are left -/

/-- A change of every context that leaves tag, class, extension and serving head. -/
theorem ReefersKept.mapContexts {g : Context → Context} (ht : t.contexts = s.contexts.mapAll g) (hids : ∀ c, (g c).ids = c.ids)
    (hserving : ∀ c, (g c).serving = c.serving) (hl : t.links = s.links) (hr : t.reefers = s.reefers)
    (hq : t.pageQueues = s.pageQueues) (hw : t.pollWaits = s.pollWaits) (hair : t.airtime = s.airtime) : ReefersKept s t := by
  refine .of_same (own_of_owners ?_) (fun _ i => ?_) hr hq hw fun h => ?_
  · unfold State.owners
    rw [ht, hl, hr, Table.mapAll, List.map_map]
    refine congrArg (·, _) (List.map_congr_left fun e _ => ?_)
    exact congrArg (e.1, ·) (hids e.2)
  · have hget (k : Nat) : t.contexts.get? k = (s.contexts.get? k).map g := by
      rw [ht]
      exact get?_map_keyed s.contexts (fun e => g e.2) k
    rw [reeferServing_eq_bind, reeferServing_eq_bind, hr]
    refine congrArg _ (funext fun k => ?_)
    rw [State.serves, State.serves, hget]
    cases s.contexts.get? k with
    | none => rfl
    | some c => exact hserving c
  · rw [State.account, State.account, hair]

theorem ReefersKept.takeParams (p : ParamsPlan) : ReefersKept s (takeParams p s) := by
  unfold Machine.takeParams
  split
  · exact .of_records ⟨rfl, rfl, rfl, rfl, rfl, rfl, rfl⟩
  · next cls _ =>
    refine .mapContexts (g := fun c => if c.cls = cls then c.capCounts p.params.ttt else c) rfl (fun c => ?_) (fun c => ?_) rfl rfl rfl rfl rfl <;> split <;> rfl

theorem ReefersKept.takeHeadConfig (h : HeadIx) (b : Bool) (p : HeadPlan) : ReefersKept s (takeHeadConfig h b p s) :=
  .ite (fun _ => (ReefersKept.modHead h _).trans (.newCapacity h)) fun _ => .modHead h _

/-- A reefer target is a REEFER context with its record. -/
theorem reeferTarget_context {q : ReqKind} {r : Request} {a : ReeferTarget} (w : s.tablesLaw) (ha : reeferTarget q r s = .ok a) :
    s.contexts.get? a.handle = some a.ctx ∧ a.ctx.cls = .reefer ∧ a.ctx.ext = some a.index := by
  unfold reeferTarget at ha
  split at ha
  · cases ha
  · next b hb =>
    split at ha
    · cases ha
    · next i hi =>
      split at ha
      · cases ha
      · cases ha
        obtain ⟨-, hres, hcls⟩ := contextTarget_ok.mp hb
        exact ⟨get?_of_resolveContext w hres, (by simpa using hcls : Class.reefer = b.ctx.cls).symm, hi⟩

/-- The head of a reefer target is its context's. -/
theorem reeferServing_of_target {q : ReqKind} {r : Request} {a : ReeferTarget} (hs : Own s) (ha : reeferTarget q r s = .ok a) :
    s.reeferServing a.index = a.ctx.serving := by
  obtain ⟨hc, hcls, hext⟩ := reeferTarget_context hs.1 ha
  obtain ⟨i, r, hi, hr, howner⟩ := hs.reefer_of_context hc hcls
  cases hext.symm.trans hi
  rw [reeferServing_eq_bind, hr]
  show s.serves r.owner = _
  rw [State.serves, howner, hc]
  rfl

/-- A page is queued for a reefer without a page, in the queue of its head, which has room (R150). -/
theorem pageDeal_queue_room {a : ReeferTarget} (hd : pageDeal a s = .queue h) :
    a.ctx.serving = some h ∧ a.record.page = none ∧ (s.pageQueue h).length < Config.pageEntries := by
  by_cases hawake : a.record.doze = .awake
  · rw [pageDeal_awake hawake] at hd
    cases hd
  · cases hserving : a.ctx.serving with
    | none =>
      rw [pageDeal_unserved hawake hserving] at hd
      cases hd
    | some k =>
      cases hp : a.record.page with
      | some p =>
        rw [pageDeal_pending hawake hserving hp] at hd
        split at hd <;> cases hd
      | none =>
        rw [pageDeal_idle hawake hserving hp] at hd
        split at hd
        · cases hd
        · split at hd
          · cases hd
          · next hroom =>
            cases hd
            exact ⟨rfl, rfl, Nat.lt_of_not_le hroom⟩

theorem LawsKept.reset (s : State) : LawsKept s { State.reset with pending := s.pending } := by
  obtain ⟨htables, howners, -, -, -, -, -, -, -, -, hpolls, hpages, -⟩ := resetMeetsEveryLaw
  exact ⟨fun _ => ⟨htables, howners⟩, fun _ _ => hpages, fun _ _ => hpolls⟩

/-! ### All commands -/

theorem steps_laws : Steps LawsKept where
  trans := .trans
  same h := ReefersKept.laws (.of_records h)
  amend _ k _ _ := ReefersKept.laws (.modContext k _)
  modLink _ l f hf := ReefersKept.laws (.modLink l f fun k => (hf k).1)
  modReefer _ i f hf := ReefersKept.laws (.sameUse i f hf)
  attach _ _ _ hp := .takeAttach hp
  retire s r a ha _ := .given fun hs => by
    obtain ⟨-, hres, -⟩ := contextTarget_ok.mp ha
    exact .takeRetire (get?_of_resolveContext hs.1 hres)
  craneStart _ _ _ h p _ _ := ReefersKept.laws (.takeCraneStart h _ p)
  craneStop _ _ a _ _ := ReefersKept.laws (.takeCraneStop a.record)
  craneResume _ _ a o p _ _ := ReefersKept.laws (.takeCraneResume o a.record p)
  cancelHandover _ l cause := ReefersKept.laws (.cancelHandover l cause)
  takeOver _ i _ := ReefersKept.laws (.modPage i _)
  queuePage s r a h q ha hd := .given fun hs => by
    obtain ⟨hserving, hpage, hroom⟩ := pageDeal_queue_room hd
    exact .queuePage (get?_of_reeferTarget ha) hpage ((reeferServing_of_target hs ha).trans hserving) hroom
  headConfig _ _ h p _ := ReefersKept.laws (.takeHeadConfig h _ p)
  headClear _ h _ := ReefersKept.laws (.changeHead h _)
  schedule _ h _ _ := ReefersKept.laws (.modHead h _)
  setWindow _ h w := ReefersKept.laws (.setWindow h w)
  params _ p := ReefersKept.laws (.takeParams p)
  restart _ := .takeRestart
  report s tag k c es htag := .given fun hs => .takeReport (State.get?_of_findTag hs.1.1 htag)
  uplink _ _ k c f _ _ := ReefersKept.laws (.onUplink k c f)
  reeferReport _ i r f _ := .takeReeferReport i r f
  dozeAck _ code _ _ hr := .takeDozeAck code hr
  pageAnswer _ i r _ := .takePageAnswer i r
  headUp _ h := ReefersKept.laws (.headUp h)
  syncLock _ h := ReefersKept.laws (.syncLock h)
  syncLost _ h := ReefersKept.laws (.syncLost h)
  lineFault _ h short := .lineFault short h
  startTimer _ h := ReefersKept.laws (.startTimerExpiry h)
  lockWait _ h := .lockWaitExpiry h
  holdover _ h := .holdoverExpiry h
  dwell _ h := ReefersKept.laws (.dwellExpiry h)
  cycle _ l := ReefersKept.laws (.cycleExpiry l)
  ack _ i := .ackExpiry i
  page _ i := ReefersKept.laws (.pageExpiry i)
  poll _ i := ReefersKept.laws (.pollExpiry i)
  overdue _ i := .overdueExpiry i
  second _ := ReefersKept.laws .secondPass
  count _ := ReefersKept.laws .count
  reset s := .reset s

/-- Settles O13. -/
theorem everyStepKeepsThePollLaw : Obligations.EveryStepKeepsThePollLaw :=
  fun _ _ htables howners hlaw hstep => (steps_laws.step hstep).polls ⟨htables, howners⟩ hlaw

/-- Settles O14. -/
theorem everyStepKeepsThePageQueues : Obligations.EveryStepKeepsThePageQueues :=
  fun _ _ htables howners hlaw hstep => (steps_laws.step hstep).pages ⟨htables, howners⟩ hlaw

end Sys2Proof.Machine
end

section
/-! R116 is not kept by every step from the laws it is stated over: nothing in them says that a stopped link with a next
setpoint, which R101 resumes without asking, holds its standing reservation. CRANE_RESUME sees to that in a run (R104). -/

namespace Sys2Proof.Machine

/-- A crane without a serving head. -/
def unservedCrane : Context :=
  { tag := 1, cls := .crane, serving := none, sector := 0, segment := none, pinned := false, cands := [], ext := some 0,
    lastReport := none }

/-- A stopped link with a next setpoint, whose cycle timer has run out. -/
def linkToResume : CraneLink :=
  { CraneLink.fresh 0 with
    state := .safeStop, cause := some .ordered, cycle := some 0,
    next := some { seq := 1, bytes := Vector.replicate 16 0 } }

/-- That crane alone in the part, at the cycle expiry of its link. -/
def stoppedWithSetpoint : State :=
  { State.reset with contexts := [(0, unservedCrane)], links := [(0, linkToResume)], pending := [.cycleExpiry 0] }

theorem tables_stoppedWithSetpoint : stoppedWithSetpoint.tablesLaw ∧ stoppedWithSetpoint.ownershipLaw := by
  unfold State.tablesLaw State.ownershipLaw
  decide

theorem airtime_stoppedWithSetpoint : stoppedWithSetpoint.airtimeLaw := by
  obtain ⟨-, -, -, -, -, hair, -⟩ := resetMeetsEveryLaw
  exact hair

theorem reservations_stoppedWithSetpoint : stoppedWithSetpoint.handoverLaw ∧ stoppedWithSetpoint.reservationLaw := by
  unfold State.handoverLaw State.reservationLaw
  decide

/-- The link runs again, without a serving head and without airtime. -/
theorem step_stoppedWithSetpoint : ∃ t, step stoppedWithSetpoint = .next t ∧
    (t.links.get? 0).map (·.state) = some .running ∧ t.linkServing 0 = none := ⟨_, rfl, rfl, rfl⟩

/-- Refutes O7: the resume of a cycle expiry in SAFE_STOP asks for no standing reservation. -/
theorem not_everyStepKeepsTheReservationLaw : ¬ Obligations.EveryStepKeepsTheReservationLaw := by
  intro h
  obtain ⟨t, hstep, hrunning, hserving⟩ := step_stoppedWithSetpoint
  obtain ⟨htables, howners⟩ := tables_stoppedWithSetpoint
  obtain ⟨hhandover, hreservation⟩ := reservations_stoppedWithSetpoint
  obtain ⟨-, -, -, hlinks⟩ := h _ t htables howners airtime_stoppedWithSetpoint hhandover hreservation hstep
  obtain ⟨k, hk, hstate⟩ := Option.map_eq_some_iff.mp hrunning
  obtain ⟨hheld, -⟩ := hlinks (0, k) (Table.mem_of_get? hk)
  have hany := hheld (.inl hstate)
  rw [hserving] at hany
  cases hany

end Sys2Proof.Machine
end

section
/-! Serving heads, candidates and handover targets (R4, R5, R9): which heads a context names, what backs a handover, and that
most operations leave both. -/

namespace Sys2Proof.Machine

variable {s t u : State} {x : Nat → Prop} {i j k l n : Nat} {c d : Context} {h : HeadIx} {r : Reefer} {w : Nat → HeadIx → Prop} {v : HeadIx → Prop}
  {target target' : Option HeadIx}

/-! ### What the laws say of one context and one link -/

/-- What of a context its serving head rests on. -/
def Context.seat (c : Context) : Option Nat × Option HeadIx × Sector × List (HeadIx × Sector) :=
  (c.link?, c.serving, c.sector, c.cands.map fun e => (e.head, e.sector))

/-- The served law of one context, with the heads that may serve and the target of its handover. -/
structure Context.served (c : Context) (w : HeadIx → Prop) (target : Option HeadIx) : Prop where
  live : ∀ e ∈ c.cands, w e.head
  sector : ∀ h, c.serving = some h → (c.entry? h).map (·.sector) = some c.sector
  target : ∀ h, target = some h → (c.entry? h).isSome

theorem entry_sector (c : Context) (h : HeadIx) :
    (c.entry? h).map (·.sector) = (c.seat.2.2.2.find? fun p => p.1 == h).map (·.2) := by
  unfold Context.entry? Context.seat
  rw [List.find?_map, Option.map_map]
  rfl

theorem Context.served.of_seat (hc : c.served v target) (hseat : d.seat = c.seat)
    (htarget : ∀ h, target' = some h → target = some h) : d.served v target' := by
  have hentry (h : HeadIx) : (d.entry? h).map (·.sector) = (c.entry? h).map (·.sector) := by
    rw [entry_sector, entry_sector, hseat]
  have hserving : d.serving = c.serving := congrArg (·.2.1) hseat
  have hsector : d.sector = c.sector := congrArg (·.2.2.1) hseat
  have hcands : d.cands.map (fun e => (e.head, e.sector)) = c.cands.map fun e => (e.head, e.sector) := congrArg (·.2.2.2) hseat
  refine ⟨fun e he => ?_, fun h hh => ?_, fun h hh => ?_⟩
  · have hmem : (e.head, e.sector) ∈ c.cands.map fun e => (e.head, e.sector) := hcands ▸ List.mem_map_of_mem he
    obtain ⟨e', he', heq⟩ := List.mem_map.mp hmem
    have hhead : e'.head = e.head := congrArg Prod.fst heq
    exact hhead ▸ hc.live e' he'
  · rw [hentry, hsector]
    exact hc.sector h (hserving ▸ hh)
  · have hsome := hc.target h (htarget h hh)
    rw [← Option.isSome_map (f := fun e : Candidate => e.sector)] at hsome ⊢
    rwa [hentry]

/-- The target of the handover of a link. -/
def State.phaseTarget (s : State) (l : Nat) : Option HeadIx := (s.links.get? l).bind (·.phase.target?)

theorem handoverTarget_eq (s : State) (c : Context) : s.handoverTarget c = c.link?.bind s.phaseTarget := by
  unfold State.handoverTarget
  cases c.link? <;> rfl

/-- The served law with the heads that may serve the context of each slot. -/
def State.servedBy (s : State) (w : Nat → HeadIx → Prop) : Prop :=
  ∀ k c, s.contexts.get? k = some c → c.served (w k) (s.handoverTarget c)

/-- The heads in service. -/
def State.live (s : State) (h : HeadIx) : Prop := (s.head h).state.inService = true

theorem servedLaw_iff (hwf : s.contexts.wf n) : s.servedLaw ↔ s.servedBy fun _ => s.live := by
  have hone (c : Context) (h : HeadIx) : (c.entry? h).any (fun x => x.sector == c.sector) = true ↔
      (c.entry? h).map (·.sector) = some c.sector := by
    cases c.entry? h <;> simp
  constructor
  · intro hlaw k c hc
    obtain ⟨hlive, hserving, htarget⟩ := hlaw (k, c) (Table.mem_of_get? hc)
    exact ⟨hlive, fun h hh => (hone c h).mp (hserving h hh), htarget⟩
  · intro hlaw e he
    have hc := hlaw e.1 e.2 (Table.get?_of_mem hwf he)
    exact ⟨hc.live, fun h hh => (hone e.2 h).mpr (hc.sector h hh), hc.target⟩

/-- Each handover has its prepared reservation on the target. -/
def State.backed (s : State) : Prop := ∀ l g, s.phaseTarget l = some g → s.holds .prepared l g = true

theorem handoverLaw_iff (hwf : s.links.wf n) : s.handoverLaw ↔ s.backed := by
  constructor
  · intro hlaw l g hg
    obtain ⟨k, hk, hphase⟩ := Option.bind_eq_some_iff.mp hg
    exact hlaw (l, k) (Table.mem_of_get? hk) g hphase
  · intro hlaw e he g hg
    exact hlaw e.1 g (Option.bind_eq_some_iff.mpr ⟨e.2, Table.get?_of_mem hwf he, hg⟩)

/-! ### What most operations leave -/

/-- No head leaves service, every context keeps its seat, no handover begins, and those that go on stay backed, but for the
links in `x`. -/
structure Seated (x : Nat → Prop) (s t : State) : Prop where
  live : ∀ h, s.live h → t.live h
  seats : ∀ k d, t.contexts.get? k = some d → ∃ c, s.contexts.get? k = some c ∧ d.seat = c.seat
  links : ∀ l g, ¬ x l → t.phaseTarget l = some g →
    s.phaseTarget l = some g ∧ (s.holds .prepared l g = true → t.holds .prepared l g = true)

theorem Seated.refl (s : State) : Seated x s s := ⟨fun _ => id, fun _ d hd => ⟨d, hd, rfl⟩, fun _ _ _ hg => ⟨hg, id⟩⟩

theorem Seated.trans (a : Seated x s t) (b : Seated x t u) : Seated x s u := by
  refine ⟨fun h => b.live h ∘ a.live h, fun k d hd => ?_, fun l g hl hg => ?_⟩
  · obtain ⟨c', hc', hseat'⟩ := b.seats k d hd
    obtain ⟨c, hc, hseat⟩ := a.seats k c' hc'
    exact ⟨c, hc, hseat'.trans hseat⟩
  · obtain ⟨hg', hheld'⟩ := b.links l g hl hg
    obtain ⟨hg, hheld⟩ := a.links l g hl hg'
    exact ⟨hg, hheld' ∘ hheld⟩

theorem Seated.ite {p : Prop} [Decidable p] (a : p → Seated x s t) (b : ¬ p → Seated x s u) : Seated x s (if p then t else u) := by
  split
  · exact a ‹_›
  · exact b ‹_›

theorem Seated.backed (a : Seated (fun _ => False) s t) (hs : s.backed) : t.backed := fun l g hg => by
  obtain ⟨hg', hheld⟩ := a.links l g nofun hg
  exact hheld (hs l g hg')

theorem Seated.servedBy (a : Seated (fun _ => False) s t) (hs : s.servedBy w) : t.servedBy w := fun k d hd => by
  obtain ⟨c, hc, hseat⟩ := a.seats k d hd
  have hlink : d.link? = c.link? := congrArg (·.1) hseat
  refine (hs k c hc).of_seat hseat fun h hh => ?_
  rw [handoverTarget_eq] at hh ⊢
  rw [hlink] at hh
  obtain ⟨l, hl, hg⟩ := Option.bind_eq_some_iff.mp hh
  exact Option.bind_eq_some_iff.mpr ⟨l, hl, (a.links l h nofun hg).1⟩

/-- The links left out are in no handover at the end. -/
theorem Seated.close (a : Seated x s t) (ht : ∀ l, x l → t.phaseTarget l = none) : Seated (fun _ => False) s t :=
  ⟨a.live, a.seats, fun l g _ hg => a.links l g (fun hx => by rw [ht l hx] at hg; cases hg) hg⟩

/-! ### State operations -/

theorem holds_of_air (ha : t.air = s.air) (l : Nat) (g : HeadIx) (q : ResKind) : t.holds q l g = s.holds q l g := by
  have hlist : (t.account g).list = (s.account g).list := congrArg AirView.list (congrFun ha g)
  unfold State.holds
  rw [hlist]

theorem live_of_air (ha : t.air = s.air) (h : HeadIx) : t.live h ↔ s.live h := by
  have hstate : (t.head h).state = (s.head h).state := congrArg AirView.state (congrFun ha h)
  unfold State.live
  rw [hstate]

/-- What leaves contexts, links and airtime. -/
theorem Seated.of_air (hc : t.contexts = s.contexts) (hl : t.links = s.links) (ha : t.air = s.air) : Seated x s t := by
  refine ⟨fun h => (live_of_air ha h).mpr, fun k d hd => ⟨d, hc ▸ hd, rfl⟩, fun l g _ hg => ⟨?_, ?_⟩⟩
  · rw [← hg, State.phaseTarget, State.phaseTarget, hl]
  · rw [holds_of_air ha]
    exact id

theorem Seated.of_records (hc : t.contexts = s.contexts) (hl : t.links = s.links) (hh : t.heads = s.heads)
    (ha : t.airtime = s.airtime) : Seated x s t := by
  refine .of_air hc hl (funext fun h => ?_)
  unfold State.air State.head State.account
  rw [hh, ha]

theorem Seated.same (y : SameRecords s t) : Seated x s t := .of_records y.contexts y.links y.heads y.airtime

theorem Seated.order (o : Order) : Seated x s (s.order o) := .of_records rfl rfl rfl rfl
theorem Seated.modReefer (i : Nat) (g : Reefer → Reefer) : Seated x s (s.modReefer i g) := .of_records rfl rfl rfl rfl

theorem Seated.post (sub : Subject) (d : NoticeContent) : Seated x s (s.post sub d) := by
  rw [s.post_frame sub d]
  exact .of_records rfl rfl rfl rfl

theorem Seated.endOldest (p : InFlight → Bool) (res : Result) : Seated x s (s.endOldest p res) := by
  rw [s.endOldest_frame p res]
  exact .of_records rfl rfl rfl rfl

theorem PageFrame.seated (f : PageFrame s t) : Seated x s t := by
  rw [f]
  exact .of_records rfl rfl rfl rfl

theorem SendFrame.seated (f : SendFrame s t) : Seated x s t := by
  rw [f]
  exact .of_records rfl rfl rfl rfl

theorem PollFrame.seated (f : PollFrame s t) (ha : t.air = s.air) : Seated x s t := .of_air (by rw [f]) (by rw [f]) ha

theorem Seated.modContext (k : Nat) (g : Context → Context) (hg : ∀ c, s.contexts.get? k = some c → (g c).seat = c.seat) :
    Seated x s (s.modContext k g) := by
  refine ⟨fun _ => id, fun j d hd => ?_, fun _ _ _ hl => ⟨hl, id⟩⟩
  have hd' : (s.contexts.modify k g).get? j = some d := hd
  by_cases hj : j = k
  · subst hj
    rw [Table.get?_modify_self] at hd'
    obtain ⟨c, hc, rfl⟩ := Option.map_eq_some_iff.mp hd'
    exact ⟨c, hc, hg c hc⟩
  · rw [Table.get?_modify_of_ne _ _ hj] at hd'
    exact ⟨d, hd', rfl⟩

theorem phaseTarget_modLink_self (s : State) (l : Nat) (f : CraneLink → CraneLink) :
    (s.modLink l f).phaseTarget l = (s.links.get? l).bind fun k => (f k).phase.target? := by
  show ((s.links.modify l f).get? l).bind _ = _
  rw [Table.get?_modify_self, Option.bind_map]
  rfl

theorem phaseTarget_modLink_of_ne (s : State) (f : CraneLink → CraneLink) (hj : j ≠ l) :
    (s.modLink l f).phaseTarget j = s.phaseTarget j := by
  show ((s.links.modify l f).get? j).bind _ = _
  rw [Table.get?_modify_of_ne _ _ hj]
  rfl

/-- A change of a link that begins no handover. -/
theorem Seated.modLink (l : Nat) (f : CraneLink → CraneLink)
    (hf : ∀ k, s.links.get? l = some k → ∀ g, (f k).phase.target? = some g → k.phase.target? = some g := by exact fun _ _ _ => id) :
    Seated x s (s.modLink l f) := by
  refine ⟨fun _ => id, fun _ d hd => ⟨d, hd, rfl⟩, fun j g _ hg => ⟨?_, id⟩⟩
  by_cases hj : j = l
  · subst hj
    rw [phaseTarget_modLink_self] at hg
    obtain ⟨k, hk, hphase⟩ := Option.bind_eq_some_iff.mp hg
    exact Option.bind_eq_some_iff.mpr ⟨k, hk, hf k hk g hphase⟩
  · rwa [phaseTarget_modLink_of_ne _ _ hj] at hg

/-- A change of a head that leaves it in service. -/
theorem Seated.modHead (h : HeadIx) (f : Head → Head)
    (hf : s.live h → (f (s.head h)).state.inService = true) : Seated x s (s.modHead h f) := by
  refine ⟨fun g hg => ?_, fun _ d hd => ⟨d, hd, rfl⟩, fun _ _ _ hl => ⟨hl, id⟩⟩
  unfold State.live
  rw [State.modHead_eq, State.head_setHead]
  split
  · next e => exact hf (e ▸ hg)
  · exact hg

/-- A change of an account that keeps the prepared reservations of the links not left out. -/
theorem Seated.modAccount (h : HeadIx) (f : Account → Account)
    (hf : ∀ l, ¬ x l → s.holds .prepared l h = true → (f (s.account h)).list.any (fun r => r.kind == .prepared && r.owner == l) = true) :
    Seated x s (s.modAccount h f) := by
  refine ⟨fun _ => id, fun _ d hd => ⟨d, hd, rfl⟩, fun l g hx hl => ⟨hl, fun hheld => ?_⟩⟩
  unfold State.holds
  rw [State.modAccount, State.account_setAccount]
  split
  · next e => exact hf l hx (e ▸ hheld)
  · exact hheld

/-! ### Polls and airtime -/

theorem Seated.waitPass (h : HeadIx) : Seated x s (s.waitPass h) := (s.waitPass_frame h).seated (air_waitPass s h)
theorem Seated.makePoll (i : Nat) : Seated x s (s.makePoll i) := (s.makePoll_frame i).seated (air_makePoll s i)
theorem Seated.endPoll (i : Nat) : Seated x s (s.endPoll i) := (s.endPoll_frame i).seated (air_endPoll s i)
theorem Seated.returnCredit (h : HeadIx) : Seated x s (s.returnCredit h) := (s.returnCredit_frame h).seated (air_returnCredit s h)

theorem Seated.fit (h : HeadIx) : Seated x s (s.fit h) := by
  have hset : Seated x s (s.modAccount h fun a => { a with wg := grantedWindow (s.head h) (s.account h) }) :=
    .modAccount h _ fun _ _ => id
  exact .ite (fun _ => hset.trans (.waitPass h)) fun _ => hset

theorem any_append_of_any {α : Type} {p : α → Bool} {l m : List α} (h : l.any p = true) : (l ++ m).any p = true := by
  rw [List.any_append, h, Bool.true_or]

theorem Seated.join (h : HeadIx) (q : ResKind) (l n : Nat) : Seated x s (s.join h q l n) :=
  (Seated.modAccount h (fun a => { a with list := a.list ++ [{ kind := q, units := n, owner := l }] })
    fun _ _ hheld => any_append_of_any hheld).trans (.fit h)

theorem Seated.joinStanding (h : HeadIx) (l n : Nat) : Seated x s (s.joinStanding h l n) := by
  unfold State.joinStanding
  split
  · exact .refl s
  · exact .join h .standing l n

theorem any_filter_of_imp {α : Type} {p q : α → Bool} {l : List α} (hpq : ∀ a, p a = true → q a = true) (h : l.any p = true) :
    (l.filter q).any p = true := by
  obtain ⟨a, ha, hp⟩ := List.any_eq_true.mp h
  exact List.any_eq_true.mpr ⟨a, List.mem_filter.mpr ⟨ha, hpq a hp⟩, hp⟩

/-- The release of a reservation other than a prepared one of a link not left out. -/
theorem Seated.releaseOn (h : HeadIx) (q : ResKind) (l : Nat) (hx : q = .prepared → x l) : Seated x s (s.releaseOn h q l) := by
  refine .ite (fun _ => (Seated.modAccount h _ fun j hj hheld => ?_).trans (.fit h)) fun _ => .refl s
  refine any_filter_of_imp (fun r hr => ?_) hheld
  obtain ⟨hkind, howner⟩ : r.kind = .prepared ∧ r.owner = j := by simpa using hr
  have hnot : ¬ (q = .prepared ∧ j = l) := fun ⟨hq, hl⟩ => hj (hl ▸ hx hq)
  simp only [hkind, howner, Bool.not_eq_true', Bool.and_eq_false_iff, beq_eq_false_iff_ne]
  exact (not_and_or.mp hnot).imp (fun h e => h e.symm) id

theorem Seated.releaseStanding (l : Nat) : Seated x s (s.releaseStanding l) := by
  unfold State.releaseStanding
  split
  · exact .releaseOn _ _ l nofun
  · exact .refl s

theorem Seated.dropPrepared (h : HeadIx) (l : Nat) (hx : x l) : Seated x s (s.dropPrepared h l) := by
  refine .modAccount h _ fun j hj hheld => any_filter_of_imp (fun r hr => ?_) hheld
  obtain ⟨hkind, howner⟩ : r.kind = .prepared ∧ r.owner = j := by simpa using hr
  have hne : j ≠ l := fun hl => hj (hl ▸ hx)
  simp [hkind, howner, hne]

theorem Seated.convert (h : HeadIx) (l : Nat) (hx : x l) : Seated x s (s.convert h l) := by
  refine (Seated.modAccount h _ fun j hj hheld => ?_).trans (.fit h)
  obtain ⟨r, hr, hown⟩ := List.any_eq_true.mp hheld
  obtain ⟨-, howner⟩ : r.kind = .prepared ∧ r.owner = j := by simpa using hown
  have hne : r.owner ≠ l := fun hl => hj (howner ▸ hl ▸ hx)
  refine List.any_eq_true.mpr ⟨_, List.mem_map_of_mem hr, ?_⟩
  simpa [hne] using hown

theorem Seated.setWindow (h : HeadIx) (w : Nat) : Seated x s (setWindow h w s) :=
  (Seated.modAccount h _ fun _ _ => id).trans (.fit h)

/-! ### Handovers -/

theorem seat_clearCount (c : Context) (h : HeadIx) : (c.clearCount h).seat = c.seat := by
  unfold Context.seat Context.clearCount
  simp only [List.map_map]
  refine congrArg (fun m => (_, _, _, m)) (List.map_congr_left fun e _ => ?_)
  simp only [Function.comp_apply]
  split <;> rfl

theorem phaseTarget_post (sub : Subject) (d : NoticeContent) (l : Nat) : (s.post sub d).phaseTarget l = s.phaseTarget l := by
  rw [State.phaseTarget, s.post_frame sub d]
  rfl

/-- A handover that ends has no target left. -/
theorem phaseTarget_endHandover (s : State) (l : Nat) (cause : HandoverCause) : (s.endHandover l cause).phaseTarget l = none := by
  have hnone : (s.modLink l fun k => { k with phase := .none }).phaseTarget l = none := by
    rw [phaseTarget_modLink_self]
    cases s.links.get? l <;> rfl
  unfold State.endHandover
  split
  · next hk => rw [State.phaseTarget, hk]; rfl
  · next k hk =>
    split
    · next hphase => rw [State.phaseTarget, hk]; exact hphase
    · dsimp only
      rw [phaseTarget_post]
      split
      · exact hnone
      · exact hnone

theorem Seated.endHandover (l : Nat) (cause : HandoverCause) : Seated x s (s.endHandover l cause) := by
  unfold State.endHandover
  split
  · exact .refl s
  · split
    · exact .refl s
    · next g _ =>
      refine Seated.trans ?_ (.post _ _)
      have hphase : Seated x s (s.modLink l fun k => { k with phase := .none }) := .modLink l _ fun _ _ _ hg => absurd hg nofun
      have hcount (v : State) (k : Nat) : Seated x v (v.modContext k fun c => c.clearCount g) :=
        .modContext k _ fun c _ => seat_clearCount c g
      exact .ite (fun _ => hphase) fun _ => hphase.trans (hcount _ _)

/-- What ends with the handover of the link left out. -/
theorem Seated.closeLink (a : Seated (· = l) s t) (ht : t.phaseTarget l = none) : Seated x s t := by
  refine ⟨a.live, a.seats, fun j g _ hg => a.links j g (fun hj => ?_) hg⟩
  rw [hj, ht] at hg
  cases hg

theorem Seated.cancelHandover (l : Nat) (cause : HandoverCause) : Seated x s (s.cancelHandover l cause) := by
  unfold State.cancelHandover
  split
  · exact ((Seated.releaseOn (x := (· = l)) _ .prepared l fun _ => rfl).trans (.endHandover l cause)).closeLink (phaseTarget_endHandover _ l cause)
  · exact .refl s

theorem Seated.dropAndEnd (h : HeadIx) (l : Nat) (cause : HandoverCause) : Seated x s ((s.dropPrepared h l).endHandover l cause) :=
  ((Seated.dropPrepared (x := (· = l)) h l rfl).trans (.endHandover l cause)).closeLink (phaseTarget_endHandover _ l cause)

theorem Seated.cancelEach (h : HeadIx) (cause : HandoverCause) (ls : List Nat) : Seated x s (cancelEach h cause ls s) := by
  induction ls generalizing s with
  | nil => exact .refl s
  | cons l ls ih => exact (Seated.dropAndEnd h l cause).trans ih

theorem Seated.cancelUntilFits (h : HeadIx) (ls : List Nat) : Seated x s (cancelUntilFits h ls s) := by
  induction ls generalizing s with
  | nil => exact .refl s
  | cons l ls ih => exact .ite (fun _ => .refl s) fun _ => (Seated.dropAndEnd h l .capacity).trans ih

theorem Seated.newCapacity (h : HeadIx) : Seated x s (s.newCapacity h) := (Seated.cancelUntilFits h _).trans (.fit h)

theorem Seated.enterSafeStop (l : Nat) (cause : SafeCause) : Seated x s (s.enterSafeStop l cause) := by
  unfold State.enterSafeStop
  split
  · exact .refl s
  · exact (Seated.modLink l _).trans (.post _ _)

theorem Seated.losePath (l : Nat) (held : Bool) : Seated x s (s.losePath l held) := by
  unfold State.losePath
  split
  · exact .refl s
  · split
    · exact .enterSafeStop l .pathLost
    · exact .enterSafeStop l .pathLost
    · exact .ite (fun _ => .enterSafeStop l .pathLost) fun _ => .refl s
    · exact .refl s

end Sys2Proof.Machine
end

section
/-! What leaves serving heads, candidates and handover targets alone: the work of crane links, heads and reefers. -/

namespace Sys2Proof.Machine

variable {s t u : State} {x : Nat → Prop} {i j k l n : Nat} {c d : Context} {h : HeadIx} {r : Reefer} {w : HeadIx → Prop}

/-! ### Crane links -/

theorem Seated.advanceBlock (l : Nat) : Seated x s (s.advanceBlock l) := by
  unfold State.advanceBlock
  split
  · exact .refl s
  · split
    · exact .refl s
    · exact .ite (fun _ => .modLink l _) fun _ => (Seated.modLink l _).trans (.endOldest _ _)

theorem Seated.sendDownlink (l : Nat) : Seated x s (s.sendDownlink l) := by
  unfold State.sendDownlink
  split
  · split
    · exact .refl s
    · refine Seated.trans ?_ (.advanceBlock l)
      split
      · exact (Seated.order _).trans (.order _)
      · exact .order _
  · exact .refl s

theorem Seated.closeCycle (l : Nat) : Seated x s (s.closeCycle l) := .modLink l _

theorem Seated.uplinkCheck (l : Nat) : Seated x s (s.uplinkCheck l) := by
  unfold State.uplinkCheck
  split
  · exact .refl s
  · have hmisses : ∀ m : Nat, Seated x s (s.modLink l fun k => { k with misses := m }) := fun _ => .modLink l _
    exact .ite (fun _ => (hmisses _).trans (.enterSafeStop l .uplinkLimit)) fun _ => hmisses _

theorem Seated.assemblyCheck (l : Nat) : Seated x s (s.assemblyCheck l) :=
  .modLink l _ fun k _ g => by split <;> exact id

theorem Seated.setpointStage (l : Nat) : Seated x s (s.setpointStage l) := by
  have hset (k : CraneLink) : Seated x s (match k.next with
      | some p =>
        s.modLink l fun k =>
          { k with current := some { sp := p, fresh := true }, next := none, repeats := 0, state := .running }
      | none =>
        let s1 := s.modLink l fun k =>
          { k with
            current := k.current.map fun c => { c with fresh := false }
            repeats := k.repeats + 1
            state := .holding }
        if k.holdLimit ≤ k.repeats + 1 then s1.enterSafeStop l .holdLimit else s1) := by
    split
    · exact .modLink l _
    · exact .ite (fun _ => (Seated.modLink l _).trans (.enterSafeStop l .holdLimit)) fun _ => .modLink l _
  unfold State.setpointStage
  split
  · exact .refl s
  · split
    · exact hset _
    · exact hset _
    · exact .refl s
    · exact .refl s

theorem Seated.handoverStep (l : Nat) : Seated x s (s.handoverStep l) := by
  unfold State.handoverStep
  split
  · exact .refl s
  · next k hk =>
    have hswitch {g : HeadIx} (hg : k.phase.target? = some g) (m : Nat) :
        Seated x s (s.modLink l fun k => { k with phase := .switching g m }) := by
      refine .modLink l _ fun k' hk' g' hg' => ?_
      cases hk.symm.trans hk'
      exact hg.trans hg'
    split
    · exact .refl s
    · next g hphase => exact hswitch (by rw [hphase]; rfl) 0
    · next g m hphase =>
      have hstep := hswitch (g := g) (by rw [hphase]; rfl) (m + 1)
      exact .ite (fun _ => hstep) fun _ => hstep.trans (.cancelHandover l .noAnswer)

theorem Seated.resume (l : Nat) (p : Setpoint) : Seated x s (s.resume l p) := by
  unfold State.resume
  split
  · exact .refl s
  · exact (Seated.modLink l _).trans (.post _ _)

theorem Seated.completeRelease (l : Nat) : Seated x s (s.completeRelease l) := by
  unfold State.completeRelease
  split
  · exact .refl s
  · have hleave : Seated x s ((((s.cancelHandover l .released).sendDownlink l).closeCycle l).releaseStanding l) :=
      (((Seated.cancelHandover l .released).trans (.sendDownlink l)).trans (.closeCycle l)).trans (.releaseStanding l)
    exact ((hleave.trans (.modLink l _)).trans (.post _ _)).trans (.endOldest _ _)

theorem Seated.cycleExpiry (l : Nat) : Seated x s (s.cycleExpiry l) := by
  have hstart : Seated x s (s.modLink l fun k => { k with cycle := some k.period }) := .modLink l _
  have hrun (s : State) : Seated x s (s.runningExpiry l) :=
    (((((Seated.uplinkCheck l).trans (.assemblyCheck l)).trans (.setpointStage l)).trans (.handoverStep l)).trans
      (.sendDownlink l)).trans (.closeCycle l)
  have hstop (s : State) (k : CraneLink) : Seated x s (s.stoppedExpiry l k) := by
    refine .ite (fun _ => (Seated.assemblyCheck l).trans (.completeRelease l)) fun _ => ?_
    refine (((Seated.assemblyCheck l).trans ?_).trans (.handoverStep l)).trans (.sendDownlink l) |>.trans (.closeCycle l)
    split
    · exact .resume l _
    · exact .refl _
  unfold State.cycleExpiry
  split
  · exact .refl s
  · refine .ite (fun _ => ?_) fun _ => .refl s
    dsimp only
    split
    · exact hstart.trans (hrun _)
    · exact hstart.trans (hrun _)
    · exact hstart.trans (hstop _ _)
    · exact .refl s

theorem Seated.takeCraneStart (h : HeadIx) (y : CraneSettings) (p : Setpoint) : Seated x s (takeCraneStart l h y p s) :=
  ((Seated.joinStanding h l _).trans (.modLink l (y.start p) fun _ _ _ hg => by cases hg)).trans (.sendDownlink l)

theorem Seated.takeCraneStop (k : CraneLink) : Seated x s (takeCraneStop l k s) := by
  refine Seated.trans ?_ (.cancelHandover l .ordered)
  split
  · exact .enterSafeStop l .ordered
  · exact .enterSafeStop l .ordered
  · exact .modLink l _
  · exact .refl s

theorem Seated.takeCraneResume (o : Option HeadIx) (k : CraneLink) (p : Setpoint) : Seated x s (takeCraneResume l o k p s) := by
  refine Seated.trans ?_ (.modLink l _)
  split
  · exact ((Seated.joinStanding _ l _).trans (.modLink l _)).trans (.post _ _)
  · exact .refl s

theorem Seated.takeBlock (k : Nat) (b : Bytes48) : Seated x s (s.takeBlock k l b) :=
  ((Seated.modLink l _).trans (.modContext k (fun c => { c with segment := blockSegment b }) fun _ _ => rfl)).trans (.post _ _)

theorem Seated.takeFragment (k : Nat) (start : Bool) (fr : Fragment) (y : CraneLink) :
    Seated x s (s.takeFragment k l start fr y) := by
  unfold State.takeFragment
  have hadd (a : Option (List Fragment)) (lost : Bool) : Seated x s (s.modLink l fun k =>
      { k with assembly := a, sideErrors := if lost then satInc 255 k.sideErrors else k.sideErrors }) :=
    .modLink l _
  dsimp only
  split
  · refine .ite (fun _ => hadd _ _) fun _ => ?_
    split
    · exact (hadd _ _).trans (.takeBlock k _)
    · exact hadd _ _
  · exact hadd _ _

/-! ### Reefers -/

theorem Seated.modPage (i : Nat) (p : Page → Page) : Seated x s (s.modPage i p) := .modReefer i _

theorem Seated.endPage (i : Nat) (res : Result) : Seated x s (s.endPage i res) := (s.endPage_frame i res).seated

theorem Seated.setContact (i : Nat) (c : Contact) : Seated x s (s.setContact i c) := by
  rcases s.setContact_cases i c with ⟨h, -⟩ | ⟨r, -, -, h⟩
  · rw [h]; exact .refl s
  · rw [h]; exact (Seated.modReefer i _).trans (.post _ _)

theorem Seated.failPage (i : Nat) : Seated x s (s.failPage i) := (Seated.endPage i .failed).trans (.setContact i .unreachable)

theorem Seated.pollIfOverdue (i : Nat) : Seated x s (s.pollIfOverdue i) := by
  unfold State.pollIfOverdue
  split
  · exact .ite (fun _ => .makePoll i) fun _ => .refl s
  · exact .refl s

theorem Seated.wake (i : Nat) : Seated x s (s.wake i) := (Seated.modReefer i _).trans (.endPage i .done)

theorem Seated.wakeByReport (i : Nat) : Seated x s (s.wakeByReport i) := by
  unfold State.wakeByReport
  split
  · exact .ite (fun _ => .wake i) fun _ => .refl _
  · exact .refl _

theorem Seated.classify (i : Nat) : Seated x s (s.classify i) := by
  unfold State.classify
  split
  · exact .refl _
  · exact .ite (fun _ => .modReefer i _) fun _ => (Seated.modReefer i _).trans (.post _ _)

theorem Seated.dozeDecision (i : Nat) (woken : Bool) : Seated x s (s.dozeDecision i woken) := by
  unfold State.dozeDecision
  split
  · split
    · exact .ite (fun _ => (Seated.order _).trans (.modReefer i _)) fun _ => .refl _
    · exact .refl _
  · exact .refl _

theorem Seated.takeReeferReport (i : Nat) (r : Reefer) (f : ReportFields) : Seated x s (takeReeferReport i r f s) :=
  (((((Seated.modReefer i _).trans (.setContact i .reachable)).trans (.wakeByReport i)).trans (.endPoll i)).trans
    (.classify i)).trans (.dozeDecision i _)

theorem Seated.takeDozeAck (code : Byte) (i : Nat) (r : Reefer) : Seated x s (takeDozeAck code i r s) := by
  have hcontact : Seated x s (s.setContact i .reachable) := .setContact i .reachable
  unfold Machine.takeDozeAck
  dsimp only
  split
  · exact .ite (fun _ => (hcontact.trans (.modReefer i _)).trans (State.releaseAckPage_frame _ i).seated) fun _ => hcontact
  · exact hcontact

theorem Seated.takePageAnswer (i : Nat) (r : Reefer) : Seated x s (takePageAnswer i r s) := by
  have hcontact : Seated x s (s.setContact i .reachable) := .setContact i .reachable
  exact .ite (fun _ => (hcontact.trans (.wake i)).trans (.pollIfOverdue i)) fun _ => hcontact

theorem Seated.ackExpiry (i : Nat) : Seated x s (s.ackExpiry i) := by
  unfold State.ackExpiry
  split
  · exact .refl s
  · refine .ite (fun _ => Seated.trans ?_ (.pollIfOverdue i)) fun _ => .refl s
    split
    · exact .ite (fun _ => (Seated.modReefer i _).trans (.endPage i .alreadyAwake)) fun _ => .modReefer i _
    · exact .modReefer i _

theorem Seated.pageExpiry (i : Nat) : Seated x s (s.pageExpiry i) := by
  unfold State.pageExpiry
  split
  · exact .refl s
  · split
    · exact .refl s
    · exact .ite (fun _ => .ite (fun _ => .modReefer i _) fun _ => .failPage i) fun _ => .refl s

theorem Seated.pollExpiry (i : Nat) : Seated x s (s.pollExpiry i) := by
  unfold State.pollExpiry
  split
  · exact .refl s
  · split
    · exact .ite (fun _ => (Seated.modReefer i _).trans (.returnCredit _)) fun _ => .refl s
    · exact .refl s
    · exact .refl s

theorem Seated.secondPass : Seated x s s.secondPass := .ite (fun _ => .of_records rfl rfl rfl rfl) fun _ => .refl s

theorem Seated.overdueAction (i : Nat) : Seated x s (s.overdueAction i) := by
  unfold State.overdueAction
  split
  · split
    · exact .makePoll i
    all_goals exact .ite (fun _ => (State.internalPage_frame _ _ i).seated) fun _ => .refl _
  · exact .refl _

theorem Seated.overdueExpiry (i : Nat) : Seated x s (s.overdueExpiry i) := by
  unfold State.overdueExpiry
  split
  · exact .refl s
  · exact .ite (fun _ => (Seated.modReefer i _).trans (.overdueAction i)) fun _ => .refl s

/-! ### Reports -/

theorem Seated.moveReeferWork (c : Context) (g : HeadIx) : Seated x s (s.moveReeferWork c g) := by
  unfold State.moveReeferWork
  split
  · next i _ _ =>
    refine Seated.trans (t := s.movePage i g) ?_ ?_
    · unfold State.movePage
      split
      · exact .refl s
      · split
        · exact .refl s
        · refine .ite (fun _ => .failPage i) fun _ => .ite (fun _ => .endPage i _) fun _ => .ite (fun _ => ?_) fun _ => .endPage i _
          exact .of_records rfl rfl rfl rfl
    · unfold State.moveWait
      split
      · exact .refl _
      · refine .ite (fun _ => ?_) fun _ => .refl _
        exact Seated.trans (t := ((s.movePage i g).leaveWaitLists i).setPollWait g (((s.movePage i g).leaveWaitLists i).pollWait g ++ [i]))
          (.of_records rfl rfl rfl rfl) (.waitPass g)
  · exact .refl s


/-! ### Heads -/

/-- A change of a head that leaves its state. -/
theorem Seated.writeHead (h : HeadIx) (f : Head → Head) (hf : ∀ y, (f y).state = y.state := by exact fun _ => rfl) :
    Seated x s (s.modHead h f) := .modHead h f fun hlive => by rw [hf]; exact hlive

theorem Seated.enterSlot (h : HeadIx) (k : Nat) : Seated x s (s.enterSlot h k) := by
  have hbeam : Seated x s ((s.modHead h fun x => { x with sweep := some { slot := k, remaining := 2 * (s.head h).active.dwell } }).order
      (.beam h ((s.head h).active.slot k))) := (Seated.writeHead h _).trans (.order _)
  unfold State.enterSlot
  dsimp only
  split
  · exact hbeam.trans (State.releasePages_frame _ h _).seated
  · exact hbeam

theorem Seated.applyStaged (h : HeadIx) : Seated x s (s.applyStaged h) := by
  unfold State.applyStaged
  split
  · exact (Seated.writeHead h _).trans (.endOldest _ _)
  · exact .refl s

theorem Seated.dwellExpiry (h : HeadIx) : Seated x s (s.dwellExpiry h) := by
  unfold State.dwellExpiry
  split
  · refine .ite (fun _ => .ite (fun _ => .enterSlot h _) fun _ => ?_) fun _ => .refl s
    exact ((Seated.applyStaged h).trans (State.wrapPages_frame _ h).seated).trans (.enterSlot h 0)
  · exact .refl s

/-! ### Changes of a head's state, but for the fault -/

theorem Seated.changeHead (h : HeadIx) (f : Head → Head) (hf : s.live h → (f (s.head h)).state.inService = true) :
    Seated x s (s.changeHead h f) := by
  have hpost : Seated x s ((s.modHead h f).postHeadState h) := (Seated.modHead h f hf).trans (.post _ _)
  exact (hpost.trans (.ite (fun _ => .cancelEach h .targetLost _) fun _ => .refl _)).trans (.fit h)

theorem Seated.headUp (h : HeadIx) : Seated x s (headUp h s) :=
  .ite (fun _ => (((Seated.modHead h _ fun _ => rfl).trans (.enterSlot h 0)).trans (.post _ _)).trans (.fit h)) fun _ => .refl s

theorem Seated.enterActive (h : HeadIx) : Seated x s (s.enterActive h) := .changeHead h _ fun _ => rfl

theorem Seated.syncLock (h : HeadIx) : Seated x s (syncLock h s) := by
  unfold Machine.syncLock
  split
  · exact .ite (fun _ => .refl s) fun _ => .ite (fun _ => .enterActive h) fun _ => .writeHead h _
  · exact .enterActive h
  · exact .refl s
  · exact .refl s
  · exact .refl s

theorem Seated.syncLost (h : HeadIx) : Seated x s (syncLost h s) := by
  unfold Machine.syncLost
  split
  · exact .writeHead h _
  · exact .changeHead h _ fun _ => rfl
  · exact .refl s
  · exact .refl s
  · exact .refl s

theorem Seated.startTimerExpiry (h : HeadIx) : Seated x s (s.startTimerExpiry h) :=
  .ite (fun _ => .ite (fun _ => .enterActive h) fun _ => .writeHead h _) fun _ => .refl s

theorem Seated.takeHeadConfig (h : HeadIx) (b : Bool) (p : HeadPlan) : Seated x s (takeHeadConfig h b p s) :=
  .ite (fun _ => (Seated.writeHead h _).trans (.newCapacity h)) fun _ => .writeHead h _

end Sys2Proof.Machine
end

section
/-! Serving heads, candidates and handover targets (R4, R5, R9) through completion, rescue, faults, restarts, ATTACH and
RETIRE. -/

namespace Sys2Proof.Machine

variable {s t u : State} {x : Nat → Prop} {i j k l n : Nat} {c d : Context} {g h : HeadIx} {r : Reefer} {y : CraneLink}
  {w w' : Nat → HeadIx → Prop} {v : HeadIx → Prop} {target : Option HeadIx}

/-! ### A context served by the head of one of its entries -/

theorem entry_serveOn (c : Context) (g h : HeadIx) : ((c.serveOn g).entry? h).map (·.sector) = (c.entry? h).map (·.sector) := by
  rw [entry_sector, entry_sector]
  unfold Context.seat Context.serveOn
  simp only [List.map_map]
  rfl

theorem Context.served.serveOn (hc : c.served v target) (hentry : (c.entry? g).isSome) : (c.serveOn g).served v target := by
  refine ⟨fun e he => ?_, fun h hh => ?_, fun h hh => ?_⟩
  · obtain ⟨e', he', rfl⟩ := List.mem_map.mp he
    exact hc.live e' he'
  · obtain ⟨e, he⟩ := Option.isSome_iff_exists.mp hentry
    cases Option.some.inj hh
    rw [entry_serveOn, he]
    unfold Context.serveOn
    rw [he]
    rfl
  · have hsome := hc.target h hh
    rw [← Option.isSome_map (f := fun e : Candidate => e.sector)] at hsome ⊢
    rwa [entry_serveOn]

theorem servedBy_serveOn (hs : s.servedBy w) (hentry : ∀ c, s.contexts.get? k = some c → (c.entry? g).isSome) :
    (s.modContext k fun c => c.serveOn g).servedBy w := by
  intro j d hd
  have hd' : (s.contexts.modify k fun c => c.serveOn g).get? j = some d := hd
  by_cases hj : j = k
  · subst hj
    rw [Table.get?_modify_self] at hd'
    obtain ⟨c, hc, rfl⟩ := Option.map_eq_some_iff.mp hd'
    exact (hs j c hc).serveOn (hentry c hc)
  · rw [Table.get?_modify_of_ne _ _ hj] at hd'
    exact hs j d hd'

/-- A link's context is a CRANE context that names the link (R3). -/
theorem Own.context_of_link (hs : Own s) (hy : s.links.get? l = some y) :
    ∃ c, s.contexts.get? y.owner = some c ∧ c.link? = some l := by
  obtain ⟨-, -, -, -, hlinks, -⟩ := hs
  have hany := hlinks _ (Table.mem_of_get? hy)
  cases hc : s.contexts.get? y.owner with
  | none => rw [hc] at hany; cases hany
  | some c =>
    rw [hc] at hany
    simp only [Option.any_some, Bool.and_eq_true, beq_iff_eq] at hany
    obtain ⟨hcls, hext⟩ := hany
    exact ⟨c, rfl, by rw [Context.link?, hcls]; exact hext⟩

/-- The owner of a link in a handover may be served by the target. -/
theorem servedBy_hand (hs : Own s) (hw : s.servedBy w) (hy : s.links.get? l = some y) (hg : y.phase.target? = some g) :
    (s.modContext y.owner fun c => c.serveOn g).servedBy w := by
  obtain ⟨c, hc, hlink⟩ := hs.context_of_link hy
  refine servedBy_serveOn hw fun d hd => ?_
  cases hc.symm.trans hd
  refine (hw _ c hc).target g ?_
  rw [handoverTarget_eq, hlink, Option.bind_some, State.phaseTarget, hy]
  exact hg

theorem phaseTarget_endPhase (s : State) (l : Nat) : (s.modLink l fun k => { k with phase := .none }).phaseTarget l = none := by
  rw [phaseTarget_modLink_self]
  cases s.links.get? l <;> rfl

/-- A completed handover: the target serves, and the rest leaves every seat (R120). -/
theorem completeHandover_seated (l : Nat) : s.completeHandover l = s ∨ ∃ y g, s.links.get? l = some y ∧
    y.phase.target? = some g ∧ Seated x (s.modContext y.owner fun c => c.serveOn g) (s.completeHandover l) := by
  unfold State.completeHandover
  split
  · next y c hy hc =>
    split
    · exact .inl rfl
    · next g hg =>
      refine .inr ⟨y, g, hy, hg, ?_⟩
      have hconvert : Seated (· = l) (s.modContext y.owner fun c => c.serveOn g)
          ((s.modContext y.owner fun c => c.serveOn g).convert g l) := .convert g l rfl
      have hphase (v : State) : Seated (· = l) v (v.modLink l fun k => { k with phase := .none }) :=
        .modLink l _ fun _ _ _ h => absurd h nofun
      refine Seated.trans (Seated.trans (Seated.closeLink (l := l) ?_ (phaseTarget_endPhase _ l)) (.order _)) (.post _ _)
      refine (hconvert.trans ?_).trans (hphase _)
      split
      · exact .releaseOn _ .standing l nofun
      · exact .refl _
  · exact .inl rfl

/-- A rescue: the target serves, and the rest leaves every seat (R124). -/
theorem rescue_seated (l : Nat) (h g : HeadIx) : s.rescue l h g = s ∨ ∃ y, s.links.get? l = some y ∧
    Seated x (s.modContext y.owner fun c => c.serveOn g) (s.rescue l h g) := by
  unfold State.rescue
  split
  · next y c hy hc =>
    refine .inr ⟨y, hy, ?_⟩
    have hconvert : Seated (· = l) (s.modContext y.owner fun c => c.serveOn g)
        ((s.modContext y.owner fun c => c.serveOn g).convert g l) := .convert g l rfl
    have hphase (v : State) : Seated (· = l) v (v.modLink l fun k => { k with phase := .none }) :=
      .modLink l _ fun _ _ _ h => absurd h nofun
    exact (((hconvert.trans (hphase _)).closeLink (phaseTarget_endPhase _ l)).trans (.order _)).trans (.post _ _)
  · exact .inl rfl

/-! ### Owners, handovers and seats together -/

/-- Owners are in step, handovers are backed, and the contexts are served by the heads `w`. -/
structure State.placed (s : State) (w : Nat → HeadIx → Prop) : Prop where
  own : Own s
  backed : s.backed
  served : s.servedBy w

theorem Seated.placed (a : Seated (fun _ => False) s t) (hown : Own s → Own t) (hs : s.placed w) : t.placed w :=
  ⟨hown hs.own, a.backed hs.backed, a.servedBy hs.served⟩

theorem placed_completeHandover (l : Nat) (hs : s.placed w) :
    (s.completeHandover l).placed w ∧ ∀ h, s.live h → (s.completeHandover l).live h := by
  rcases completeHandover_seated (s := s) (x := fun _ => False) l with hsame | ⟨y, g, hy, hg, hseated⟩
  · rw [hsame]
    exact ⟨hs, fun _ => id⟩
  · refine ⟨⟨(ReefersKept.completeHandover l).own hs.own, ?_, ?_⟩, hseated.live⟩
    · exact hseated.backed hs.backed
    · exact hseated.servedBy (servedBy_hand hs.own hs.served hy hg)

/-! ### The uplink (R107, R120) -/

theorem placed_takeUplink (f : UplinkFields) (hs : s.placed w) :
    (takeUplink k l y h f s).placed w ∧ ∀ g, s.live g → (takeUplink k l y h f s).live g := by
  let back := s.modLink l fun k => { k with feedback := some { bytes := f.feedback, seq := f.seq, age := 0 } }
  let s2 := if y.heard then back else (back.takeFragment k l f.start f.frag y).modLink l fun k => { k with heard := true }
  have hseated : Seated (fun _ => False) s s2 :=
    .ite (fun _ => .modLink l _) fun _ => ((Seated.modLink l _).trans (.takeFragment k _ _ y)).trans (.modLink l _)
  have hown : ReefersKept s s2 :=
    .ite (fun _ => .modLink l _) fun _ => ((ReefersKept.modLink l _).trans (.takeFragment k _ _ y)).trans (.modLink l _)
  have hs2 : s2.placed w := hseated.placed hown.own hs
  unfold Machine.takeUplink
  dsimp only
  split
  · obtain ⟨hplaced, hlive⟩ := placed_completeHandover l hs2
    exact ⟨hplaced, fun g hg => hlive g (hseated.live g hg)⟩
  · exact ⟨hs2, hseated.live⟩

theorem placed_onUplink (k : Nat) (c : Context) (f : UplinkFields) (hs : s.placed w) :
    (onUplink k c f s).placed w ∧ ∀ g, s.live g → (onUplink k c f s).live g := by
  unfold Machine.onUplink
  split
  · exact ⟨hs, fun _ => id⟩
  · split
    · split
      · exact placed_takeUplink f hs
      · exact ⟨hs, fun _ => id⟩
    · exact ⟨hs, fun _ => id⟩

/-! ### The fault of a head (R4, R36, R124) -/

/-- No handover goes to the head. -/
def State.spared (s : State) (h : HeadIx) : Prop := ∀ l, s.phaseTarget l ≠ some h

theorem Seated.spared (a : Seated (fun _ => False) s t) (hs : s.spared h) : t.spared h :=
  fun l hl => hs l (a.links l h nofun hl).1

theorem entry_lostHead (c : Context) (hg : g ≠ h) : (c.lostHead h).entry? g = c.entry? g := by
  unfold Context.entry? Context.lostHead
  rw [List.find?_filter]
  refine congrArg (List.find? · c.cands) (funext fun e => ?_)
  by_cases he : e.head = g
  · simp [he, hg]
  · simp [he]

/-- A context without the head is served by the others (R4, R36). -/
theorem Context.served.lostHead (hc : c.served v target) (ht : target ≠ some h) :
    (c.lostHead h).served (fun g => v g ∧ g ≠ h) target := by
  refine ⟨fun e he => ?_, fun g hg => ?_, fun g hg => ?_⟩
  · obtain ⟨hmem, hne⟩ := List.mem_filter.mp he
    exact ⟨hc.live e hmem, by simpa using hne⟩
  · have hserving : (if c.serving = some h then none else c.serving) = some g := hg
    split at hserving
    · cases hserving
    · next hother =>
      have hne : g ≠ h := fun e => hother (by rw [hserving, e])
      rw [entry_lostHead c hne]
      exact hc.sector g hserving
  · have hne : g ≠ h := fun e => ht (by rw [hg, e])
    rw [entry_lostHead c hne]
    exact hc.target g hg

/-- The heads that serve once the context in slot `k` has lost head `h`. -/
def afterLoss (w : Nat → HeadIx → Prop) (k : Nat) (h : HeadIx) (j : Nat) (g : HeadIx) : Prop := w j g ∧ (j = k → g ≠ h)

theorem placed_lostHead (hs : s.placed w) (hspared : s.spared h) : (s.modContext k (Context.lostHead h)).placed (afterLoss w k h) := by
  refine ⟨own_of_owners (owners_modContext s k (Context.lostHead h) fun _ => rfl) hs.own, hs.backed, fun j d hd => ?_⟩
  have hd' : (s.contexts.modify k (Context.lostHead h)).get? j = some d := hd
  by_cases hj : j = k
  · subst hj
    rw [Table.get?_modify_self] at hd'
    obtain ⟨c, hc, rfl⟩ := Option.map_eq_some_iff.mp hd'
    have hlost := (hs.served j c hc).lostHead (h := h) fun ht => by
      rw [handoverTarget_eq] at ht
      obtain ⟨l, -, hl⟩ := Option.bind_eq_some_iff.mp ht
      exact hspared l hl
    exact ⟨fun e he => (hlost.live e he).imp_right fun hne _ => hne, hlost.sector, hlost.target⟩
  · rw [Table.get?_modify_of_ne _ _ hj] at hd'
    have hsame := hs.served j d hd'
    exact ⟨fun e he => ⟨hsame.live e he, fun hk => absurd hk hj⟩, hsame.sector, hsame.target⟩

theorem placed_loseHead (l : Nat) (h : HeadIx) (held : Bool) (hs : s.placed w) (hspared : s.spared h) :
    (s.loseHead l h held).placed w ∧ (s.loseHead l h held).spared h := by
  have hown := (ReefersKept.loseHead l h held).own hs.own
  unfold State.loseHead at hown ⊢
  split at hown
  · next g hg =>
    rcases rescue_seated (s := s) (x := fun _ => False) l h g with hsame | ⟨y, hy, hseated⟩
    · rw [hsame]
      exact ⟨hs, hspared⟩
    · rw [hy] at hg
      refine ⟨⟨hown, hseated.backed hs.backed, hseated.servedBy (servedBy_hand hs.own hs.served hy hg)⟩, ?_⟩
      exact hseated.spared hspared
  · exact ⟨(Seated.losePath l held).placed (fun _ => hown) hs, (Seated.losePath l held).spared hspared⟩

theorem placed_faultContext (held : List Nat) (k : Nat) (hs : s.placed w) (hspared : s.spared h) :
    (faultContext h held k s).placed (afterLoss w k h) ∧ (faultContext h held k s).spared h := by
  unfold Machine.faultContext
  split
  · next hc =>
    refine ⟨⟨hs.own, hs.backed, fun j d hd => ?_⟩, hspared⟩
    have hj : j ≠ k := fun hj => by rw [hj, hc] at hd; cases hd
    have hsame := hs.served j d hd
    exact ⟨fun e he => ⟨hsame.live e he, fun hk => absurd hk hj⟩, hsame.sector, hsame.target⟩
  · next c hc =>
    have hlost := placed_lostHead (k := k) hs hspared
    have hlost' : (s.modContext k (Context.lostHead h)).spared h := hspared
    have hpost : Seated (fun _ => False) (s.modContext k (Context.lostHead h))
        ((s.modContext k (Context.lostHead h)).post (.context k) .serveLost) := .post _ _
    have hposted := hpost.placed (ReefersKept.post _ _).own hlost
    dsimp only
    split
    · split
      · exact placed_loseHead _ h _ hposted (hpost.spared hlost')
      · exact ⟨hposted, hpost.spared hlost'⟩
    · exact ⟨hlost, hlost'⟩

/-- The contexts of the slots given lose the head. -/
theorem placed_faultContexts (held ks : List Nat) (hs : s.placed w) (hspared : s.spared h) :
    (faultContexts h held ks s).placed (fun j g => w j g ∧ (j ∈ ks → g ≠ h)) ∧ (faultContexts h held ks s).spared h := by
  induction ks generalizing s w with
  | nil =>
    refine ⟨⟨hs.own, hs.backed, fun j d hd => ?_⟩, hspared⟩
    have hsame := hs.served j d hd
    exact ⟨fun e he => ⟨hsame.live e he, fun hj => absurd hj List.not_mem_nil⟩, hsame.sector, hsame.target⟩
  | cons k ks ih =>
    obtain ⟨hplaced, hspared'⟩ := placed_faultContext held k hs hspared
    obtain ⟨⟨hown, hbacked, hserved⟩, hrest⟩ := ih hplaced hspared'
    refine ⟨⟨hown, hbacked, fun j d hd => ?_⟩, hrest⟩
    have hd' := hserved j d hd
    refine ⟨fun e he => ?_, hd'.sector, hd'.target⟩
    obtain ⟨⟨hw, hk⟩, hks⟩ := hd'.live e he
    exact ⟨hw, fun hj => (List.mem_cons.mp hj).elim hk hks⟩

/-- The fault of a head, up to its contexts: no handover goes to the head (R35, R65). -/
theorem placed_faultEntered (cause : FaultCause) (hs : s.placed w) (hair : s.airtimeLaw) :
    (s.faultEntered h cause).placed w ∧ (s.faultEntered h cause).spared h := by
  have hwritten : (s.modHead h (Head.faulted cause)).placed w := ⟨(ReefersKept.modHead h _).own hs.own, hs.backed, hs.served⟩
  have hpost : Seated (fun _ => False) (s.modHead h (Head.faulted cause)) ((s.modHead h (Head.faulted cause)).postHeadState h) :=
    .post _ _
  have hseated : Seated (fun _ => False) (s.modHead h (Head.faulted cause)) (s.faultEntered h cause) :=
    .ite (fun _ => hpost.trans (.cancelEach h .targetLost _)) fun _ => hpost
  have hplaced : (s.faultEntered h cause).placed w := hseated.placed (fun _ => (ReefersKept.faultEntered h cause).own hs.own) hwritten
  refine ⟨hplaced, fun l hl => ?_⟩
  have hheld := hplaced.backed l h hl
  have hnone : ((s.faultEntered h cause).account h).preparedOwners = [] := by
    obtain ⟨-, -, -, hstate⟩ := hair h
    unfold State.faultEntered
    dsimp only
    split
    · rw [State.cancelPrepared, account_cancelEach, if_pos rfl]
      exact Account.preparedOwners_without fun _ => id
    · next hnot =>
      rw [State.postHeadState, State.account_post]
      exact hstate hnot
  obtain ⟨r, hr, hkind⟩ := List.any_eq_true.mp hheld
  obtain ⟨hprepared, -⟩ := Bool.and_eq_true_iff.mp hkind
  have hmem : r.owner ∈ ((s.faultEntered h cause).account h).preparedOwners :=
    List.mem_map_of_mem (List.mem_filter.mpr ⟨hr, hprepared⟩)
  rw [hnone] at hmem
  cases hmem

theorem Seated.faultReefers (h : HeadIx) : Seated x s (s.faultReefers h) := by
  have hended : Seated x s (endPages .noPath (s.pageQueue h) s) := (endPages_frame .noPath (s.pageQueue h) s).seated
  rw [faultReefers_eq]
  refine hended.trans (.of_records ?_ ?_ ?_ ?_) <;> rfl

theorem keys_of_owners (ht : t.owners = s.owners) : t.contexts.keys = s.contexts.keys := by
  have hc : t.contexts.map (fun e => (e.1, e.2.ids)) = s.contexts.map fun e => (e.1, e.2.ids) := congrArg (·.1) ht
  have hkeys := congrArg (List.map Prod.fst) hc
  rw [List.map_map, List.map_map] at hkeys
  exact hkeys

/-- The fault taken to the contexts, no handover going to the head (R36, R65). -/
theorem placed_faultTaken (held : List Nat) (hs : s.placed fun _ => v) (hspared : s.spared h) :
    (s.faultTaken h held).placed (fun _ g => v g ∧ g ≠ h) ∧ ∀ g, s.live g → (s.faultTaken h held).live g := by
  let a := (s.modAccount h Account.emptied).fit h
  have hemptied : Seated (fun _ => False) s (s.modAccount h Account.emptied) := by
    refine ⟨fun _ => id, fun _ d hd => ⟨d, hd, rfl⟩, fun l g _ hg => ⟨hg, fun hheld => ?_⟩⟩
    have hne : g ≠ h := fun hgh => hspared l (hgh ▸ hg)
    unfold State.holds at hheld ⊢
    rwa [State.modAccount, State.account_setAccount_of_ne _ _ hne]
  have hfit : Seated (fun _ => False) s a := hemptied.trans (.fit h)
  have hcontexts : a.contexts = s.contexts := by
    show ((s.modAccount h Account.emptied).fit h).contexts = _
    rw [State.fit_frame (s.modAccount h Account.emptied) h]
    rfl
  have hown : Own s → Own a := fun hs => (ReefersKept.fit h).own (own_of_owners (s := s) rfl hs)
  obtain ⟨hplaced, -⟩ := placed_faultContexts held s.contexts.keys (hfit.placed hown hs) (hfit.spared hspared)
  have hheads : (faultContexts h held s.contexts.keys a).heads = a.heads := by
    rw [faultContexts_frame h held s.contexts.keys a]
  have hlast : Seated (fun _ => False) (faultContexts h held s.contexts.keys a) (s.faultTaken h held) := .faultReefers h
  have hend := hlast.placed (own_of_owners (owners_faultReefers h _)) hplaced
  refine ⟨⟨hend.own, hend.backed, fun j d hd => ?_⟩, fun g hg => ?_⟩
  · have hkeys : (s.faultTaken h held).contexts.keys = s.contexts.keys :=
      (keys_of_owners ((owners_faultReefers h _).trans (owners_faultContexts h held _ a))).trans (congrArg Table.keys hcontexts)
    have hmem : j ∈ s.contexts.keys := by
      rw [← hkeys, Table.mem_keys, hd]
      rfl
    have hd' := hend.served j d hd
    exact ⟨fun e he => (hd'.live e he).imp_right fun hne => hne hmem, hd'.sector, hd'.target⟩
  · refine hlast.live g ?_
    unfold State.live
    rw [head_of_heads hheads]
    exact hfit.live g hg

theorem placed_mono {w' : Nat → HeadIx → Prop} (hs : s.placed w) (hw : ∀ j g, w j g → w' j g) : s.placed w' :=
  ⟨hs.own, hs.backed, fun j d hd => ⟨fun e he => hw j _ ((hs.served j d hd).live e he), (hs.served j d hd).sector, (hs.served j d hd).target⟩⟩

/-- The fault of a head (R35 to R38): no context names the head any more. -/
theorem placed_enterFault (cause : FaultCause) (hs : s.placed fun _ => s.live) (hair : s.airtimeLaw) :
    (s.enterFault h cause).placed fun _ => (s.enterFault h cause).live := by
  obtain ⟨hentered, hspared⟩ := placed_faultEntered (h := h) cause hs hair
  have hbeam : Seated (fun _ => False) (s.faultEntered h cause) ((s.faultEntered h cause).order (.beam h none)) := .order _
  obtain ⟨htaken, hlive⟩ := placed_faultTaken (s.account h).standingOwners (hbeam.placed (ReefersKept.order _).own hentered)
    (hbeam.spared hspared)
  have hothers (g : HeadIx) (hg : s.live g ∧ g ≠ h) : ((s.faultEntered h cause).order (.beam h none)).live g := by
    unfold State.live
    have hhead : ((s.faultEntered h cause).order (.beam h none)).head g = s.head g := by
      rw [head_of_heads (show ((s.faultEntered h cause).order (.beam h none)).heads = _ from heads_faultEntered s h cause),
        State.modHead_eq, State.head_setHead, if_neg hg.2]
    rw [hhead]
    exact hg.1
  have hreplied {v : State} (hv : v.placed fun _ => v.live) :
      (v.endOldest (InFlight.isFor .sweepSet (.head h)) .done).placed fun _ =>
        (v.endOldest (InFlight.isFor .sweepSet (.head h)) .done).live := by
    have hend : Seated (fun _ => False) v (v.endOldest (InFlight.isFor .sweepSet (.head h)) .done) := .endOldest _ _
    exact placed_mono (hend.placed (ReefersKept.endOldest _ _).own hv) fun _ => hend.live
  have hfaulted := placed_mono (w' := fun _ => State.live _) htaken fun _ g hg => hlive g (hothers g hg)
  rw [enterFault_eq]
  dsimp only
  split
  · exact hreplied hfaulted
  · exact hfaulted

end Sys2Proof.Machine
end

section
/-! Serving heads, candidates and handover targets (R4, R5, R9) through the restart, ATTACH, RETIRE, reports and all commands. -/

namespace Sys2Proof.Machine

variable {s t u : State} {x : Nat → Prop} {i j k l n : Nat} {c d : Context} {g h : HeadIx} {r : Reefer} {y : CraneLink}
  {w w' : Nat → HeadIx → Prop} {v : HeadIx → Prop} {target kept : Option HeadIx} {list : List Candidate}

/-! ### The restart -/

theorem Seated.restartReefers : Seated x s s.restartReefers := .of_records rfl rfl rfl rfl

theorem Seated.restartHeads (hs : List HeadIx) : Seated (fun _ => True) s (restartHeads hs s) := by
  have hone (h : HeadIx) (s : State) : Seated (fun _ => True) s (s.restartHead h) := by
    have hstaged : Seated (fun _ => True) s (s.modHead h fun x => { x with staged := none }) := .writeHead h _
    exact .ite (fun _ => hstaged) fun _ => (hstaged.trans (.modAccount h _ fun l hl => absurd trivial hl)).trans (.fit h)
  induction hs generalizing s with
  | nil => exact .refl s
  | cons h hs ih => exact (hone h s).trans ih

theorem Seated.restartLink (l : Nat) : Seated x s (s.restartLink l) := by
  unfold State.restartLink
  split
  · exact .refl s
  · refine Seated.trans ?_ (.endHandover l .restart)
    have hafter : Seated x s (s.modLink l CraneLink.afterRestart) := .modLink l _
    split
    · exact hafter.trans (.enterSafeStop l .restart)
    · exact hafter.trans (.enterSafeStop l .restart)
    · exact hafter
    · exact hafter

theorem phaseTarget_restartLink (s : State) (l : Nat) : (s.restartLink l).phaseTarget l = none := by
  unfold State.restartLink
  split
  · next hl => rw [State.phaseTarget, hl]; rfl
  · exact phaseTarget_endHandover _ l .restart

theorem Seated.restartLinks (ls : List Nat) : Seated x s (restartLinks ls s) := by
  induction ls generalizing s with
  | nil => exact .refl s
  | cons l ls ih => exact (Seated.restartLink l).trans ih

theorem phaseTarget_none_of_seated (a : Seated (fun _ => False) s t) (hs : s.phaseTarget l = none) : t.phaseTarget l = none := by
  cases ht : t.phaseTarget l with
  | none => rfl
  | some g => exact absurd (hs.symm.trans (a.links l g nofun ht).1) nofun

/-- No handover is left after the restart (R125). -/
theorem phaseTarget_restartLinks (ls : List Nat) (hl : l ∈ ls) : (restartLinks ls s).phaseTarget l = none := by
  induction ls generalizing s with
  | nil => cases hl
  | cons j ls ih =>
    rcases List.mem_cons.mp hl with rfl | hl
    · exact phaseTarget_none_of_seated (.restartLinks ls) (phaseTarget_restartLink s l)
    · exact ih hl

theorem Seated.takeRestart : Seated (fun _ => False) s (takeRestart s) := by
  let s1 : State := { s with inflight := [], notices := [], restartCause := .warm }
  have hport : Seated (fun _ => True) s s1 := .of_records rfl rfl rfl rfl
  refine (((hport.trans .restartReefers).trans (.restartHeads allHeads)).trans (.restartLinks _)).close fun l _ => ?_
  by_cases hl : l ∈ (Machine.restartHeads allHeads s1.restartReefers).links.keys
  · exact phaseTarget_restartLinks _ hl
  · refine phaseTarget_none_of_seated (.restartLinks _) ?_
    rw [Table.mem_keys, Option.not_isSome_iff_eq_none] at hl
    rw [State.phaseTarget, hl]
    rfl

/-! ### ATTACH, RETIRE, CLASS_PARAMS and the strobe -/

theorem link?_of_other (hcls : c.cls ≠ .crane) : c.link? = none := by
  unfold Context.link?
  split
  · next h => exact absurd h hcls
  · rfl

theorem placed_takeAttach {os : Options} {p : AttachPlan} (hp : attachChecks os s = .ok p) (hs : s.placed w) :
    (takeAttach p s).placed w := by
  have hown := (LawsKept.takeAttach hp).own hs.own
  obtain ⟨hhandle, -, -, hext, hcands, hserving⟩ := attachChecks_ok hp
  have hair : (takeAttach p s).airtime = s.airtime := by
    rcases takeAttach_cases hext with ⟨-, -, -, e⟩ | ⟨-, -, -, e⟩ | ⟨-, -, -, e⟩ <;> rw [e]
  have hcontexts : (takeAttach p s).contexts = s.contexts.set p.handle p.ctx := by
    rcases takeAttach_cases hext with ⟨-, -, -, e⟩ | ⟨-, -, -, e⟩ | ⟨-, -, -, e⟩ <;> rw [e]
  have hlink (l : Nat) (g : HeadIx) (hg : (takeAttach p s).phaseTarget l = some g) : s.phaseTarget l = some g := by
    rcases takeAttach_cases hext with ⟨-, -, -, e⟩ | ⟨-, -, -, e⟩ | ⟨-, -, -, e⟩ <;> rw [e] at hg
    · have hg' : ((s.links.set s.links.lowestFree (CraneLink.fresh p.handle)).get? l).bind (·.phase.target?) = some g := hg
      rw [Table.get?_set] at hg'
      split at hg'
      · cases hg'
      · exact hg'
    · exact hg
    · exact hg
  refine ⟨hown, fun l g hg => ?_, fun j d hd => ?_⟩
  · have hheld := hs.backed l g (hlink l g hg)
    unfold State.holds State.account at hheld ⊢
    rwa [hair]
  · rw [hcontexts, Table.get?_set] at hd
    split at hd
    · next hj =>
      cases hd
      refine ⟨fun e he => ?_, fun g hg => ?_, fun g hg => ?_⟩
      · rw [hcands] at he
        cases he
      · rw [hserving] at hg
        cases hg
      · rw [handoverTarget_eq] at hg
        obtain ⟨l, hl, hg⟩ := Option.bind_eq_some_iff.mp hg
        have hfree := hlink l g hg
        rcases takeAttach_cases hext with ⟨hcls, hl', -, -⟩ | ⟨hcls, -, -, -⟩ | ⟨hcls, -, -, -⟩
        · rw [Context.link?, hcls] at hl
          cases hl'.symm.trans hl
          rw [State.phaseTarget, Table.get?_lowestFree hs.own.links_wf] at hfree
          cases hfree
        · rw [Context.link?, hcls] at hl
          cases hl
        · rw [link?_of_other hcls] at hl
          cases hl
    · refine (hs.served j d hd).of_seat rfl fun g hg => ?_
      rw [handoverTarget_eq] at hg ⊢
      obtain ⟨l, hl, hg'⟩ := Option.bind_eq_some_iff.mp hg
      exact Option.bind_eq_some_iff.mpr ⟨l, hl, hlink l g hg'⟩

theorem Seated.endReeferWork (i : Nat) : Seated x s (s.endReeferWork i) :=
  ((Seated.endPage i .retired).trans
    (Seated.of_records (t := (s.endPage i .retired).leaveWaitLists i) rfl rfl rfl rfl)).trans (.endPoll i)

theorem Seated.retiring (k : Nat) (c : Context) : Seated x s (s.retiring k c) := by
  have hwork : Seated x s (s.endExtensionWork k c) := by
    unfold State.endExtensionWork
    split
    · exact .of_records rfl rfl rfl rfl
    · exact .endReeferWork _
    · exact .refl s
  unfold State.retiring
  dsimp only
  split
  · exact hwork.trans (.of_records rfl rfl rfl rfl)
  · exact hwork.trans (.of_records rfl rfl rfl rfl)

theorem seats_of_erase (hd : (s.contexts.erase k).get? j = some d) : ∃ c, s.contexts.get? j = some c ∧ d.seat = c.seat := by
  rw [Table.get?_erase] at hd
  split at hd
  · cases hd
  · exact ⟨d, hd, rfl⟩

theorem Seated.freeContext (k : Nat) (c : Context) : Seated x s (s.freeContext k c) := by
  rcases freeContext_cases s k c with ⟨l, -, -, e⟩ | ⟨i, -, -, e⟩ | ⟨-, -, e⟩ <;> rw [e]
  · refine ⟨fun _ => id, fun _ _ => seats_of_erase, fun j g _ hg => ⟨?_, id⟩⟩
    have hg' : ((s.links.erase l).get? j).bind (·.phase.target?) = some g := hg
    rw [Table.get?_erase] at hg'
    split at hg'
    · cases hg'
    · exact hg'
  · exact ⟨fun _ => id, fun _ _ => seats_of_erase, fun _ _ _ hg => ⟨hg, id⟩⟩
  · exact ⟨fun _ => id, fun _ _ => seats_of_erase, fun _ _ _ hg => ⟨hg, id⟩⟩

theorem Seated.takeRetire (k : Nat) (c : Context) : Seated x s (takeRetire k c s) := (Seated.retiring k c).trans (.freeContext k c)

theorem seat_capCounts (c : Context) (limit : Nat) : (c.capCounts limit).seat = c.seat := by
  unfold Context.seat Context.capCounts
  simp only [List.map_map]
  rfl

theorem Seated.takeParams (p : ParamsPlan) : Seated x s (takeParams p s) := by
  unfold Machine.takeParams
  split
  · exact .of_records rfl rfl rfl rfl
  · next cls _ =>
    refine ⟨fun _ => id, fun k d hd => ?_, fun _ _ _ hg => ⟨hg, id⟩⟩
    have hd' : (s.contexts.get? k).map (fun c => if c.cls = cls then c.capCounts p.params.ttt else c) = some d :=
      (get?_map_keyed s.contexts (fun e => if e.2.cls = cls then e.2.capCounts p.params.ttt else e.2) k).symm.trans hd
    obtain ⟨c, hc, rfl⟩ := Option.map_eq_some_iff.mp hd'
    refine ⟨c, hc, ?_⟩
    split
    · exact seat_capCounts c _
    · rfl

theorem Seated.count : Seated x s s.count := by
  refine ⟨fun h hh => ?_, fun _ d hd => ⟨d, hd, rfl⟩, fun l g _ hg => ⟨?_, id⟩⟩
  · unfold State.live
    rw [head_count]
    exact hh
  · have hget : s.count.links.get? l = (s.links.get? l).map CraneLink.strobe :=
      get?_map_keyed s.links (fun e => e.2.strobe) l
    unfold State.phaseTarget at hg ⊢
    rw [hget, Option.bind_map] at hg
    exact hg

/-! ### The stages of a report (R69 to R75, R83 to R87) -/

theorem heads_stageScore (s : State) (c : Context) (list : List Candidate) :
    ((stageScore s c list).map (·.head)).Perm (list.map (·.head)) := by
  refine ((orderEntries_perm _).map _).trans ?_
  rw [List.map_map]
  exact List.Perm.refl _

/-- Every entry after stage 1 is one that was there or one accepted, and the serving head and the target keep theirs. -/
theorem heads_takeNewHeads (news : List Accepted) :
    (∀ h ∈ (news.foldl (takeNewHead s c kept) list).map (·.head), h ∈ list.map (·.head) ∨ ∃ a ∈ news, a.head = h) ∧
    ∀ h ∈ list.map (·.head), c.serving = some h ∨ kept = some h → h ∈ (news.foldl (takeNewHead s c kept) list).map (·.head) := by
  induction news generalizing list with
  | nil => exact ⟨fun h hh => .inl hh, fun h hh _ => hh⟩
  | cons a news ih =>
    obtain ⟨hfrom, hstay⟩ := ih (list := takeNewHead s c kept list a)
    have hone : (∀ h ∈ (takeNewHead s c kept list a).map (·.head), h ∈ list.map (·.head) ∨ a.head = h) ∧
        ∀ h ∈ list.map (·.head), c.serving = some h ∨ kept = some h → h ∈ (takeNewHead s c kept list a).map (·.head) := by
      rcases takeNewHead_cases s c kept list a with ⟨-, e⟩ | e | ⟨z, -, hserv, hkept, e⟩ <;> rw [e]
      · refine ⟨fun h hh => ?_, fun h hh _ => ?_⟩
        · rw [List.map_append, List.mem_append] at hh
          exact hh.imp_right fun hh => (List.mem_singleton.mp hh).symm
        · rw [List.map_append]
          exact List.mem_append_left _ hh
      · exact ⟨fun h hh => .inl hh, fun h hh _ => hh⟩
      · refine ⟨fun h hh => ?_, fun h hh hwho => ?_⟩
        · rw [List.map_append, List.mem_append] at hh
          exact hh.imp ((List.filter_sublist.map _).subset ·) fun hh => (List.mem_singleton.mp hh).symm
        · obtain ⟨e, he, rfl⟩ := List.mem_map.mp hh
          have hne : e.head ≠ z.head := fun hez => by
            rw [hez] at hwho
            exact hwho.elim hserv hkept
          rw [List.map_append]
          exact List.mem_append_left _ (List.mem_map_of_mem (List.mem_filter.mpr ⟨he, by simpa using hne⟩))
    refine ⟨fun h hh => ?_, fun h hh hwho => hstay h (hone.2 h hh hwho) hwho⟩
    rcases hfrom h hh with hh | ⟨b, hb, hbh⟩
    · exact (hone.1 h hh).imp_right fun ha => ⟨a, List.mem_cons_self, ha⟩
    · exact .inr ⟨b, List.mem_cons_of_mem _ hb, hbh⟩

theorem filterEntry_isSome {q : Nat} {acc : List Accepted} {serving : Option HeadIx} {e : Candidate}
    (hwho : serving = some e.head ∨ kept = some e.head) : (filterEntry q acc serving kept e).isSome := by
  unfold filterEntry
  split
  · rfl
  · split
    · rfl
    · next hs =>
      split
      · rfl
      · rw [if_pos (hwho.resolve_left hs)]
        rfl

theorem heads_stageFilter {acc : List Accepted} :
    (∀ h ∈ (stageFilter s c kept acc).map (·.head), h ∈ c.cands.map (·.head) ∨ ∃ a ∈ acc, a.head = h) ∧
    ∀ h ∈ c.cands.map (·.head), c.serving = some h ∨ kept = some h → h ∈ (stageFilter s c kept acc).map (·.head) := by
  let f := filterEntry (s.params.get c.cls).shift acc c.serving kept
  obtain ⟨hfrom, hstay⟩ := heads_takeNewHeads (s := s) (c := c) (kept := kept) (list := c.cands.filterMap f)
    (acc.filter fun a => !(c.cands.filterMap f).any fun e => e.head == a.head)
  refine ⟨fun h hh => ?_, fun h hh hwho => hstay h ?_ hwho⟩
  · rcases hfrom h hh with hh | ⟨a, ha, hah⟩
    · exact .inl ((heads_filterMap_sublist (fun e d => head_filterEntry) c.cands).subset hh)
    · exact .inr ⟨a, (List.mem_filter.mp ha).1, hah⟩
  · obtain ⟨e, he, rfl⟩ := List.mem_map.mp hh
    obtain ⟨d, hd⟩ := Option.isSome_iff_exists.mp (filterEntry_isSome (q := (s.params.get c.cls).shift) (acc := acc) hwho)
    refine List.mem_map.mpr ⟨d, List.mem_filterMap.mpr ⟨e, he, hd⟩, head_filterEntry hd⟩

theorem entry_isSome_iff (c : Context) (h : HeadIx) : (c.entry? h).isSome ↔ h ∈ c.cands.map (·.head) := by
  unfold Context.entry?
  rw [List.find?_isSome, List.mem_map]
  simp only [beq_iff_eq]

/-- A list whose heads are those of the list after stage 2 serves the context (R72 to R75, R117). -/
theorem served_reported (es : List MeasEntry) (hc : c.served s.live (s.handoverTarget c))
    (hd : ∀ h, h ∈ d.cands.map (·.head) ↔
      h ∈ (stageScore s c (stageFilter s c (s.handoverTarget c) (acceptedEntries s es))).map (·.head))
    (hserving : d.serving = c.serving) (hsector : ∀ h, d.serving = some h → (d.entry? h).isSome →
      (d.entry? h).map (·.sector) = some d.sector) : d.served s.live (s.handoverTarget c) := by
  have hperm := heads_stageScore s c (stageFilter s c (s.handoverTarget c) (acceptedEntries s es))
  obtain ⟨hfrom, hstay⟩ := heads_stageFilter (s := s) (c := c) (kept := s.handoverTarget c) (acc := acceptedEntries s es)
  have hkeeps (h : HeadIx) (hentry : (c.entry? h).isSome) (hwho : c.serving = some h ∨ s.handoverTarget c = some h) :
      (d.entry? h).isSome :=
    (entry_isSome_iff d h).mpr ((hd h).mpr (hperm.mem_iff.mpr (hstay h ((entry_isSome_iff c h).mp hentry) hwho)))
  refine ⟨fun e he => ?_, fun h hh => hsector h hh (hkeeps h ?_ (.inl (hserving ▸ hh))), fun h hh => hkeeps h (hc.target h hh) (.inr hh)⟩
  · have hmem := hfrom e.head (hperm.mem_iff.mp ((hd e.head).mp (List.mem_map_of_mem he)))
    rcases hmem with hmem | ⟨a, ha, hah⟩
    · obtain ⟨e', he', heq⟩ := List.mem_map.mp hmem
      exact heq ▸ hc.live e' he'
    · exact hah ▸ (acceptedOk_acceptedEntries s es).2 a ha |>.2
  · have hsome := congrArg Option.isSome (hc.sector h (hserving ▸ hh))
    rwa [Option.isSome_map] at hsome

/-- A context rewritten to one that its heads serve. -/
theorem placed_write (hs : s.placed w) (hc : s.contexts.get? k = some c) (f : Context → Context) (hids : ∀ c, (f c).ids = c.ids)
    (hf : (f c).served (w k) (s.handoverTarget c)) : (s.modContext k f).placed w := by
  refine ⟨own_of_owners (owners_modContext s k f hids) hs.own, hs.backed, fun j d hd => ?_⟩
  have hd' : (s.contexts.modify k f).get? j = some d := hd
  by_cases hj : j = k
  · subst hj
    rw [Table.get?_modify_self, hc] at hd'
    cases hd'
    have hlink : (f c).link? = c.link? := by
      have hcls : (f c).cls = c.cls := congrArg (fun p => p.2.1) (hids c)
      have hext : (f c).ext = c.ext := congrArg (fun p => p.2.2) (hids c)
      unfold Context.link?
      rw [hcls, hext]
    refine hf.of_seat rfl fun g hg => ?_
    rw [handoverTarget_eq] at hg ⊢
    rwa [hlink] at hg
  · rw [Table.get?_modify_of_ne _ _ hj] at hd'
    exact hs.served j d hd'

theorem heads_stageTrigger (p : ClassParams) (h : HeadIx) (list : List Candidate) :
    (stageTrigger p h list).map (fun e => (e.head, e.sector)) = list.map fun e => (e.head, e.sector) := by
  unfold stageTrigger
  split
  · rfl
  · rw [List.map_map]
    refine List.map_congr_left fun e _ => ?_
    simp only [Function.comp_apply]
    split
    · rfl
    · split <;> rfl

/-! ### Stage 5 -/

/-- Owners in step, handovers backed, and every context served by heads in service. -/
def State.well (s : State) : Prop := s.placed fun _ => s.live

theorem Seated.well (a : Seated (fun _ => False) s t) (hown : Own s → Own t) (hs : s.well) : t.well :=
  placed_mono (a.placed hown hs) fun _ => a.live

/-- The head of an entry begins to serve, and what follows leaves every seat. -/
theorem well_serveOn (hs : s.well) (hd : s.contexts.get? k = some d) (hentry : (d.entry? g).isSome)
    (hrest : Seated (fun _ => False) (s.modContext k fun c => c.serveOn g) t) (hown : Own t) : t.well := by
  have hserved := servedBy_serveOn (k := k) hs.served fun d' hd' => by
    cases hd.symm.trans hd'
    exact hentry
  exact placed_mono ⟨hown, hrest.backed hs.backed, hrest.servedBy hserved⟩ fun _ => hrest.live

/-- The immediate handover to the head of an entry (R87). -/
theorem well_immediateHandover (old : HeadIx) (hs : s.well) (hd : s.contexts.get? k = some d) (hids : c.ids = d.ids)
    (hentry : (d.entry? g).isSome) : (s.immediateHandover k c old g).well :=
  well_serveOn hs hd hentry (((Seated.order _).trans (.moveReeferWork c g)).trans (.post _ _))
    ((LawsKept.immediateHandover old hd hids).own hs.own)

/-- Re-entry through the head of an entry (R83). -/
theorem well_reEnter (tag : Tag) (hs : s.well) (hd : s.contexts.get? k = some d) (hentry : (d.entry? g).isSome) :
    (s.reEnter k tag g).well := by
  refine well_serveOn hs hd hentry ((Seated.order _).trans (.post _ _)) ((ReefersKept.post _ _).own ?_)
  exact own_of_owners (owners_modContext s k (fun c => c.serveOn g) fun _ => rfl) hs.own

/-- A link is owned by the context that names it (R3). -/
theorem Own.owner_of_context (hs : Own s) (hd : s.contexts.get? j = some d) (hlink : d.link? = some l)
    (hy : s.links.get? l = some y) : y.owner = j := by
  obtain ⟨-, hcranes, -⟩ := hs
  have hcls : d.cls = .crane := by
    by_contra hne
    rw [link?_of_other hne] at hlink
    cases hlink
  have hext : d.ext = some l := by
    rw [Context.link?, hcls] at hlink
    exact hlink
  have hany := hcranes _ (Table.mem_of_get? hd) hcls
  rw [show (j, d).2.ext = some l from hext, Option.bind_some, hy] at hany
  exact beq_iff_eq.mp hany

theorem holds_join (s : State) (h : HeadIx) (q : ResKind) (l n : Nat) : (s.join h q l n).holds q l h = true := by
  unfold State.join
  rw [holds_of_air (air_fit _ h)]
  unfold State.holds
  rw [State.account_setAccount_self, State.modAccount, State.account_setAccount_self]
  simp

/-- The start of a crane handover to the head of an entry (R86). -/
theorem well_cranePath (units : Nat) (hs : s.well) (hd : s.contexts.get? k = some d)
    (hlink : d.link? = some l) (hentry : (d.entry? g).isSome) :
    (s.cranePath k l units g).well := by
  have hown := (ReefersKept.cranePath (s := s) (k := k) (l := l) (h := g) units).own hs.own
  have hblocked : (s.post (.context k) (.handoverBlocked g)).well := (Seated.post _ _).well (ReefersKept.post _ _).own hs
  unfold State.cranePath at hown ⊢
  split at hown
  · have hjoined : (s.join g .prepared l units).well :=
      (Seated.join g .prepared l units).well (ReefersKept.join g .prepared l units).own hs
    have hcontexts : (s.join g .prepared l units).contexts = s.contexts := by rw [State.join_frame]
    refine ⟨hown, fun j m hm => ?_, fun j d' hd' => ?_⟩
    · by_cases hj : j = l
      · subst hj
        rw [phaseTarget_modLink_self] at hm
        obtain ⟨y, -, hg⟩ := Option.bind_eq_some_iff.mp hm
        cases hg
        exact holds_join s g .prepared j units
      · rw [phaseTarget_modLink_of_ne _ _ hj] at hm
        exact hjoined.backed j m hm
    · have hserved := hjoined.served j d' hd'
      refine ⟨hserved.live, hserved.sector, fun m hm => ?_⟩
      rw [handoverTarget_eq] at hm
      obtain ⟨l', hl', hm⟩ := Option.bind_eq_some_iff.mp hm
      by_cases hll : l' = l
      · subst hll
        rw [phaseTarget_modLink_self] at hm
        obtain ⟨y, hy, hg⟩ := Option.bind_eq_some_iff.mp hm
        cases hg
        have hj := hjoined.own.owner_of_context hd' hl' hy
        have hk := hjoined.own.owner_of_context (hcontexts ▸ hd) hlink hy
        have hd'' : s.contexts.get? j = some d' := hcontexts ▸ hd'
        rw [← hj, hk, hd] at hd''
        cases hd''
        exact hentry
      · rw [phaseTarget_modLink_of_ne _ _ hll] at hm
        refine hserved.target m ?_
        rw [handoverTarget_eq]
        exact Option.bind_eq_some_iff.mpr ⟨l', hl', hm⟩
  · exact hblocked
  · exact hblocked

theorem well_stageFive (hs : s.well) (hd : s.contexts.get? k = some d) (hids : c.ids = d.ids)
    (hlist : ∀ e ∈ list, (d.entry? e.head).isSome) : (stageFive s k c h list).well := by
  have hlink : c.link? = d.link? := by
    have hcls : c.cls = d.cls := congrArg (fun p => p.2.1) hids
    have hext : c.ext = d.ext := congrArg (fun p => p.2.2) hids
    unfold Context.link?
    rw [hcls, hext]
  unfold Machine.stageFive
  split
  · exact hs
  · dsimp only
    split
    · next l units hstanding =>
      split
      · next e he =>
        obtain ⟨l', hl', hres⟩ := Option.bind_eq_some_iff.mp hstanding
        obtain ⟨p, -, hp⟩ := Option.map_eq_some_iff.mp hres
        cases hp
        exact well_cranePath _ hs hd (hlink ▸ hl') (hlist e (List.mem_of_find?_eq_some he))
      · exact hs
    · split
      · next e he => exact well_immediateHandover h hs hd hids (hlist e (List.mem_of_find?_eq_some he))
      · exact hs

theorem heads_of_sectors {l m : List Candidate}
    (h : l.map (fun e => (e.head, e.sector)) = m.map fun e => (e.head, e.sector)) : l.map (·.head) = m.map (·.head) := by
  have hfst := congrArg (List.map Prod.fst) h
  rwa [List.map_map, List.map_map] at hfst

/-- The serving sector follows the entry of the serving head (R5). -/
theorem sector_followed (hserving : c.serving = some h) (hd : d.cands.map (fun e => (e.head, e.sector)) = list.map fun e => (e.head, e.sector))
    (hsome : (d.entry? h).isSome) : (d.entry? h).map (·.sector) = some (followSector c list) := by
  have hfind : (d.entry? h).map (·.sector) = (list.find? fun e => e.head == h).map (·.sector) := by
    have hlist := entry_sector { d with cands := list } h
    rw [entry_sector]
    show ((d.cands.map fun e => (e.head, e.sector)).find? _).map _ = _
    rw [hd]
    exact hlist.symm
  unfold followSector
  rw [hserving]
  rw [← Option.isSome_map (f := fun e : Candidate => e.sector), hfind] at hsome
  rw [hfind]
  cases he : list.find? fun e => e.head == h with
  | none =>
    rw [he] at hsome
    cases hsome
  | some e => simp only [he]; rfl

/-- A report, whole (R70). -/
theorem well_takeReport (es : List MeasEntry) (hs : s.well) (hc : s.contexts.get? k = some c) : (takeReport k c es s).well := by
  have hreported {d : Context} := served_reported (d := d) es (hs.served k c hc)
  unfold Machine.takeReport
  dsimp only
  generalize stageScore s c (stageFilter s c (s.handoverTarget c) (acceptedEntries s es)) = scored at *
  cases hserving : c.serving with
  | none =>
    dsimp only
    have hget : (s.modContext k fun c => { c with cands := scored, lastReport := some s.frame }).contexts.get? k =
        some { c with cands := scored, lastReport := some s.frame } := by
      rw [contexts_modContext_self, hc]
      rfl
    have hwrite : (s.modContext k fun c => { c with cands := scored, lastReport := some s.frame }).well := by
      refine placed_write hs hc _ (fun _ => rfl) (hreported (fun _ => Iff.rfl) rfl fun h hh => ?_)
      cases hserving.symm.trans hh
    split
    · exact hwrite
    · exact well_reEnter _ hwrite hget ((entry_isSome_iff _ _).mpr (List.mem_map_of_mem List.mem_cons_self))
  | some h =>
    dsimp only
    have hsectors := heads_stageTrigger (s.params.get c.cls) h scored
    generalize stageTrigger (s.params.get c.cls) h scored = counted at *
    have hget : (s.modContext k fun d => { d with cands := counted, sector := followSector c scored, lastReport := some s.frame }).contexts.get? k =
        some { c with cands := counted, sector := followSector c scored, lastReport := some s.frame } := by
      rw [contexts_modContext_self, hc]
      rfl
    refine well_stageFive ?_ hget rfl fun e he => (entry_isSome_iff _ _).mpr (List.mem_map_of_mem he)
    refine placed_write hs hc _ (fun _ => rfl) (hreported (fun g => ?_) rfl fun g hg hsome => ?_)
    · rw [heads_of_sectors hsectors]
    · cases hserving.symm.trans hg
      exact sector_followed hserving hsectors hsome

end Sys2Proof.Machine
end

section
/-! The law of serving heads (R4, R5, R9) through all commands. -/

namespace Sys2Proof.Machine

variable {s t u : State}

/-- Serving heads, handovers and airtime are in step. -/
def State.sound (s : State) : Prop := s.well ∧ s.airtimeLaw

/-- What keeps the airtime law, and the served law of a state in which both hold. -/
theorem sound_of_well (ha : Air s t) (hw : s.well → s.airtimeLaw → t.well) (hs : s.sound) : t.sound := ⟨hw hs.1 hs.2, ha hs.2⟩

theorem sound_of_seated (hl : LawsKept s t) (ha : Air s t) (h : Seated (fun _ => False) s t) : s.sound → t.sound :=
  sound_of_well ha fun hs _ => h.well hl.own hs

theorem well_onUplink (k : Nat) (c : Context) (f : UplinkFields) (hs : s.well) : (onUplink k c f s).well := by
  obtain ⟨hplaced, hlive⟩ := placed_onUplink k c f hs
  exact placed_mono hplaced fun _ => hlive

theorem well_takeAttach {os : Options} {p : AttachPlan} (hp : attachChecks os s = .ok p) (hs : s.well) : (takeAttach p s).well := by
  obtain ⟨-, -, -, hext, -, -⟩ := attachChecks_ok hp
  have hheads : (takeAttach p s).heads = s.heads := by
    rcases takeAttach_cases hext with ⟨-, -, -, e⟩ | ⟨-, -, -, e⟩ | ⟨-, -, -, e⟩ <;> rw [e]
  refine placed_mono (placed_takeAttach hp hs) fun _ h hh => ?_
  unfold State.live
  rwa [head_of_heads hheads]

theorem well_lineFault (h : HeadIx) (short : Bool) (hs : s.well) (hair : s.airtimeLaw) : (lineFault short h s).well := by
  unfold Machine.lineFault
  split
  · exact placed_enterFault _ hs hair
  · exact hs

theorem well_lockWaitExpiry (h : HeadIx) (hs : s.well) (hair : s.airtimeLaw) : (s.lockWaitExpiry h).well := by
  unfold State.lockWaitExpiry
  split
  · exact placed_enterFault _ hs hair
  · exact hs

theorem well_holdoverExpiry (h : HeadIx) (hs : s.well) (hair : s.airtimeLaw) : (s.holdoverExpiry h).well := by
  unfold State.holdoverExpiry
  split
  · exact placed_enterFault _ hs hair
  · exact hs

theorem well_of_laws (htables : s.tablesLaw) (howners : s.ownershipLaw) (hhandover : s.handoverLaw) (hserved : s.servedLaw) : s.well :=
  have hs : Own s := ⟨htables, howners⟩
  ⟨hs, (handoverLaw_iff hs.links_wf).mp hhandover, (servedLaw_iff htables.1).mp hserved⟩

theorem sound_reset (s : State) : ({ State.reset with pending := s.pending } : State).sound := by
  obtain ⟨htables, howners, -, hserved, -, hair, hhandover, -⟩ := resetMeetsEveryLaw
  exact ⟨well_of_laws htables howners hhandover hserved, hair⟩

theorem steps_sound : Steps fun s t => s.sound → t.sound where
  trans a b := b ∘ a
  same h := sound_of_seated (steps_laws.same h) (steps_air.same h) (.same h)
  amend s k g p := sound_of_seated (steps_laws.amend s k g p) (steps_air.amend s k g p) (.modContext k _ fun _ _ => rfl)
  modLink s l f hf := sound_of_seated (steps_laws.modLink s l f hf) (steps_air.modLink s l f hf) <|
    .modLink l f fun k _ g hg => by
      obtain ⟨-, -, hphase⟩ := hf k
      rwa [hphase] at hg
  modReefer s i f hf := sound_of_seated (steps_laws.modReefer s i f hf) (steps_air.modReefer s i f hf) (.modReefer i f)
  attach s os p hp := sound_of_well (steps_air.attach s os p hp) fun hs _ => well_takeAttach hp hs
  retire s r a ha hb := sound_of_seated (steps_laws.retire s r a ha hb) (steps_air.retire s r a ha hb) (.takeRetire a.handle a.ctx)
  craneStart s r a h p ha hc :=
    sound_of_seated (steps_laws.craneStart s r a h p ha hc) (steps_air.craneStart s r a h p ha hc) (.takeCraneStart h _ p)
  craneStop s r a ha hi := sound_of_seated (steps_laws.craneStop s r a ha hi) (steps_air.craneStop s r a ha hi) (.takeCraneStop a.record)
  craneResume s r a o p ha hc :=
    sound_of_seated (steps_laws.craneResume s r a o p ha hc) (steps_air.craneResume s r a o p ha hc) (.takeCraneResume o a.record p)
  cancelHandover s l cause :=
    sound_of_seated (steps_laws.cancelHandover s l cause) (steps_air.cancelHandover s l cause) (.cancelHandover l cause)
  takeOver s i q := sound_of_seated (steps_laws.takeOver s i q) (steps_air.takeOver s i q) (.modPage i _)
  queuePage s r a h q ha hd :=
    sound_of_seated (steps_laws.queuePage s r a h q ha hd) (steps_air.queuePage s r a h q ha hd) (s.queuePage_frame h a.index q).seated
  headConfig s os h p hp :=
    sound_of_seated (steps_laws.headConfig s os h p hp) (steps_air.headConfig s os h p hp) (.takeHeadConfig h _ p)
  headClear s h hf := sound_of_seated (steps_laws.headClear s h hf) (steps_air.headClear s h hf) <|
    .changeHead h _ fun hlive => by
      rw [State.live, hf] at hlive
      cases hlive
  schedule s h a b := sound_of_seated (steps_laws.schedule s h a b) (steps_air.schedule s h a b) (.writeHead h _)
  setWindow s h w := sound_of_seated (steps_laws.setWindow s h w) (steps_air.setWindow s h w) (.setWindow h w)
  params s p := sound_of_seated (steps_laws.params s p) (steps_air.params s p) (.takeParams p)
  restart s := sound_of_seated (steps_laws.restart s) (steps_air.restart s) .takeRestart
  report s tag k c es htag := sound_of_well (steps_air.report s tag k c es htag) fun hs _ =>
    well_takeReport es hs (State.get?_of_findTag hs.own.1.1 htag)
  uplink s tag k c f htag hc := sound_of_well (steps_air.uplink s tag k c f htag hc) fun hs _ => well_onUplink k c f hs
  reeferReport s i r f hr :=
    sound_of_seated (steps_laws.reeferReport s i r f hr) (steps_air.reeferReport s i r f hr) (.takeReeferReport i r f)
  dozeAck s code i r hr := sound_of_seated (steps_laws.dozeAck s code i r hr) (steps_air.dozeAck s code i r hr) (.takeDozeAck code i r)
  pageAnswer s i r hr := sound_of_seated (steps_laws.pageAnswer s i r hr) (steps_air.pageAnswer s i r hr) (.takePageAnswer i r)
  headUp s h := sound_of_seated (steps_laws.headUp s h) (steps_air.headUp s h) (.headUp h)
  syncLock s h := sound_of_seated (steps_laws.syncLock s h) (steps_air.syncLock s h) (.syncLock h)
  syncLost s h := sound_of_seated (steps_laws.syncLost s h) (steps_air.syncLost s h) (.syncLost h)
  lineFault s h short := sound_of_well (steps_air.lineFault s h short) (well_lineFault h short)
  startTimer s h := sound_of_seated (steps_laws.startTimer s h) (steps_air.startTimer s h) (.startTimerExpiry h)
  lockWait s h := sound_of_well (steps_air.lockWait s h) (well_lockWaitExpiry h)
  holdover s h := sound_of_well (steps_air.holdover s h) (well_holdoverExpiry h)
  dwell s h := sound_of_seated (steps_laws.dwell s h) (steps_air.dwell s h) (.dwellExpiry h)
  cycle s l := sound_of_seated (steps_laws.cycle s l) (steps_air.cycle s l) (.cycleExpiry l)
  ack s i := sound_of_seated (steps_laws.ack s i) (steps_air.ack s i) (.ackExpiry i)
  page s i := sound_of_seated (steps_laws.page s i) (steps_air.page s i) (.pageExpiry i)
  poll s i := sound_of_seated (steps_laws.poll s i) (steps_air.poll s i) (.pollExpiry i)
  overdue s i := sound_of_seated (steps_laws.overdue s i) (steps_air.overdue s i) (.overdueExpiry i)
  second s := sound_of_seated (steps_laws.second s) (steps_air.second s) .secondPass
  count s := sound_of_seated (steps_laws.count s) (steps_air.count s) .count
  reset s _ := sound_reset s

/-- Settles O9. -/
theorem everyStepKeepsServingHeadsInService : Obligations.EveryStepKeepsServingHeadsInService := by
  intro s t htables howners hair hhandover _ hserved hstep
  obtain ⟨hwell, -⟩ := steps_sound.step hstep ⟨well_of_laws htables howners hhandover hserved, hair⟩
  exact (servedLaw_iff hwell.own.1.1).mpr hwell.served

end Sys2Proof.Machine
end

section
/-! The fault of a head taken to the contexts (R4, R36, R112, R124): what it does to each context, its link and its airtime. -/

namespace Sys2Proof.Machine

variable {s t u v : State} {i j k l n : Nat} {c d : Context} {g h : HeadIx} {y : CraneLink} {held ks : List Nat} {f : State → State}

/-! ### What becomes of a context and its link -/

/-- The crane link of a context, with its record. -/
def State.craneOf (s : State) (c : Context) : Option (Nat × CraneLink) :=
  (if c.cls = .crane then c.ext else none).bind fun l => (s.links.get? l).map fun y => (l, y)

/-- The head that rescues a context which head `h` serves (R124). -/
def State.rescueBy (s : State) (h : HeadIx) (c : Context) : Option HeadIx :=
  if c.serving = some h then (s.craneOf c).bind fun y => y.2.phase.target? else none

/-- A link left behind is stopped (R112); `held` says that it held a standing reservation on the head. -/
def CraneLink.stopsIf (held : Bool) (y : CraneLink) : Bool :=
  y.phase == .none && (y.state == .running || y.state == .holding || (y.state == .safeStop && held))

/-- The record of a link whose serving head has faulted. -/
def CraneLink.lostPath (held : Bool) (y : CraneLink) : CraneLink :=
  if y.stopsIf held then { y with state := .safeStop, cause := some .pathLost, next := none } else { y with phase := .none }

/-- The context after the fault of head `h`, rescued by the head given, if any. -/
def Context.faulted (h : HeadIx) (rescue : Option HeadIx) (c : Context) : Context :=
  match rescue with
  | some g => (c.lostHead h).serveOn g
  | none => c.lostHead h

/-- The notices of the fault for one context (R38). -/
def State.tellLost (s : State) (h : HeadIx) (held : List Nat) (v : State) (k : Nat) : State :=
  match s.contexts.get? k with
  | none => v
  | some c =>
    if c.serving = some h then
      match s.rescueBy h c with
      | some g => (v.post (.context k) .serveLost).post (.context k) (.handoverDone (some h) g .rescue)
      | none =>
        if (s.craneOf c).any fun y => y.2.stopsIf (held.contains y.1) then
          (v.post (.context k) .serveLost).post (.context k) (.craneState .safeStop (some .pathLost))
        else v.post (.context k) .serveLost
    else v

/-- The link belongs to one of the contexts given, and the head served that context. -/
def State.lostBy (s : State) (h : HeadIx) (ks : List Nat) (l : Nat) : Bool :=
  (s.links.get? l).any (fun y => ks.contains y.owner) && s.linkServing l == some h

/-- The account of a head once the links in `p` are rescued by it. -/
def Account.rescued (p : Nat → Bool) (a : Account) : Account :=
  { a with list := a.list.map fun q => if q.kind == .prepared && p q.owner then { q with kind := .standing } else q }

/-- The fault of head `h` has been taken to the contexts of the slots `ks`. -/
structure FaultedBy (h : HeadIx) (held ks : List Nat) (s t : State) : Prop where
  contexts : t.contexts = s.contexts.map fun e => (e.1, if ks.contains e.1 then e.2.faulted h (s.rescueBy h e.2) else e.2)
  links : t.links = s.links.map fun e => (e.1, if s.lostBy h ks e.1 then e.2.lostPath (held.contains e.1) else e.2)
  account : ∀ g, t.account g = (s.account g).rescued (s.lostBy h ks)
  orders : t.orders = s.orders ++ ks.filterMap fun k => (s.contexts.get? k).bind fun c =>
    (s.rescueBy h c).map (Order.serveOrder c.tag (some h))
  notices : t.notices = (ks.foldl (s.tellLost h held) s).notices ∧ t.overflow = (ks.foldl (s.tellLost h held) s).overflow
  frame : t = { s with
    contexts := t.contexts, links := t.links, airtime := t.airtime, orders := t.orders, notices := t.notices, overflow := t.overflow }

/-! ### One context -/

theorem craneOf_eq_some (hy : s.craneOf c = some (l, y)) : c.cls = .crane ∧ c.ext = some l ∧ s.links.get? l = some y := by
  unfold State.craneOf at hy
  obtain ⟨l', hl, hy⟩ := Option.bind_eq_some_iff.mp hy
  obtain ⟨y', hy', heq⟩ := Option.map_eq_some_iff.mp hy
  cases heq
  split at hl
  · next hcls => exact ⟨hcls, hl, hy'⟩
  · cases hl

theorem craneOf_congr (hsame : ∀ l, c.link? = some l → v.links.get? l = s.links.get? l) : v.craneOf c = s.craneOf c := by
  unfold State.craneOf
  split
  · next hcls =>
    cases hext : c.ext with
    | none => rfl
    | some l => rw [Option.bind_some, Option.bind_some, hsame l (by rw [Context.link?, hcls]; exact hext)]
  · rfl

theorem link?_of_craneOf (hy : s.craneOf c = some (l, y)) : c.link? = some l := by
  obtain ⟨hcls, hext, -⟩ := craneOf_eq_some hy
  rw [Context.link?, hcls]
  exact hext

theorem posts_tellLost (s : State) (h : HeadIx) (held : List Nat) (k : Nat) : Posts fun v => s.tellLost h held v k := by
  unfold State.tellLost
  cases s.contexts.get? k with
  | none => exact .id
  | some c =>
    dsimp only
    split
    · cases s.rescueBy h c with
      | some g => exact (Posts.post _ _).comp (.post _ _)
      | none =>
        dsimp only
        split
        · exact (Posts.post _ _).comp (.post _ _)
        · exact .post _ _
    · exact .id

/-- No reservation of the links in `p` is prepared. -/
theorem rescued_of_none {p : Nat → Bool} {a : Account} (ha : ∀ q ∈ a.list, q.kind = .prepared → p q.owner = false) : a.rescued p = a := by
  have hlist : (a.list.map fun q => if q.kind == .prepared && p q.owner then { q with kind := .standing } else q) = a.list := by
    conv_rhs => rw [← List.map_id a.list]
    refine List.map_congr_left fun q hq => ?_
    cases hkind : q.kind with
    | standing => simp
    | prepared => simp [ha q hq hkind]
  rw [Account.rescued, hlist]

/-- Every prepared reservation is aimed at by its link's handover (R116). -/
def State.aimed (s : State) : Prop := ∀ g, ∀ q ∈ (s.account g).list, q.kind = .prepared → s.phaseTarget q.owner = some g

theorem linkServing_of_owner (hy : s.links.get? l = some y) : s.linkServing l = s.serves y.owner := by
  rw [State.linkServing, State.linkContext, hy]
  rfl

theorem lostBy_single (hs : Own s) (hc : s.contexts.get? k = some c) (hl : s.lostBy h [k] l = true) :
    c.serving = some h ∧ ∃ y, s.craneOf c = some (l, y) := by
  obtain ⟨howner, hserving⟩ := Bool.and_eq_true_iff.mp hl
  cases hy : s.links.get? l with
  | none => rw [hy] at howner; cases howner
  | some y =>
    rw [hy] at howner
    have hk : y.owner = k := by simpa using howner
    obtain ⟨d, hd, hlink⟩ := hs.context_of_link hy
    rw [hk, hc] at hd
    cases hd
    rw [linkServing_of_owner hy, State.serves, hk, hc] at hserving
    refine ⟨by simpa using hserving, y, ?_⟩
    have hcls : c.cls = .crane := by
      by_contra hne
      rw [link?_of_other hne] at hlink
      cases hlink
    rw [Context.link?, hcls] at hlink
    rw [State.craneOf, if_pos hcls, show c.ext = some l from hlink, Option.bind_some, hy]
    rfl

theorem lostBy_of_craneOf (hs : Own s) (hc : s.contexts.get? k = some c) (hserving : c.serving = some h)
    (hy : s.craneOf c = some (l, y)) : s.lostBy h [k] j = (j == l) := by
  have howner := hs.owner_of_context hc (link?_of_craneOf hy) (craneOf_eq_some hy).2.2
  by_cases hj : j = l
  · subst hj
    obtain ⟨-, -, hget⟩ := craneOf_eq_some hy
    rw [State.lostBy, hget, linkServing_of_owner hget, State.serves, howner, hc]
    simp [howner, hserving]
  · rw [beq_false_of_ne hj]
    refine Bool.eq_false_iff.mpr fun hlost => hj ?_
    obtain ⟨-, y', hy'⟩ := lostBy_single hs hc hlost
    exact (Prod.mk.inj (Option.some.inj (hy'.symm.trans hy))).1

theorem lostBy_of_not (hs : Own s) (hc : s.contexts.get? k = some c) (hnot : c.serving ≠ some h ∨ s.craneOf c = none) :
    s.lostBy h [k] j = false := by
  refine Bool.eq_false_iff.mpr fun hlost => ?_
  obtain ⟨hserving, y, hy⟩ := lostBy_single hs hc hlost
  exact hnot.elim (· hserving) fun hnone => by rw [hnone] at hy; cases hy

theorem contexts_faulted (hwf : s.contexts.wf n) (hc : s.contexts.get? k = some c) :
    s.contexts.modify k (Context.faulted h (s.rescueBy h c)) =
      s.contexts.map fun e => (e.1, if [k].contains e.1 then e.2.faulted h (s.rescueBy h e.2) else e.2) := by
  refine List.map_congr_left fun e he => ?_
  by_cases hk : e.1 = k
  · have hget : s.contexts.get? k = some e.2 := hk ▸ Table.get?_of_mem hwf he
    rw [if_pos hk, Option.some.inj (hc.symm.trans hget)]
    simp [hk]
  · rw [if_neg hk]
    simp [hk]

theorem links_lost {p : Nat → Bool} (hp : ∀ j, p j = (j == l)) (b : Nat → Bool) :
    s.links.modify l (CraneLink.lostPath (b l)) = s.links.map fun e => (e.1, if p e.1 then e.2.lostPath (b e.1) else e.2) := by
  refine List.map_congr_left fun e _ => ?_
  by_cases hl : e.1 = l
  · simp [hp, hl]
  · simp [hp, hl]

theorem links_kept {p : Nat → Bool} {b : Nat → Bool} (hp : ∀ e ∈ s.links, p e.1 = true → e.2.lostPath (b e.1) = e.2) :
    (s.links.map fun e => (e.1, if p e.1 then e.2.lostPath (b e.1) else e.2)) = s.links := by
  conv_rhs => rw [← List.map_id s.links]
  refine List.map_congr_left fun e he => ?_
  cases hpe : p e.1 with
  | true => simp [hp e he hpe]
  | false => simp

theorem lostPath_of_kept {b : Bool} (hphase : y.phase = .none) (hb : y.stopsIf b = false) : y.lostPath b = y := by
  rw [CraneLink.lostPath, hb]
  simp only [Bool.false_eq_true, if_false]
  rw [← hphase]

theorem phase_of_no_target (h : y.phase.target? = none) : y.phase = .none := by
  cases hp : y.phase with
  | none => rfl
  | prepared g => rw [hp] at h; cases h
  | switching g m => rw [hp] at h; cases h

/-- A step that leaves airtime and orders: the context loses the head, and notices are posted. -/
theorem faultedBy_quiet {m : Table CraneLink} (hs : Own s) (hc : s.contexts.get? k = some c) (hrescue : s.rescueBy h c = none)
    (hm : m = s.links.map fun e => (e.1, if s.lostBy h [k] e.1 then e.2.lostPath (held.contains e.1) else e.2))
    (haccounts : ∀ g, ∀ q ∈ (s.account g).list, q.kind = .prepared → s.lostBy h [k] q.owner = false)
    (ht : t = { s.modContext k (Context.lostHead h) with
      links := m, notices := (s.tellLost h held s k).notices, overflow := (s.tellLost h held s k).overflow }) :
    FaultedBy h held [k] s t where
  contexts := by
    rw [← contexts_faulted hs.1.1 hc, hrescue, ht]
    rfl
  links := by
    rw [← hm, ht]
  account g := by
    rw [rescued_of_none (haccounts g), ht]
    rfl
  orders := by
    rw [ht]
    simp [hc, hrescue]
  notices := by
    rw [ht]
    exact ⟨rfl, rfl⟩
  frame := by
    rw [ht]
    rfl

theorem faultContext_eq (hc : s.contexts.get? k = some c) : faultContext h held k s =
    if c.serving = some h then
      match c.cls, c.ext with
      | .crane, some l => ((s.modContext k (Context.lostHead h)).post (.context k) .serveLost).loseHead l h (held.contains l)
      | _, _ => (s.modContext k (Context.lostHead h)).post (.context k) .serveLost
    else s.modContext k (Context.lostHead h) := by
  unfold Machine.faultContext
  rw [hc]
  rfl

theorem lostHead_posted (hp : Posts f) : f (s.modContext k (Context.lostHead h)) =
    { s.modContext k (Context.lostHead h) with notices := (f s).notices, overflow := (f s).overflow } := hp.at rfl rfl

theorem get?_links_lostHead (l : Nat) :
    ((s.modContext k (Context.lostHead h)).post (.context k) .serveLost).links.get? l = s.links.get? l :=
  congrArg (fun m => Table.get? m l) (State.post_links (s.modContext k (Context.lostHead h)) (.context k) .serveLost)

theorem craneOf_of (hcls : c.cls = .crane) (hext : c.ext = some l) (hy : s.links.get? l = some y) : s.craneOf c = some (l, y) := by
  rw [State.craneOf, if_pos hcls, hext, Option.bind_some, hy]
  rfl

theorem loseHead_of_none {b : Bool} (hy : s.links.get? l = none) : s.loseHead l h b = s := by
  unfold State.loseHead State.losePath
  rw [hy]
  rfl

/-- A link in no handover loses its path: it is stopped, or stays as it is (R112). -/
theorem loseHead_of_stay {b : Bool} (hy : s.links.get? l = some y) (hphase : y.phase.target? = none) :
    s.loseHead l h b =
      if y.stopsIf b = true then
        (s.modLink l fun k => { k with state := .safeStop, cause := some .pathLost, next := none }).post (.context y.owner)
          (.craneState .safeStop (some .pathLost))
      else s := by
  have hstop : s.enterSafeStop l .pathLost =
      (s.modLink l fun k => { k with state := .safeStop, cause := some .pathLost, next := none }).post (.context y.owner)
          (.craneState .safeStop (some .pathLost)) := by
    unfold State.enterSafeStop
    rw [hy]
  have hnone := phase_of_no_target hphase
  unfold State.loseHead State.losePath
  rw [hy, Option.bind_some, hphase]
  dsimp only
  cases hstate : y.state <;> cases b <;> simp [CraneLink.stopsIf, hnone, hstate, hstop]

theorem faultedBy_other (hs : Own s) (hc : s.contexts.get? k = some c) (hserving : c.serving ≠ some h) :
    FaultedBy h held [k] s (faultContext h held k s) := by
  have hlost (j : Nat) : s.lostBy h [k] j = false := lostBy_of_not hs hc (.inl hserving)
  refine faultedBy_quiet hs hc (if_neg hserving) (links_kept fun e _ he => absurd he (by rw [hlost]; nofun)).symm
    (fun _ q _ _ => hlost q.owner) ?_
  rw [faultContext_eq hc, if_neg hserving, State.tellLost, hc]
  simp only [if_neg hserving]
  rfl

/-- A context left without a head, whose link, if it has one, is not stopped. -/
theorem faultedBy_left (hs : Own s) (hc : s.contexts.get? k = some c) (hserving : c.serving = some h) (haimed : s.aimed)
    (hkept : ∀ y, s.craneOf c = some y → y.2.phase.target? = none ∧ y.2.stopsIf (held.contains y.1) = false) :
    FaultedBy h held [k] s (faultContext h held k s) := by
  have hrescue : s.rescueBy h c = none := by
    rw [State.rescueBy, if_pos hserving]
    cases hy : s.craneOf c with
    | none => rfl
    | some y => exact (hkept y hy).1
  have hstops : ((s.craneOf c).any fun y => y.2.stopsIf (held.contains y.1)) = false := by
    cases hy : s.craneOf c with
    | none => rfl
    | some y => exact (hkept y hy).2
  have htold : s.tellLost h held s k = s.post (.context k) .serveLost := by
    rw [State.tellLost, hc]
    simp only [if_pos hserving, hrescue, hstops, Bool.false_eq_true, if_false]
  refine faultedBy_quiet hs hc hrescue (links_kept fun e he hlost => ?_).symm (fun g q hq hkind => ?_) ?_
  · obtain ⟨-, y, hy⟩ := lostBy_single hs hc hlost
    obtain ⟨hphase, hstop⟩ := hkept _ hy
    obtain ⟨-, -, hget⟩ := craneOf_eq_some hy
    cases hget.symm.trans (Table.get?_of_mem hs.links_wf he)
    exact lostPath_of_kept (phase_of_no_target hphase) hstop
  · refine Bool.eq_false_iff.mpr fun hlost => ?_
    obtain ⟨-, y, hy⟩ := lostBy_single hs hc hlost
    obtain ⟨-, -, hget⟩ := craneOf_eq_some hy
    have haim := haimed g q hq hkind
    rw [State.phaseTarget, hget, Option.bind_some, (hkept _ hy).1] at haim
    cases haim
  · rw [faultContext_eq hc, if_pos hserving, htold]
    have hpost := lostHead_posted (s := s) (k := k) (h := h) (Posts.post (.context k) .serveLost)
    split
    · next l hcls hext =>
      refine Eq.trans ?_ hpost
      cases hy : s.links.get? l with
      | none => exact loseHead_of_none ((get?_links_lostHead _).trans hy)
      | some y =>
        obtain ⟨hphase, hstop⟩ := hkept (l, y) (craneOf_of hcls hext hy)
        exact (loseHead_of_stay ((get?_links_lostHead _).trans hy) hphase).trans (if_neg (by rw [hstop]; nofun))
    · exact hpost

/-- A context left without a head, whose link is stopped. -/
theorem faultedBy_stopped (hs : Own s) (hc : s.contexts.get? k = some c) (hserving : c.serving = some h) (haimed : s.aimed)
    (hy : s.craneOf c = some (l, y)) (hphase : y.phase.target? = none) (hstop : y.stopsIf (held.contains l) = true) :
    FaultedBy h held [k] s (faultContext h held k s) := by
  obtain ⟨hcls, hext, hget⟩ := craneOf_eq_some hy
  have hrescue : s.rescueBy h c = none := by
    rw [State.rescueBy, if_pos hserving, hy]
    exact hphase
  have hlost (j : Nat) : s.lostBy h [k] j = (j == l) := lostBy_of_craneOf hs hc hserving hy
  have howner : y.owner = k := hs.owner_of_context hc (link?_of_craneOf hy) hget
  have htold : s.tellLost h held s k =
      (s.post (.context k) .serveLost).post (.context k) (.craneState .safeStop (some .pathLost)) := by
    rw [State.tellLost, hc]
    simp only [if_pos hserving, hrescue, hy, Option.any_some, hstop, if_true]
  have hlink : s.links.modify l (fun k => { k with state := .safeStop, cause := some .pathLost, next := none }) =
      s.links.modify l (CraneLink.lostPath (held.contains l)) := by
    rw [Table.modify_eq_const hs.links_wf hget (CraneLink.lostPath (held.contains l)), Table.modify_eq_const hs.links_wf hget,
      CraneLink.lostPath, if_pos hstop]
  refine faultedBy_quiet hs hc hrescue (links_lost hlost fun j => held.contains j) (fun g q hq hkind => ?_) ?_
  · refine Bool.eq_false_iff.mpr fun hq' => ?_
    have haim := haimed g q hq hkind
    rw [beq_iff_eq.mp ((hlost q.owner).symm.trans hq'), State.phaseTarget, hget, Option.bind_some, hphase] at haim
    cases haim
  · have hpost := lostHead_posted (s := s) (k := k) (h := h) (Posts.post (.context k) .serveLost)
    rw [faultContext_eq hc, if_pos hserving, hcls, hext]
    dsimp only
    refine (loseHead_of_stay ((get?_links_lostHead _).trans hget) hphase).trans ?_
    rw [if_pos hstop, howner, htold, ← hlink, hpost]
    exact (Posts.post (.context k) (.craneState .safeStop (some .pathLost))).at rfl rfl

theorem rescue_eq (hair : s.airtimeLaw) (hy : s.links.get? l = some y) (hc : s.contexts.get? y.owner = some c) :
    s.rescue l h g =
      ({ s.setAccount g ((s.account g).converted l) with
        contexts := s.contexts.modify y.owner fun c => c.serveOn g, links := s.links.modify l fun k => { k with phase := .none }
        orders := s.orders ++ [.serveOrder c.tag (some h) g] } : State).post (.context y.owner) (.handoverDone (some h) g .rescue) := by
  have hcontext : s.linkContext l = some c := by rw [State.linkContext, hy]; exact hc
  have hair' : (s.modContext y.owner fun c => c.serveOn g).airtimeLaw := Air.of_eq (s := s) rfl rfl hair
  unfold State.rescue
  rw [hy, hcontext]
  dsimp only
  rw [convert_of_law hair']
  rfl

/-- A context rescued by the target of its link's handover (R124). -/
theorem faultedBy_rescued (hs : Own s) (hair : s.airtimeLaw) (hc : s.contexts.get? k = some c) (hserving : c.serving = some h)
    (haimed : s.aimed) (hy : s.craneOf c = some (l, y)) (hphase : y.phase.target? = some g) :
    FaultedBy h held [k] s (faultContext h held k s) := by
  obtain ⟨hcls, hext, hget⟩ := craneOf_eq_some hy
  have hrescue : s.rescueBy h c = some g := by
    rw [State.rescueBy, if_pos hserving, hy]
    exact hphase
  have hlost (j : Nat) : s.lostBy h [k] j = (j == l) := lostBy_of_craneOf hs hc hserving hy
  have howner : y.owner = k := hs.owner_of_context hc (link?_of_craneOf hy) hget
  have hstay : y.stopsIf (held.contains l) = false := by
    have hne : y.phase ≠ .none := fun hp => by simp [hp, Phase.target?] at hphase
    rw [CraneLink.stopsIf, beq_false_of_ne hne]
    rfl
  have htold : s.tellLost h held s k =
      (s.post (.context k) .serveLost).post (.context k) (.handoverDone (some h) g .rescue) := by
    rw [State.tellLost, hc]
    simp only [if_pos hserving, hrescue]
  have ht : faultContext h held k s =
      ({ s.setAccount g ((s.account g).converted l) with
        contexts := s.contexts.modify k (Context.faulted h (some g)), links := s.links.modify l (CraneLink.lostPath (held.contains l))
        orders := s.orders ++ [.serveOrder c.tag (some h) g]
        notices := (s.tellLost h held s k).notices, overflow := (s.tellLost h held s k).overflow } : State) := by
    have hget' := (get?_links_lostHead (s := s) (k := k) (h := h) l).trans hget
    have hc' : ((s.modContext k (Context.lostHead h)).post (.context k) .serveLost).contexts.get? y.owner = some (c.lostHead h) := by
      rw [State.post_contexts, howner, State.modContext_contexts, Table.get?_modify_self, hc]
      rfl
    have hair' : ((s.modContext k (Context.lostHead h)).post (.context k) .serveLost).airtimeLaw :=
      Air.of_eq (s := s) (State.post_heads _ _ _) (State.post_airtime _ _ _) hair
    have hlose : faultContext h held k s = ((s.modContext k (Context.lostHead h)).post (.context k) .serveLost).rescue l h g := by
      rw [faultContext_eq hc, if_pos hserving, hcls, hext]
      dsimp only
      unfold State.loseHead
      rw [hget', Option.bind_some, hphase]
    have hlinks : s.links.modify l (fun k => { k with phase := .none }) = s.links.modify l (CraneLink.lostPath (held.contains l)) := by
      rw [Table.modify_eq_const hs.links_wf hget, Table.modify_eq_const hs.links_wf hget (CraneLink.lostPath (held.contains l)),
        CraneLink.lostPath, hstay]
      rfl
    have hcontexts : (s.contexts.modify k (Context.lostHead h)).modify k (fun c => c.serveOn g) =
        s.contexts.modify k (Context.faulted h (some g)) := Table.modify_modify _ _ _ _
    rw [hlose, rescue_eq hair' hget' hc', howner, htold, lostHead_posted (Posts.post (.context k) .serveLost), ← hlinks, ← hcontexts]
    exact (Posts.post (.context k) (.handoverDone (some h) g .rescue)).at rfl rfl
  have haccount (i : HeadIx) : (s.account i).rescued (s.lostBy h [k]) = if i = g then (s.account g).converted l else s.account i := by
    have heq : s.lostBy h [k] = fun j => j == l := funext hlost
    rw [heq]
    split
    · next hi => rw [hi]; rfl
    · next hi =>
      refine rescued_of_none fun q hq hkind => beq_false_of_ne fun hql => hi ?_
      have haim := haimed i q hq hkind
      rw [hql, State.phaseTarget, hget, Option.bind_some, hphase] at haim
      exact (Option.some.inj haim).symm
  rw [ht]
  exact {
    contexts := by rw [← contexts_faulted hs.1.1 hc, hrescue]
    links := links_lost hlost fun j => held.contains j
    account := fun i => by
      rw [haccount, ← State.account_setAccount]
      rfl
    orders := by simp [hc, hrescue]
    notices := ⟨rfl, rfl⟩
    frame := rfl }

theorem faultedBy_context (hs : Own s) (hair : s.airtimeLaw) (haimed : s.aimed) (hc : s.contexts.get? k = some c) :
    FaultedBy h held [k] s (faultContext h held k s) := by
  by_cases hserving : c.serving = some h
  · cases hy : s.craneOf c with
    | none => exact faultedBy_left hs hc hserving haimed fun y hy' => by rw [hy] at hy'; cases hy'
    | some e =>
      obtain ⟨l, y⟩ := e
      cases hphase : y.phase.target? with
      | some g => exact faultedBy_rescued hs hair hc hserving haimed hy hphase
      | none =>
        cases hstop : y.stopsIf (held.contains l) with
        | true => exact faultedBy_stopped hs hc hserving haimed hy hphase hstop
        | false =>
          refine faultedBy_left hs hc hserving haimed fun e he => ?_
          cases hy.symm.trans he
          exact ⟨hphase, hstop⟩
  · exact faultedBy_other hs hc hserving

end Sys2Proof.Machine
end

section
/-! The fault of a head taken to one context after another (R36, R65): each of the rest meets what it meets alone. -/

namespace Sys2Proof.Machine

variable {s t u v : State} {i j k l n : Nat} {c d : Context} {g h : HeadIx} {y : CraneLink} {held ks : List Nat} {f : State → State}

/-! ### What the fault of one context leaves to the others -/

theorem contexts_of_faultedBy (hf : FaultedBy h held ks s t) (hj : j ∉ ks) : t.contexts.get? j = s.contexts.get? j := by
  rw [hf.contexts, get?_map_keyed s.contexts fun e => if ks.contains e.1 then e.2.faulted h (s.rescueBy h e.2) else e.2]
  simp [hj]

theorem links_of_faultedBy (hf : FaultedBy h held ks s t) (hl : s.lostBy h ks l = false) : t.links.get? l = s.links.get? l := by
  rw [hf.links, get?_map_keyed s.links fun e => if s.lostBy h ks e.1 then e.2.lostPath (held.contains e.1) else e.2]
  simp [hl]

@[simp] theorem lostPath_owner (b : Bool) (y : CraneLink) : (y.lostPath b).owner = y.owner := by
  unfold CraneLink.lostPath
  split <;> rfl

theorem owner_of_faultedBy (hf : FaultedBy h held ks s t) (l : Nat) :
    (t.links.get? l).map (·.owner) = (s.links.get? l).map (·.owner) := by
  rw [hf.links, get?_map_keyed s.links fun e => if s.lostBy h ks e.1 then e.2.lostPath (held.contains e.1) else e.2]
  cases s.links.get? l with
  | none => rfl
  | some y =>
    rw [Option.map_some, Option.map_some, Option.map_some]
    split
    · rw [lostPath_owner]
    · rfl

theorem lostBy_eq_false_of_owner (hy : s.links.get? l = some y) (howner : y.owner ∉ ks) : s.lostBy h ks l = false := by
  rw [State.lostBy, hy, Option.any_some]
  simp [howner]

theorem lostBy_cons (s : State) (h : HeadIx) (k : Nat) (ks : List Nat) (l : Nat) :
    s.lostBy h (k :: ks) l = (s.lostBy h [k] l || s.lostBy h ks l) := by
  unfold State.lostBy
  cases s.links.get? l with
  | none => rfl
  | some y =>
    simp only [Option.any_some, List.contains_cons, List.contains_nil, Bool.or_false]
    cases y.owner == k <;> simp

/-- A link whose owner is another context, in the state in which the fault of `k` has been taken. -/
theorem lostBy_of_faultedBy (hf : FaultedBy h held [k] s v) (hk : k ∉ ks) (l : Nat) : v.lostBy h ks l = s.lostBy h ks l := by
  cases hy : s.links.get? l with
  | none =>
    have hv : v.links.get? l = none := by
      have howner := owner_of_faultedBy hf l
      rw [hy] at howner
      exact Option.map_eq_none_iff.mp howner
    rw [State.lostBy, State.lostBy, hy, hv]
    rfl
  | some y =>
    by_cases howner : y.owner = k
    · obtain ⟨w, hw, hwk⟩ : ∃ w, v.links.get? l = some w ∧ w.owner = k := by
        have := owner_of_faultedBy hf l
        rw [hy] at this
        obtain ⟨w, hw, hwy⟩ := Option.map_eq_some_iff.mp this
        exact ⟨w, hw, hwy.trans howner⟩
      rw [lostBy_eq_false_of_owner hy (howner ▸ hk), lostBy_eq_false_of_owner hw (hwk ▸ hk)]
    · have hv : v.links.get? l = some y :=
        (links_of_faultedBy hf (lostBy_eq_false_of_owner hy (by simpa using howner))).trans hy
      have hserves : v.serves y.owner = s.serves y.owner := by
        rw [State.serves, State.serves, contexts_of_faultedBy hf (by simpa using howner)]
      rw [State.lostBy, State.lostBy, hy, hv, linkServing_of_owner hy, linkServing_of_owner hv, hserves]

theorem craneOf_of_faultedBy (hs : Own s) (hf : FaultedBy h held [k] s v) (hc : s.contexts.get? j = some c) (hj : j ≠ k) :
    v.craneOf c = s.craneOf c := by
  refine craneOf_congr fun l hlink => ?_
  cases hy : s.links.get? l with
  | none =>
    have howner := owner_of_faultedBy hf l
    rw [hy] at howner
    exact Option.map_eq_none_iff.mp howner
  | some y =>
    have howner : y.owner ≠ k := fun hk => hj ((hs.owner_of_context hc hlink hy).symm.trans hk)
    exact (links_of_faultedBy hf (lostBy_eq_false_of_owner hy (by simpa using howner))).trans hy

theorem rescueBy_of_faultedBy (hs : Own s) (hf : FaultedBy h held [k] s v) (hc : s.contexts.get? j = some c) (hj : j ≠ k) :
    v.rescueBy h c = s.rescueBy h c := by
  rw [State.rescueBy, State.rescueBy, craneOf_of_faultedBy hs hf hc hj]

theorem tellLost_of_faultedBy (hs : Own s) (hf : FaultedBy h held [k] s v) (hj : j ≠ k) (w : State) :
    v.tellLost h held w j = s.tellLost h held w j := by
  unfold State.tellLost
  rw [contexts_of_faultedBy hf (by simpa using hj)]
  cases hc : s.contexts.get? j with
  | none => rfl
  | some c =>
    dsimp only
    rw [craneOf_of_faultedBy hs hf hc hj, rescueBy_of_faultedBy hs hf hc hj]

theorem rescued_rescued (p q : Nat → Bool) (a : Account) : (a.rescued p).rescued q = a.rescued fun l => p l || q l := by
  unfold Account.rescued
  dsimp only
  rw [List.map_map]
  congr 1
  refine List.map_congr_left fun r _ => ?_
  cases hkind : r.kind with
  | standing => simp [hkind]
  | prepared =>
    by_cases hp : p r.owner = true
    · simp [hkind, hp]
    · simp [hkind, hp]

/-! ### Composition -/

theorem FaultedBy.nil (s : State) : FaultedBy h held [] s s where
  contexts := by simp
  links := by simp [State.lostBy]
  account g := (rescued_of_none fun q _ _ => by simp [State.lostBy]).symm
  orders := by simp
  notices := ⟨rfl, rfl⟩
  frame := rfl

theorem posts_told (s : State) (h : HeadIx) (held ks : List Nat) : Posts fun v => ks.foldl (s.tellLost h held) v :=
  .foldl (posts_tellLost s h held) ks

theorem FaultedBy.cons (hs : Own s) (hk : k ∉ ks) (hfirst : FaultedBy h held [k] s v) (hrest : FaultedBy h held ks v t) :
    FaultedBy h held (k :: ks) s t where
  contexts := by
    rw [hrest.contexts, hfirst.contexts, List.map_map]
    refine List.map_congr_left fun e he => ?_
    have hget := Table.get?_of_mem hs.1.1 he
    by_cases hek : e.1 = k
    · simp [hek, hk]
    · simp [hek, rescueBy_of_faultedBy hs hfirst hget hek]
  links := by
    rw [hrest.links, hfirst.links, List.map_map]
    refine List.map_congr_left fun e he => ?_
    have hget := Table.get?_of_mem hs.links_wf he
    dsimp only [Function.comp_apply]
    rw [lostBy_of_faultedBy hfirst hk, lostBy_cons s h k ks]
    cases hone : s.lostBy h [k] e.1 with
    | false => simp
    | true =>
      have howner : e.2.owner = k := by
        rw [State.lostBy, hget] at hone
        simpa using (Bool.and_eq_true_iff.mp hone).1
      simp [lostBy_eq_false_of_owner hget (howner ▸ hk)]
  account g := by
    rw [hrest.account, hfirst.account, rescued_rescued]
    congr 1
    funext l
    rw [lostBy_of_faultedBy hfirst hk, ← lostBy_cons]
  orders := by
    rw [hrest.orders, hfirst.orders, List.append_assoc, List.filterMap_cons, List.filterMap_cons, List.filterMap_nil]
    have hsame : (ks.filterMap fun j => (v.contexts.get? j).bind fun c => (v.rescueBy h c).map (Order.serveOrder c.tag (some h))) =
        ks.filterMap fun j => (s.contexts.get? j).bind fun c => (s.rescueBy h c).map (Order.serveOrder c.tag (some h)) := by
      refine List.filterMap_congr fun j hj => ?_
      have hjk : j ≠ k := fun he => hk (he ▸ hj)
      rw [contexts_of_faultedBy hfirst (by simpa using hjk)]
      cases hc : s.contexts.get? j with
      | none => rfl
      | some c => rw [Option.bind_some, Option.bind_some, rescueBy_of_faultedBy hs hfirst hc hjk]
    rw [hsame]
    split <;> simp
  notices := by
    have hsame (w : State) : ks.foldl (v.tellLost h held) w = ks.foldl (s.tellLost h held) w :=
      List.foldl_ext _ _ _ fun u j hj => tellLost_of_faultedBy hs hfirst (fun he => hk (he ▸ hj)) u
    obtain ⟨hn, ho⟩ := hrest.notices
    obtain ⟨hn', ho'⟩ := hfirst.notices
    obtain ⟨hns, hos⟩ := (posts_told s h held ks).congr _ v hn' ho'
    rw [hsame] at hn ho
    exact ⟨hn.trans hns, ho.trans hos⟩
  frame := hrest.frame.trans (by rw [hfirst.frame])

theorem aimed_of_faultedBy (hf : FaultedBy h held ks s t) (haimed : s.aimed) : t.aimed := by
  intro g q hq hkind
  rw [hf.account g] at hq
  obtain ⟨q', hq', rfl⟩ := List.mem_map.mp hq
  split at hkind
  · cases hkind
  · next hnot =>
    rw [if_neg hnot]
    have hlost : s.lostBy h ks q'.owner = false := by simpa [hkind] using hnot
    rw [State.phaseTarget, links_of_faultedBy hf hlost]
    exact haimed g q' hq' hkind

/-- The fault of a head taken to the contexts given (R36, R65). -/
theorem faultedBy_contexts (hs : Own s) (hair : s.airtimeLaw) (haimed : s.aimed) (hks : ks.Nodup)
    (hoccupied : ∀ k ∈ ks, (s.contexts.get? k).isSome) : FaultedBy h held ks s (faultContexts h held ks s) := by
  induction ks generalizing s with
  | nil => exact .nil s
  | cons k ks ih =>
    obtain ⟨hk, hks⟩ := List.nodup_cons.mp hks
    obtain ⟨c, hc⟩ := Option.isSome_iff_exists.mp (hoccupied k List.mem_cons_self)
    have hone := faultedBy_context (held := held) (h := h) hs hair haimed hc
    refine hone.cons hs hk (ih ((WorkKept.faultContext h held k).own hs) (Air.faultContext h held k hair)
      (aimed_of_faultedBy hone haimed) hks fun j hj => ?_)
    rw [contexts_of_faultedBy hone (by simpa using fun he : j = k => hk (he ▸ hj))]
    exact hoccupied j (List.mem_cons_of_mem _ hj)

end Sys2Proof.Machine
end

section
/-! The fault of a head up to its contexts (R31, R34, R35, R65): its record, its prepared reservations and its account. -/

namespace Sys2Proof.Machine

variable {s t u v : State} {i j k l n : Nat} {c d : Context} {g h : HeadIx} {y : CraneLink} {held ks : List Nat} {cause : FaultCause}

/-- The notices of a head that enters FAULTED, before those of its contexts (R38). -/
def State.faultPosted (s : State) (h : HeadIx) (cause : FaultCause) : State :=
  (s.account h).preparedOwners.foldl (s.postFailed .targetLost) (s.post (.head h) (.headState .faulted cause 0))

/-- Head `h` has entered FAULTED and its account is cleared; its contexts, its queues and its polls are as they were. -/
structure Entered (h : HeadIx) (cause : FaultCause) (s v : State) : Prop where
  links : v.links = s.linksEnded (s.account h).preparedOwners
  heads : v.heads = (s.modHead h (Head.faulted cause)).heads
  account : v.account h = { list := [], wreq := (s.account h).wreq, wg := 0, polls := 0 }
  others : ∀ g, g ≠ h → v.account g = s.account g
  notices : v.notices = (s.faultPosted h cause).notices ∧ v.overflow = (s.faultPosted h cause).overflow
  orders : v.orders = s.orders ++ [.beam h none]
  frame : v = { s with
    heads := v.heads, links := v.links, airtime := v.airtime, notices := v.notices, overflow := v.overflow, orders := v.orders }

/-- A faulted head has its prepared reservations cancelled, whatever its state was (R35, R50). -/
theorem faultEntered_eq (hair : s.airtimeLaw) : s.faultEntered h cause =
    cancelEach h .targetLost (s.account h).preparedOwners ((s.setHead h ((s.head h).faulted cause)).post (.head h) (.headState .faulted cause 0)) := by
  obtain ⟨-, -, -, hstate⟩ := hair h
  have hposted : (s.modHead h (Head.faulted cause)).postHeadState h =
      (s.setHead h ((s.head h).faulted cause)).post (.head h) (.headState .faulted cause 0) := by
    rw [State.postHeadState, show (s.modHead h (Head.faulted cause)).head h = (s.head h).faulted cause from State.head_setHead_self s h _]
    rfl
  unfold State.faultEntered
  dsimp only
  split
  · rw [State.cancelPrepared, hposted, State.account_post]
    rfl
  · next hnot => rw [hstate hnot, hposted]; rfl

theorem fit_of_out (w : State) (h : HeadIx) (a : Account) (hx : (w.head h).effective = 0) :
    (w.setAccount h a).fit h = w.setAccount h { a with wg := 0 } := by
  have hwindow : grantedWindow (w.head h) a = 0 := by
    rw [grantedWindow, hx]
    simp
  rw [fit_eq, State.account_setAccount_self, State.head_setAccount, hwindow, State.passIfGrown, State.setAccount_setAccount,
    State.account_setAccount_self, if_neg (Nat.not_lt_zero _)]

theorem emptied_setAccount (w : State) (h : HeadIx) (a : Account) (o : Order) :
    ((w.setAccount h a).order o).modAccount h Account.emptied = (w.order o).setAccount h a.emptied := by
  show ((w.order o).setAccount h a).setAccount h (((w.order o).setAccount h a).account h).emptied = _
  rw [State.setAccount_setAccount, State.account_setAccount_self]

theorem entered (hwf : s.links.wf n) (hair : s.airtimeLaw) (hnodup : ((s.account h).list.map (·.owner)).Nodup) :
    Entered h cause s ((((s.faultEntered h cause).order (.beam h none)).modAccount h Account.emptied).fit h) := by
  have hposts := (Posts.post (.head h) (.headState .faulted cause 0)).comp
    (posts_failures s .targetLost (s.account h).preparedOwners)
  have hcancelled : s.faultEntered h cause =
      ({ s.setHead h ((s.head h).faulted cause) with
        links := s.linksEnded (s.account h).preparedOwners
        notices := (s.faultPosted h cause).notices, overflow := (s.faultPosted h cause).overflow } : State).setAccount h
          ((s.account h).without (s.account h).preparedOwners) := by
    have hlinks : ((s.setHead h ((s.head h).faulted cause)).post (.head h) (.headState .faulted cause 0)).links = s.links := State.post_links _ _ _
    have hcontexts : ((s.setHead h ((s.head h).faulted cause)).post (.head h) (.headState .faulted cause 0)).contexts = s.contexts :=
      State.post_contexts _ _ _
    have haccount : ((s.setHead h ((s.head h).faulted cause)).post (.head h) (.headState .faulted cause 0)).account h = s.account h :=
      State.account_post _ _ _ _
    rw [faultEntered_eq hair, cancelEach_eq (hlinks ▸ hwf) (preparedOwners_nodup hnodup) rfl, failures_congr hlinks hcontexts,
      linksEnded_congr hlinks, haccount]
    have hat := hposts.at (v := s) (w := s.setHead h ((s.head h).faulted cause)) rfl rfl
    rw [hat]
    rfl
  rw [hcancelled, emptied_setAccount, fit_of_out _ _ _ ?_]
  · exact {
      links := rfl
      heads := rfl
      account := State.account_setAccount_self _ _ _
      others := fun g hg => State.account_setAccount_of_ne _ _ hg
      notices := ⟨rfl, rfl⟩
      orders := rfl
      frame := rfl }
  · show ((s.setHead h ((s.head h).faulted cause)).head h).effective = 0
    rw [State.head_setHead_self]
    rfl

/-! ### The laws of the entered head -/

theorem Entered.own (e : Entered h cause s v) (hs : Own s) : Own v := by
  have howners : v.owners = s.owners := by
    have hlinks : v.links.map (fun e => (e.1, e.2.owner)) = s.links.map fun e => (e.1, e.2.owner) := by
      rw [e.links, State.linksEnded, List.map_map]
      refine List.map_congr_left fun d _ => ?_
      dsimp only [Function.comp_apply]
      split <;> rfl
    rw [State.owners, State.owners, hlinks, e.frame]
  exact own_of_owners howners hs

theorem Entered.head (e : Entered h cause s v) (g : HeadIx) : v.head g = if g = h then (s.head h).faulted cause else s.head g :=
  (head_of_heads e.heads g).trans (State.head_setHead s h g _)

theorem Entered.airtime (e : Entered h cause s v) (hs : s.airtimeLaw) : v.airtimeLaw := by
  intro g
  rw [e.head]
  by_cases hg : g = h
  · rw [if_pos hg, hg, e.account]
    refine ⟨?_, Nat.zero_le _, fun _ => ⟨rfl, rfl⟩, fun _ => rfl⟩
    simp [grantedWindow, Head.faulted, Head.effective]
  · rw [if_neg hg, e.others g hg]
    exact hs g

theorem phase_of_prepared (hs : s.reservationLaw) (hl : l ∈ (s.account h).preparedOwners) :
    (∃ y, s.links.get? l = some y ∧ y.phase.target? = some h) ∧ s.linkServing l ≠ some h := by
  obtain ⟨q, hq, rfl⟩ := List.mem_map.mp hl
  obtain ⟨hmem, hkind⟩ := List.mem_filter.mp hq
  obtain ⟨-, hall, -⟩ := hs
  obtain ⟨-, -, hprepared⟩ := hall h q hmem
  obtain ⟨hany, hserving⟩ := hprepared (beq_iff_eq.mp hkind)
  refine ⟨?_, hserving⟩
  cases hy : s.links.get? q.owner with
  | none => rw [hy] at hany; cases hany
  | some y =>
    rw [hy] at hany
    exact ⟨y, rfl, beq_iff_eq.mp hany⟩

/-- The links whose prepared reservations go are those of the handovers to the head (R116). -/
theorem mem_preparedOwners_iff (hres : s.reservationLaw) (hhand : s.handoverLaw) (hy : s.links.get? l = some y) :
    l ∈ (s.account h).preparedOwners ↔ y.phase.target? = some h := by
  constructor
  · intro hl
    obtain ⟨⟨y', hy', htarget⟩, -⟩ := phase_of_prepared hres hl
    cases hy.symm.trans hy'
    exact htarget
  · intro htarget
    obtain ⟨q, hq, hkind⟩ := List.any_eq_true.mp (hhand _ (Table.mem_of_get? hy) h htarget)
    obtain ⟨hprepared, howner⟩ := Bool.and_eq_true_iff.mp hkind
    have hl : q.owner = l := beq_iff_eq.mp howner
    exact hl ▸ List.mem_map_of_mem (List.mem_filter.mpr ⟨hq, hprepared⟩)

theorem Entered.link (e : Entered h cause s v) (hl : l ∉ (s.account h).preparedOwners) : v.links.get? l = s.links.get? l := by
  rw [e.links, get?_linksEnded]
  simp [hl]

/-- A link that the head serves has no handover to it (R116). -/
theorem Entered.served (e : Entered h cause s v) (hs : s.reservationLaw) (hl : s.linkServing l = some h) :
    v.links.get? l = s.links.get? l :=
  e.link fun hin => (phase_of_prepared hs hin).2 hl

theorem Entered.aimed (e : Entered h cause s v) (hs : s.reservationLaw) : v.aimed := by
  intro g q hq hkind
  by_cases hg : g = h
  · rw [hg, e.account] at hq
    cases hq
  · rw [e.others g hg] at hq
    have hin : q.owner ∈ (s.account g).preparedOwners := List.mem_map_of_mem (List.mem_filter.mpr ⟨hq, beq_iff_eq.mpr hkind⟩)
    obtain ⟨⟨y, hy, htarget⟩, -⟩ := phase_of_prepared hs hin
    have hout : q.owner ∉ (s.account h).preparedOwners := fun hin' => by
      obtain ⟨⟨y', hy', htarget'⟩, -⟩ := phase_of_prepared hs hin'
      cases hy.symm.trans hy'
      exact hg (Option.some.inj (htarget.symm.trans htarget'))
    rw [State.phaseTarget, e.link hout, hy]
    exact htarget

theorem Entered.contexts (e : Entered h cause s v) : v.contexts = s.contexts := by
  rw [e.frame]

theorem Entered.craneOf (e : Entered h cause s v) (hown : Own s) (hres : s.reservationLaw) (hc : s.contexts.get? k = some c)
    (hserving : c.serving = some h) : v.craneOf c = s.craneOf c := by
  refine craneOf_congr fun l hlink => ?_
  cases hy : s.links.get? l with
  | none => rw [e.links, get?_linksEnded, hy]; rfl
  | some y =>
    have hserves : s.linkServing l = some h := by
      rw [linkServing_of_owner hy, State.serves, hown.owner_of_context hc hlink hy, hc]
      exact hserving
    exact (e.served hres hserves).trans hy

theorem Entered.rescueBy (e : Entered h cause s v) (hown : Own s) (hres : s.reservationLaw) (hc : s.contexts.get? k = some c) :
    v.rescueBy h c = s.rescueBy h c := by
  unfold State.rescueBy
  split
  · next hserving => rw [e.craneOf hown hres hc hserving]
  · rfl

theorem Entered.linkServing (e : Entered h cause s v) (l : Nat) : v.linkServing l = s.linkServing l := by
  unfold State.linkServing State.linkContext
  rw [e.links, get?_linksEnded, e.contexts]
  cases s.links.get? l with
  | none => rfl
  | some y =>
    rw [Option.map_some, Option.bind_some, Option.bind_some]
    split <;> rfl

end Sys2Proof.Machine
end

section
/-! The fault of a head told to all contexts (R36, R38, R65, R112, R124). -/

namespace Sys2Proof.Machine

variable {s t u v w : State} {i j k l n : Nat} {c d : Context} {g h : HeadIx} {y : CraneLink} {held ks : List Nat} {cause : FaultCause}

/-- The notices of the fault for the context of one entry of the table (R38). -/
def State.tellEntry (s : State) (h : HeadIx) (v : State) (e : Nat × Context) : State :=
  if e.2.serving = some h then
    match s.rescueBy h e.2 with
    | some g => (v.post (.context e.1) .serveLost).post (.context e.1) (.handoverDone (some h) g .rescue)
    | none =>
      if (s.craneOf e.2).any fun y => y.2.stopsIf (s.holds .standing y.1 h) then
        (v.post (.context e.1) .serveLost).post (.context e.1) (.craneState .safeStop (some .pathLost))
      else v.post (.context e.1) .serveLost
  else v

/-- A link behind the fault of a head: left behind, no longer in a handover to it, or as it was (R35, R112, R121). -/
def State.linkBehind (s : State) (h : HeadIx) (e : Nat × CraneLink) : CraneLink :=
  if s.linkServing e.1 = some h then e.2.lostPath (s.holds .standing e.1 h)
  else if e.2.phase.target? = some h then { e.2 with phase := .none } else e.2

/-- Head `h` has entered FAULTED and every context has met the fault. -/
structure FaultTold (h : HeadIx) (cause : FaultCause) (s w : State) : Prop where
  heads : w.heads = (s.modHead h (Head.faulted cause)).heads
  contexts : w.contexts = s.contexts.map fun e => (e.1, e.2.faulted h (s.rescueBy h e.2))
  links : w.links = s.links.map fun e => (e.1, s.linkBehind h e)
  account : w.account h = { list := [], wreq := (s.account h).wreq, wg := 0, polls := 0 }
  others : ∀ g, g ≠ h → w.account g = (s.account g).rescued fun l => s.linkServing l == some h
  orders : w.orders = s.orders ++ .beam h none :: s.contexts.filterMap fun e =>
    (s.rescueBy h e.2).map (Order.serveOrder e.2.tag (some h))
  notices : w.notices = (s.contexts.foldl (s.tellEntry h) (s.faultPosted h cause)).notices ∧
    w.overflow = (s.contexts.foldl (s.tellEntry h) (s.faultPosted h cause)).overflow
  frame : w = { s with
    heads := w.heads, contexts := w.contexts, links := w.links, airtime := w.airtime, orders := w.orders, notices := w.notices,
    overflow := w.overflow }

theorem contains_standingOwners (s : State) (h : HeadIx) (l : Nat) :
    (s.account h).standingOwners.contains l = s.holds .standing l h := by
  rw [Bool.eq_iff_iff, List.contains_iff_mem, State.holds, List.any_eq_true, Account.standingOwners, List.mem_map]
  constructor
  · rintro ⟨q, hq, rfl⟩
    obtain ⟨hmem, hkind⟩ := List.mem_filter.mp hq
    exact ⟨q, hmem, by rw [hkind, beq_self_eq_true]; rfl⟩
  · rintro ⟨q, hq, hkind⟩
    obtain ⟨hstanding, howner⟩ := Bool.and_eq_true_iff.mp hkind
    exact ⟨q, List.mem_filter.mpr ⟨hq, hstanding⟩, beq_iff_eq.mp howner⟩

/-- With every context in view, the links lost are those that the head serves. -/
theorem lostBy_keys (hs : Own s) (h : HeadIx) (l : Nat) : s.lostBy h s.contexts.keys l = (s.linkServing l == some h) := by
  cases hy : s.links.get? l with
  | none =>
    rw [State.lostBy, hy, State.linkServing, State.linkContext, hy]
    rfl
  | some y =>
    obtain ⟨c, hc, -⟩ := hs.context_of_link hy
    have hkey : y.owner ∈ s.contexts.keys := (Table.mem_keys _ _).mpr (by rw [hc]; rfl)
    rw [State.lostBy, hy, Option.any_some, List.contains_iff_mem.mpr hkey, Bool.true_and]

theorem tellLost_of_entered (e : Entered h cause s v) (hown : Own s) (hres : s.reservationLaw) {d : Nat × Context}
    (hd : d ∈ s.contexts) (u : State) : v.tellLost h (s.account h).standingOwners u d.1 = s.tellEntry h u d := by
  have hget := Table.get?_of_mem hown.1.1 hd
  unfold State.tellLost State.tellEntry
  rw [e.contexts, hget]
  dsimp only
  split
  · next hserving =>
    rw [e.rescueBy hown hres hget, e.craneOf hown hres hget hserving]
    have hstops : ((s.craneOf d.2).any fun y => y.2.stopsIf ((s.account h).standingOwners.contains y.1)) =
        (s.craneOf d.2).any fun y => y.2.stopsIf (s.holds .standing y.1 h) := by
      simp only [contains_standingOwners]
    cases s.rescueBy h d.2 with
    | some g => rfl
    | none =>
      dsimp only
      rw [hstops]
  · rfl

theorem faultTold (hown : Own s) (hhand : s.handoverLaw) (hres : s.reservationLaw) (e : Entered h cause s v)
    (hf : FaultedBy h (s.account h).standingOwners s.contexts.keys v w) : FaultTold h cause s w where
  heads := by rw [hf.frame]; exact e.heads
  contexts := by
    rw [hf.contexts, e.contexts]
    refine List.map_congr_left fun d hd => ?_
    have hkey : s.contexts.keys.contains d.1 = true := List.contains_iff_mem.mpr (List.mem_map_of_mem hd)
    rw [e.rescueBy hown hres (Table.get?_of_mem hown.1.1 hd), if_pos hkey]
  links := by
    rw [hf.links, e.links, State.linksEnded, List.map_map]
    refine List.map_congr_left fun d hd => ?_
    have hget := Table.get?_of_mem hown.links_wf hd
    have hlost (l : Nat) : v.lostBy h s.contexts.keys l = (s.linkServing l == some h) := by
      rw [← e.contexts, lostBy_keys (e.own hown), e.linkServing]
    have htarget := mem_preparedOwners_iff (h := h) hres hhand hget
    unfold State.linkBehind
    dsimp only [Function.comp_apply]
    by_cases hin : d.1 ∈ (s.account h).preparedOwners
    · have hnot := (phase_of_prepared hres hin).2
      simp [hin, hlost, hnot, htarget.mp hin]
    · have hnot : ¬ d.2.phase.target? = some h := fun ht => hin (htarget.mpr ht)
      simp only [List.contains_iff_mem, hin, if_false, hlost, contains_standingOwners, beq_iff_eq, hnot]
  account := by
    rw [hf.account, e.account]
    rfl
  others g hg := by
    have hlost : v.lostBy h s.contexts.keys = fun l => s.linkServing l == some h := by
      funext l
      rw [← e.contexts, lostBy_keys (e.own hown), e.linkServing]
    rw [hf.account, e.others g hg, hlost]
  orders := by
    rw [hf.orders, e.orders, List.append_assoc, Table.keys, List.filterMap_map, e.contexts]
    congr 1
    refine congrArg _ (List.filterMap_congr fun d hd => ?_)
    rw [Function.comp_apply, Table.get?_of_mem hown.1.1 hd, Option.bind_some, e.rescueBy hown hres (Table.get?_of_mem hown.1.1 hd)]
  notices := by
    have htold (u : State) : s.contexts.keys.foldl (v.tellLost h (s.account h).standingOwners) u = s.contexts.foldl (s.tellEntry h) u := by
      rw [Table.keys, List.foldl_map]
      exact List.foldl_ext _ _ _ fun u d hd => tellLost_of_entered e hown hres hd u
    obtain ⟨hn, ho⟩ := e.notices
    obtain ⟨hn', ho'⟩ := (posts_told v h (s.account h).standingOwners s.contexts.keys).congr _ v hn ho
    rw [htold, htold] at hn' ho'
    obtain ⟨hnotices, hoverflow⟩ := hf.notices
    rw [htold] at hnotices hoverflow
    exact ⟨hnotices.trans hn', hoverflow.trans ho'⟩
  frame := by
    have hheads : w.heads = v.heads := by rw [hf.frame]
    rw [hheads]
    refine hf.frame.trans ?_
    conv_lhs => rw [e.frame]

end Sys2Proof.Machine
end

section
/-! The reefers of a faulted head (R37): its pages end, its wait list is emptied, and the polls it sent end. -/

namespace Sys2Proof.Machine

variable {s t u v w : State} {i j k l n : Nat} {c d : Context} {g h : HeadIx} {res : Result} {q : List Nat}

/-! ### Pages that end, whether they are pending or not -/

theorem reefers_endPages (hwf : s.reefers.wf n) (q : List Nat) (res : Result) :
    (endPages res q s).reefers = s.reefers.map (Reefer.endedIn q) := by
  induction q generalizing s with
  | nil => exact (List.map_id _).symm
  | cons i rest ih =>
    have hone := reefers_endPage hwf i res
    rw [endPages, ih (hone ▸ Table.modify_wf _ _ hwf), hone, Table.modify, List.map_map]
    refine List.map_congr_left fun e _ => ?_
    by_cases he : e.1 = i <;> by_cases hin : e.1 ∈ rest <;> simp_all [Reefer.endedIn, Reefer.pageEnded]

theorem pageQueue_endPage (hout : i ∉ s.pageQueue g) (res : Result) : (s.endPage i res).pageQueue g = s.pageQueue g := by
  rcases s.endPage_cases i res with ⟨-, e⟩ | ⟨r, p, hr, hp, -⟩
  · rw [e]
  · rw [endPage_eq hr hp]
    show (s.queuesWithout [i]).get g = _
    rw [State.queuesWithout, get_mapEach]
    refine List.filter_eq_self.mpr fun j hj => ?_
    have hne : j ≠ i := fun hji => hout (hji ▸ hj)
    simp [hne]

theorem pageQueue_endPages (hout : ∀ i ∈ q, i ∉ s.pageQueue g) (res : Result) : (endPages res q s).pageQueue g = s.pageQueue g := by
  induction q generalizing s with
  | nil => rfl
  | cons i rest ih =>
    have hone := pageQueue_endPage (hout i List.mem_cons_self) res
    rw [endPages, ih fun j hj => by rw [hone]; exact hout j (List.mem_cons_of_mem _ hj), hone]

/-- Of different records, those without a page are passed over. -/
theorem endPages_paged (hq : q.Nodup) (res : Result) : endPages res q s = endPages res (q.filter s.paged) s := by
  induction q generalizing s with
  | nil => rfl
  | cons i rest ih =>
    obtain ⟨hnew, hrest⟩ := List.nodup_cons.mp hq
    have hsame : rest.filter (s.endPage i res).paged = rest.filter s.paged := by
      refine List.filter_congr fun j hj => ?_
      rw [State.paged, State.paged, endPage_get?_of_ne fun hji : j = i => hnew (hji ▸ hj)]
    rw [endPages, ih hrest, hsame]
    cases hp : s.paged i with
    | true => rw [List.filter_cons_of_pos hp, endPages]
    | false =>
      rw [List.filter_cons_of_neg (by rw [hp]; nofun)]
      rcases s.endPage_cases i res with ⟨-, e⟩ | ⟨r, p, hr, hpage, -⟩
      · rw [e]
      · rw [State.paged, hr, Option.any_some, hpage] at hp
        cases hp

theorem filterMap_pageEntry_paged (s : State) (q : List Nat) : (q.filter s.paged).filterMap s.pageEntry = q.filterMap s.pageEntry := by
  rw [List.filterMap_filter]
  refine List.filterMap_congr fun i _ => ?_
  cases hp : s.paged i with
  | true => rfl
  | false =>
    rw [if_neg nofun, State.pageEntry]
    cases hr : s.reefers.get? i with
    | none => rfl
    | some r =>
      rw [State.paged, hr, Option.any_some] at hp
      have hnone : r.page = none := Option.not_isSome_iff_eq_none.mp (by rw [hp]; nofun)
      rw [Option.bind_some, hnone]
      rfl

theorem replies_endPages (hq : q.Nodup) (res : Result) :
    ((endPages res q s).inflight, (endPages res q s).replies) = s.endings (q.filterMap s.pageEntry) res := by
  rw [endPages_paged hq, endPages_eq res _ s (hq.filter _) fun i hi => ?_, filterMap_pageEntry_paged]
  have hp := (List.mem_filter.mp hi).2
  unfold State.paged at hp
  cases hr : s.reefers.get? i with
  | none => rw [hr] at hp; cases hp
  | some r =>
    rw [hr] at hp
    obtain ⟨p, hp⟩ := Option.isSome_iff_exists.mp hp
    exact ⟨r, p, rfl, hp⟩

/-! ### The reefers of the head -/

/-- A reefer record behind the fault of a head with the page queue `queue` and the wait list `waiting` (R37). -/
def Reefer.freed (h : HeadIx) (queue waiting : List Nat) (e : Nat × Reefer) : Reefer :=
  { e.2 with page := if queue.contains e.1 then none else e.2.page, poll := pollAfterFault h waiting e }

/-- The pages, waits and polls of head `h` have ended. -/
structure Freed (h : HeadIx) (s t : State) : Prop where
  reefers : t.reefers = s.reefers.map fun e => (e.1, Reefer.freed h (s.pageQueue h) (s.pollWait h) e)
  queue : t.pageQueue h = []
  waits : t.pollWait h = []
  otherWaits : ∀ g, g ≠ h → t.pollWait g = s.pollWait g
  otherQueues : ∀ g, g ≠ h → (∀ i ∈ s.pageQueue h, i ∉ s.pageQueue g) → t.pageQueue g = s.pageQueue g
  replies : (s.pageQueue h).Nodup → (t.inflight, t.replies) = s.endings ((s.pageQueue h).filterMap s.pageEntry) .noPath
  frame : t = { s with
    reefers := t.reefers, pageQueues := t.pageQueues, pollWaits := t.pollWaits, inflight := t.inflight, replies := t.replies }

theorem freed (hwf : s.reefers.wf n) (h : HeadIx) : Freed h s (s.faultReefers h) := by
  have hframe := endPages_frame .noPath (s.pageQueue h) s
  have hrecords := reefers_endPages hwf (s.pageQueue h) .noPath
  have hqueues {g : HeadIx} (hout : ∀ i ∈ s.pageQueue h, i ∉ s.pageQueue g) := pageQueue_endPages hout .noPath
  have hends (hq : (s.pageQueue h).Nodup) := replies_endPages (s := s) hq .noPath
  rw [faultReefers_eq]
  generalize endPages .noPath (s.pageQueue h) s = w at *
  have hwait (g : HeadIx) : w.pollWait g = s.pollWait g := by rw [hframe]; rfl
  exact {
    reefers := by
      show w.reefers.map (fun e => (e.1, { e.2 with poll := pollAfterFault h (w.pollWait h) e })) = _
      rw [hrecords, hwait, List.map_map]
      refine List.map_congr_left fun e _ => ?_
      by_cases hin : e.1 ∈ s.pageQueue h <;> simp [Reefer.endedIn, Reefer.freed, Reefer.pageEnded, pollAfterFault, hin]
    queue := State.pageQueue_setPageQueue_self (s := w) h []
    waits := State.pollWait_setPollWait_self (s := w.setPageQueue h []) h []
    otherWaits := fun g hg => (State.pollWait_setPollWait_of_ne (s := w.setPageQueue h []) [] hg).trans (hwait g)
    otherQueues := fun g hg hout => (State.pageQueue_setPageQueue_of_ne (s := w) [] hg).trans (hqueues hout)
    replies := hends
    frame := by
      obtain ⟨rs, qs, fl, rp, hw⟩ : ∃ rs qs fl rp, w = { s with reefers := rs, pageQueues := qs, inflight := fl, replies := rp } :=
        ⟨_, _, _, _, hframe⟩
      rw [hw]
      rfl }

end Sys2Proof.Machine
end

section
/-! The fault of a head, whole (O35). -/

namespace Sys2Proof.Machine

variable {s t u v w : State} {i j k l n : Nat} {c d : Context} {g h : HeadIx} {y : CraneLink} {cause : FaultCause}

/-! ### The parts in their order -/

/-- The entry, the contexts, the reefers, and the reply to a staged SWEEP_SET (R31, R36 to R38, R43). -/
theorem enterFault_parts (hown : Own s) (hair : s.airtimeLaw) (hhand : s.handoverLaw) (hres : s.reservationLaw) :
    ∃ w u, FaultTold h cause s w ∧ Freed h w u ∧
      s.enterFault h cause =
        if (s.head h).staged.isSome then u.endOldest (InFlight.isFor .sweepSet (.head h)) .done else u := by
  obtain ⟨v, hv⟩ : ∃ v, v = ((((s.faultEntered h cause).order (.beam h none)).modAccount h Account.emptied).fit h) := ⟨_, rfl⟩
  have e : Entered h cause s v := hv ▸ entered hown.links_wf hair (hres.1 h)
  have hcontexts : v.contexts = ((s.faultEntered h cause).order (.beam h none)).contexts := by
    rw [hv, State.fit_frame (((s.faultEntered h cause).order (.beam h none)).modAccount h Account.emptied) h]
    rfl
  have hf : FaultedBy h (s.account h).standingOwners s.contexts.keys v (faultContexts h (s.account h).standingOwners s.contexts.keys v) :=
    faultedBy_contexts (e.own hown) (e.airtime hair) (e.aimed hres) (Table.keys_nodup hown.1.1) fun k hk => by
      rw [e.contexts]
      exact (Table.mem_keys _ _).mp hk
  have hwf : (faultContexts h (s.account h).standingOwners s.contexts.keys v).reefers.wf Config.reeferRecords :=
    ((WorkKept.faultContexts h _ _).own (e.own hown)).reefers_wf
  refine ⟨_, _, faultTold hown hhand hres e hf, freed hwf h, ?_⟩
  rw [enterFault_eq, State.faultTaken, ← hv, ← hcontexts, e.contexts]

theorem tag_faulted (h : HeadIx) (r : Option HeadIx) (c : Context) : (c.faulted h r).tag = c.tag := by
  cases r <;> rfl

theorem FaultTold.tags (e : FaultTold h cause s w) (k : Nat) : (w.contexts.get? k).map (·.tag) = (s.contexts.get? k).map (·.tag) := by
  rw [e.contexts, get?_map_keyed s.contexts fun d => d.2.faulted h (s.rescueBy h d.2)]
  cases s.contexts.get? k with
  | none => rfl
  | some c => exact congrArg some (tag_faulted _ _ _)

/-- The head that rescues a context is another one (R116). -/
theorem rescue_ne (hown : Own s) (hhand : s.handoverLaw) (hres : s.reservationLaw) (hc : s.contexts.get? k = some c)
    (hg : s.rescueBy h c = some g) : c.serving = some h ∧ g ≠ h := by
  unfold State.rescueBy at hg
  split at hg
  · next hserving =>
    refine ⟨hserving, fun hgh => ?_⟩
    obtain ⟨⟨l, y⟩, hy, htarget⟩ := Option.bind_eq_some_iff.mp hg
    obtain ⟨-, -, hget⟩ := craneOf_eq_some hy
    have hin := (mem_preparedOwners_iff hres hhand hget).mpr (htarget.trans (congrArg some hgh))
    refine (phase_of_prepared hres hin).2 ?_
    rw [linkServing_of_owner hget, State.serves, hown.owner_of_context hc (link?_of_craneOf hy) hget, hc]
    exact hserving
  · cases hg

/-- A context that has met the fault knows the head no more (R4). -/
theorem faulted_gone {r : Option HeadIx} (hr : ∀ g, r = some g → g ≠ h) (c : Context) :
    (c.faulted h r).serving ≠ some h ∧ ∀ y ∈ (c.faulted h r).cands, y.head ≠ h := by
  have hcands : ∀ y ∈ (c.lostHead h).cands, y.head ≠ h := fun y hy => by simpa using (List.mem_filter.mp hy).2
  cases r with
  | none =>
    refine ⟨?_, hcands⟩
    show (if c.serving = some h then none else c.serving) ≠ some h
    split
    · nofun
    · next hne => exact hne
  | some g =>
    refine ⟨fun he => hr g rfl (Option.some.inj he), fun y hy => ?_⟩
    obtain ⟨y', hy', rfl⟩ := List.mem_map.mp hy
    exact hcands y' hy'

theorem enterFault_of_parts (e : FaultTold h cause s w) (f : Freed h w u) :
    ∃ fl rp, (if (s.head h).staged.isSome then u.endOldest (InFlight.isFor .sweepSet (.head h)) .done else u) =
        { u with inflight := fl, replies := rp } ∧
      ((s.pageQueue h).Nodup → (fl, rp) =
        let pages := s.endings ((s.pageQueue h).filterMap s.pageEntry) .noPath
        if (s.head h).staged.isSome then s.ending pages (InFlight.isFor .sweepSet (.head h)) .done else pages) := by
  have hqueue : w.pageQueue h = s.pageQueue h := by rw [e.frame]; rfl
  have hentry : w.pageEntry = s.pageEntry := funext fun i => pageEntry_congr (by rw [e.frame])
  have hends := endings_congr (t := w) (s := s) (by rw [e.frame]) (by rw [e.frame]) e.tags ((s.pageQueue h).filterMap s.pageEntry) .noPath
  have hreplies := f.replies
  rw [hqueue, hentry, hends] at hreplies
  have htags : ∀ k, (u.contexts.get? k).map (·.tag) = (s.contexts.get? k).map (·.tag) := fun k => by
    rw [f.frame]
    exact e.tags k
  split
  · refine ⟨_, _, endOldest_ending u _ _, fun hq => ?_⟩
    rw [ending_of_tags htags, hreplies hq]
  · exact ⟨u.inflight, u.replies, rfl, hreplies⟩

/-! ### The statement's forms -/

theorem faulted_eq (h : HeadIx) (r : Option HeadIx) (c : Context) :
    c.faulted h r =
      match r with
      | some g =>
        { c with
          serving := some g
          sector := (((c.cands.filter fun y => y.head != h).find? fun y => y.head == g).map (·.sector)).getD c.sector
          cands := (c.cands.filter fun y => y.head != h).map fun y => { y with ttt := 0, missing := if y.head = g then 0 else y.missing } }
      | none => { c with cands := c.cands.filter fun y => y.head != h, serving := if c.serving = some h then none else c.serving } := by
  cases r with
  | none => rfl
  | some g =>
    have hsector : ((c.lostHead h).serveOn g).sector =
        (((c.cands.filter fun y => y.head != h).find? fun y => y.head == g).map (·.sector)).getD c.sector := by
      unfold Context.serveOn Context.entry? Context.lostHead
      dsimp only
      cases (c.cands.filter fun y => y.head != h).find? fun y => y.head == g <;> rfl
    dsimp only
    rw [← hsector]
    rfl

theorem linkBehind_eq (s : State) (h : HeadIx) (e : Nat × CraneLink) :
    s.linkBehind h e =
      if s.linkServing e.1 = some h ∧ e.2.stopsIf (s.holds .standing e.1 h) = true then
        { e.2 with state := .safeStop, cause := some .pathLost, next := none }
      else if s.linkServing e.1 = some h ∨ e.2.phase.target? = some h then { e.2 with phase := .none }
      else e.2 := by
  unfold State.linkBehind CraneLink.lostPath
  by_cases hserving : s.linkServing e.1 = some h <;> simp [hserving]

theorem freed_eq (h : HeadIx) (queue waiting : List Nat) (e : Nat × Reefer) :
    Reefer.freed h queue waiting e =
      { e.2 with
        page := if queue.contains e.1 then none else e.2.page
        poll := if waiting.contains e.1 then .none
          else match e.2.poll with
            | .outstanding g n => if g = h then .none else .outstanding g n
            | q => q } := by
  have hpoll : pollAfterFault h waiting e = if waiting.contains e.1 then .none
      else match e.2.poll with
        | .outstanding g n => if g = h then .none else .outstanding g n
        | q => q := by
    unfold pollAfterFault
    cases e.2.poll <;> rfl
  rw [Reefer.freed, hpoll]

theorem poll_freed_ne (h : HeadIx) (queue waiting : List Nat) (e : Nat × Reefer) (n : Nat) :
    (Reefer.freed h queue waiting e).poll ≠ .outstanding h n := by
  intro hpoll
  have hsent := pollAfterFault_sentBy_self h waiting e
  rw [show pollAfterFault h waiting e = .outstanding h n from hpoll] at hsent
  simp [Poll.sentBy] at hsent

/-- A LINE_FAULT in service, a lock-wait expiry and a holdover expiry are each the fault of the head (R29 to R31). -/
theorem exec_fault {x : Instr}
    (hx : (∃ b short, b.toNat = h.val ∧ x = .lineFault b short ∧ (s.head h).state.inService = true ∧
        cause = if short then .lineShort else .lineOpen) ∨
      (x = .lockWaitExpiry h ∧ (s.head h).state = .starting ∧ (s.head h).lockTimer = some 0 ∧ cause = .noLock) ∨
      (x = .holdoverExpiry h ∧ (s.head h).state = .holdover ∧ (s.head h).holdoverTimer = some 0 ∧ cause = .holdoverExpired)) :
    exec x s = .next (s.enterFault h cause) := by
  rcases hx with ⟨b, short, hb, rfl, hin, rfl⟩ | ⟨rfl, hstate, htimer, rfl⟩ | ⟨rfl, hstate, htimer, rfl⟩
  · rw [exec_lineFault_eq hb, lineFault, if_pos hin]
  · show Host.Outcome.next (s.lockWaitExpiry h) = _
    rw [State.lockWaitExpiry, if_pos ⟨hstate, htimer⟩]
  · show Host.Outcome.next (s.holdoverExpiry h) = _
    rw [State.holdoverExpiry, if_pos ⟨hstate, htimer⟩]

/-- Settles O35, from the entry, the contexts and the reefers in their order. -/
theorem faultClearsTheHead : Obligations.FaultClearsTheHead := by
  intro h s x cause htables howners hair hhand hres hx a crane rescue stops told posted pages
  have hown : Own s := ⟨htables, howners⟩
  obtain ⟨w, u, e, f, heq⟩ := enterFault_parts (h := h) (cause := cause) hown hair hhand hres
  obtain ⟨fl, rp, hends, hreplies⟩ := enterFault_of_parts e f
  have hheads : u.heads = (s.modHead h (Head.faulted cause)).heads := by rw [f.frame]; exact e.heads
  have haccount (g : HeadIx) : u.account g = w.account g := account_of_airtime (by rw [f.frame]) g
  have hcontexts : u.contexts = s.contexts.map fun e => (e.1, e.2.faulted h (s.rescueBy h e.2)) := by rw [f.frame]; exact e.contexts
  have hqueue (g : HeadIx) : w.pageQueue g = s.pageQueue g := by rw [e.frame]; rfl
  have hwait (g : HeadIx) : w.pollWait g = s.pollWait g := by rw [e.frame]; rfl
  have hrecords : u.reefers = s.reefers.map fun e => (e.1, Reefer.freed h (s.pageQueue h) (s.pollWait h) e) := by
    rw [f.reefers, hqueue, hwait, e.frame]
  have htold : told = s.tellEntry h := by
    funext v d
    show (if d.2.serving = some h then _ else _) = State.tellEntry s h v d
    unfold State.tellEntry
    split
    · show (match s.rescueBy h d.2 with | some g => _ | none => _) = _
      cases s.rescueBy h d.2 <;> rfl
    · rfl
  have hposted : posted = s.contexts.foldl (s.tellEntry h) (s.faultPosted h cause) := by
    show s.contexts.foldl told _ = _
    rw [htold]
    rfl
  refine ⟨{ u with inflight := fl, replies := rp }, ?_, ?_, fun g hg => ?_, ?_, fun g hg => ?_, ?_, ?_, ?_, f.queue, f.waits,
    fun g hg => ⟨?_, fun hpages => ?_⟩, ?_, ?_, ?_, ?_, ?_, hreplies, ?_⟩
  · rw [exec_fault hx, heq, hends]
  · exact (head_of_heads hheads h).trans (State.head_setHead_self s h _)
  · exact (head_of_heads hheads g).trans (State.head_setHead_of_ne _ _ hg)
  · exact (haccount h).trans e.account
  · exact (haccount g).trans (e.others g hg)
  · show ∀ d ∈ u.contexts, _
    rw [hcontexts]
    intro d hd
    obtain ⟨d', hd', rfl⟩ := List.mem_map.mp hd
    exact faulted_gone (fun g hg => (rescue_ne hown hhand hres (Table.get?_of_mem htables.1 hd') hg).2) _
  · refine hcontexts.trans (List.map_congr_left fun d _ => congrArg (Prod.mk d.1) (faulted_eq h _ d.2))
  · show u.links = _
    rw [f.frame]
    exact e.links.trans (List.map_congr_left fun d _ => congrArg (Prod.mk d.1) (linkBehind_eq s h d))
  · exact (f.otherWaits g hg).trans (hwait g)
  · obtain ⟨-, -, hserved, -⟩ := hpages
    refine (f.otherQueues g hg fun i hi hi' => hg ?_).trans (hqueue g)
    rw [hqueue] at hi hi'
    exact Option.some.inj ((hserved g i hi').1.symm.trans (hserved h i hi).1)
  · show ∀ d ∈ u.reefers, _
    rw [hrecords]
    intro d hd n
    obtain ⟨d', -, rfl⟩ := List.mem_map.mp hd
    exact poll_freed_ne h _ _ d' n
  · refine hrecords.trans (List.map_congr_left fun d _ => congrArg (Prod.mk d.1) (freed_eq h _ _ d))
  · show u.orders = _
    rw [f.frame]
    exact e.orders
  · rw [hposted]
    show u.notices = _
    rw [f.frame]
    exact e.notices.1
  · rw [hposted]
    show u.overflow = _
    rw [f.frame]
    exact e.notices.2
  · obtain ⟨xs, cs, ls, accounts, os, ns, o, hw⟩ : ∃ xs cs ls accounts os ns o, w = { s with
        heads := xs, contexts := cs, links := ls, airtime := accounts, orders := os, notices := ns, overflow := o } :=
      ⟨_, _, _, _, _, _, _, e.frame⟩
    obtain ⟨rs, qs, ws, fl', rp', hu⟩ : ∃ rs qs ws fl' rp', u = { w with
        reefers := rs, pageQueues := qs, pollWaits := ws, inflight := fl', replies := rp' } :=
      ⟨_, _, _, _, _, f.frame⟩
    rw [hu, hw]

end Sys2Proof.Machine
end
